-- ==== Sys2Proof/Word.lean ====
section
/-! DEFINITION. The word types of the 4120: the byte that crosses a port, the sensor bus or the monitor bus. Positions,
velocities, counts and times are numbers with exact integer arithmetic (00_scope.md, section 6), so they are `Int` and `Nat`. -/

namespace Sys2Proof

/-- One byte on a port, the sensor bus or the monitor bus. -/
abbrev Byte := BitVec 8

end Sys2Proof
end

