-- ==== Sys2Proof/Config.lean ====
section
/-! DEFINITION. What the part fixes once: identification (R192), limits and capacities that the chapters state as numbers,
and the model's bound on the chain of reactions inside one step (DESIGN CHOICE, log entry 7). The spec leaves no result value undefined,
so there is no free value here. -/

namespace Sys2Proof.Config

/-- Vendor code 3A17h (R192). -/
def vendorCode : Nat := 0x3A17
/-- Part number (R192). -/
def partNumber : Nat := 4120
/-- The silicon revision letter A (R192), as its character code. -/
def revisionLetter : Nat := 65

/-- The lower soft limit in µm (R12). -/
def lowerLimit : Int := -2000000
/-- The upper soft limit in µm while no tail position is present (R12). -/
def upperLimitNoTail : Int := 80000000
/-- The signed 32-bit extremes (R9, R11, R18). -/
def minPosition : Int := -2147483648
def maxPosition : Int := 2147483647

/-- Capacity of the splice list and its merging distance in µm (R15). -/
def spliceCapacity : Nat := 64
def spliceSpacing : Int := 1000
/-- Capacity of the frame index (R126). -/
def indexCapacity : Nat := 8192
/-- Notice queue level that sets the backlog hold and level that clears it (R151). -/
def backlogSet : Nat := 28
def backlogClear : Nat := 8
/-- Capacities of the retrieval queue, and of the queue and the completion list together (R164). -/
def queueCapacity : Nat := 16
def outstandingCapacity : Nat := 24
/-- Capacity of the hint list (R178). -/
def hintCapacity : Nat := 4
/-- Capacity of the pending mark list (R119). -/
def markCapacity : Nat := 16
/-- The line counter's limit (R71). -/
def lineLimit : Nat := 4294967295
/-- Homing steps issued before the switch is given up (R87). -/
def homingLimit : Nat := 4400
/-- Highest lens step (R85). -/
def maxLensStep : Nat := 4095
/-- Probes after which a search ends (R96). -/
def probeBudget : Nat := 64
/-- Milliseconds without an illegal phase change after which the encoder is settled (R10). -/
def unsettledTime : Nat := 100
/-- Milliseconds for which a target may hold SENS_SCL low (R57). -/
def sclHoldLimit : Nat := 25
/-- Bytes of one monitor-bus segment (R75). -/
def segmentBytes : Nat := 64
/-- Bytes of script memory (R64). -/
def scriptBytes : Nat := 256
/-- Largest number of data bytes in a script request (R64). -/
def scriptChunk : Nat := 56
/-- Largest payload of a request or response (R184). -/
def maxPayload : Nat := 60
/-- MOSI bytes of a transaction that the port stores (R182). -/
def storedBytes : Nat := 64

/-- Model's bound on the number of reactions followed inside one step (log entry 7, DEDUCED): far above any chain that the
rules can make, since each reaction uses up a report, a request's retry, a request, a hint or a run state. -/
def cascadeBound : Nat := 4096

end Sys2Proof.Config
end

