-- ==== Sys2Proof/Syntax.lean ====
section
/-! DEFINITION. The commands of the 4120: one constructor per row of spec/opcode_table.json, with the row's operands.

A port command carries the port it arrives on and the MOSI bytes of its transaction after the code byte: tag, length, payload
and surplus (R182, R184). The CONFIG_WRITE rows name the item of their group and carry tag, length and the bytes that follow the item
identifier; the frame of an unknown item may end before an identifier. A field-side command carries the levels or the byte that it
brings. -/

namespace Sys2Proof

/-- The three client ports (Table 0-3). -/
inductive PortId where
  | capture | request | service
  deriving DecidableEq, Repr

/-- Levels of the inputs at the release of RESET_N (R3, R9, R194). Drive fault and home switch are given as asserted or not. -/
structure ReleaseLevels where
  filmPresent : Bool
  encA : Bool
  encB : Bool
  driveFault : Bool
  driveReady : Bool
  lensHome : Bool
  blipIn : Bool
  deriving DecidableEq, Repr

/-- Levels of the level-read inputs as they stand at one millisecond (R24, R25, R87; DESIGN CHOICE, log entry 5). -/
structure PinSample where
  driveFault : Bool
  driveReady : Bool
  lensHome : Bool
  deriving DecidableEq, Repr

/-- How a sensor bus attempt ends at the target's side (R56, R57): every byte acknowledged, with the data bytes read in the order
received (none for a script pair, one for U8, two for U16 and S16), or one byte not acknowledged. -/
inductive BusOutcome where
  | acknowledged (data : List Byte)
  | notAcknowledged
  deriving DecidableEq, Repr

/-- Items of Table 1-3. -/
inductive RollItem where
  | spliceOffset | correctionWindow | matchWindow
  deriving DecidableEq, Repr

/-- Items of Table 2-5. -/
inductive TransportItem where
  | acceleration | seekMaximum | seekMargin | arrivalWindow | spliceZone | spliceSpeed | runUpMargin | creepSpeed
  | probeSpeed | jogSpeed | tensionSettle | parkTimeout
  deriving DecidableEq, Repr

/-- Items of Table 5-3. -/
inductive FocusItem where
  | stepRate | lensSettle | focusWindow | coarseStep | searchTravel | minimumScore | searchPitch | trackThreshold | probeOffset
  deriving DecidableEq, Repr

/-- Items of Table 6-5. -/
inductive DetectorItem where
  | enterNeg | leaveNeg | enterPos | leavePos | minGap | maxFrame | blipOffset | blipActive | l1Min | l2Min | l3Min | maxMark
  deriving DecidableEq, Repr

/-- Items of Table 9-4. -/
inductive RetrievalItem where
  | holdTime | deferralTimeout | bypassLimit | confirmPitch
  deriving DecidableEq, Repr

/-- The commands. `mosi` is the list of whole MOSI bytes after the code byte. -/
inductive Instr where
  | pinReset (levels : ReleaseLevels)
  | softReset (port : PortId) (mosi : List Byte)
  | unknownCodeFrame (port : PortId) (code : Byte) (mosi : List Byte)
  | statusRequest (port : PortId) (mosi : List Byte)
  | identify (port : PortId) (mosi : List Byte)
  | fetch (port : PortId) (mosi : List Byte)
  | ackEvents (port : PortId) (mosi : List Byte)
  | eventMask (port : PortId) (mosi : List Byte)
  | indexRead (port : PortId) (mosi : List Byte)
  | scanStart (port : PortId) (mosi : List Byte)
  | scanPause (port : PortId) (mosi : List Byte)
  | scanResume (port : PortId) (mosi : List Byte)
  | scanAbort (port : PortId) (mosi : List Byte)
  | noticesRead (port : PortId) (mosi : List Byte)
  | retrieve (port : PortId) (mosi : List Byte)
  | cancel (port : PortId) (mosi : List Byte)
  | hint (port : PortId) (mosi : List Byte)
  | releaseHold (port : PortId) (mosi : List Byte)
  | completionsRead (port : PortId) (mosi : List Byte)
  | indexFind (port : PortId) (mosi : List Byte)
  | declareRoll (port : PortId) (mosi : List Byte)
  | releaseRoll (port : PortId) (mosi : List Byte)
  | setDatum (port : PortId) (mosi : List Byte)
  | jog (port : PortId) (mosi : List Byte)
  | serviceSeek (port : PortId) (mosi : List Byte)
  | stop (port : PortId) (mosi : List Byte)
  | halt (port : PortId) (mosi : List Byte)
  | clearFault (port : PortId) (mosi : List Byte)
  | lensHome (port : PortId) (mosi : List Byte)
  | lensMove (port : PortId) (mosi : List Byte)
  | focusSearch (port : PortId) (mosi : List Byte)
  | slotConfigEnable (port : PortId) (mosi : List Byte)
  | slotConfigDisable (port : PortId) (mosi : List Byte)
  | slotRestart (port : PortId) (mosi : List Byte)
  | slotRead (port : PortId) (mosi : List Byte)
  | scriptWrite (port : PortId) (mosi : List Byte)
  | scriptRead (port : PortId) (mosi : List Byte)
  | configWriteRollItem (port : PortId) (tag len : Byte) (item : RollItem) (value : List Byte)
  | configWriteTransportItem (port : PortId) (tag len : Byte) (item : TransportItem) (value : List Byte)
  | configWriteBusSpeed (port : PortId) (tag len : Byte) (value : List Byte)
  | configWriteCombineMode (port : PortId) (tag len : Byte) (value : List Byte)
  | configWriteLineRate (port : PortId) (tag len : Byte) (value : List Byte)
  | configWriteTapMap (port : PortId) (tag len : Byte) (value : List Byte)
  | configWriteStride (port : PortId) (tag len : Byte) (value : List Byte)
  | configWriteFocusItem (port : PortId) (tag len : Byte) (item : FocusItem) (value : List Byte)
  | configWriteDetectorItem (port : PortId) (tag len : Byte) (item : DetectorItem) (value : List Byte)
  | configWriteRetrievalItem (port : PortId) (tag len : Byte) (item : RetrievalItem) (value : List Byte)
  | configWriteUnknownItem (port : PortId) (tag len : Byte) (item : Option Byte) (value : List Byte)
  | configRead (port : PortId) (mosi : List Byte)
  | indexImportBegin (port : PortId) (mosi : List Byte)
  | indexImportEntry (port : PortId) (mosi : List Byte)
  | indexImportEnd (port : PortId) (mosi : List Byte)
  | indexClose (port : PortId) (mosi : List Byte)
  | indexReopen (port : PortId) (mosi : List Byte)
  | filmPresentChange (sample1 sample2 : Bool)
  | encoderPhaseChange (encA encB : Bool)
  | encoderUnsettledExpiry
  | splicePulse
  | profileStep (pins : PinSample)
  | seekTimeout
  | hunting
  | driveFault
  | retensioningEnd
  | parkTimeout
  | slotDueTime (slot : Fin 4)
  | preInitWaitEnd (slot : Fin 4)
  | postInitWaitEnd (slot : Fin 4)
  | busAttemptEnd (outcome : BusOutcome)
  | sclHoldTimeout
  | segmentComplete (byte : Byte)
  | blipStartEdge
  | blipEndEdge
  | lensStepDue
  | lensSettleEnd
  | homingStep (homeSwitch : Bool)
  | homingStepLimit
  | deferralExpiry (ticket : Nat)
  | holdTimeout
  | monitorByteReceived (byte : Byte)
  deriving DecidableEq, Repr

end Sys2Proof
end

