-- ==== Sys2Proof/Decode.lean ====
section
/-! DEFINITION. The reading of a table word as a command. No row of spec/opcode_table.json gives bits ("fields" is empty and there is
no "fixed" on every row), so no word spells a command, and the decoder answers none on every word. -/

namespace Sys2Proof

/-- The command that a word spells by the table's bits: none, since no row has bits. -/
def decodeTableWord (_nbits _w : Nat) : Option Instr := none

end Sys2Proof
end

