-- ==== Sys2Proof/Machine/Codes.lean ====
section
/-! DEFINITION. The request codes and permissions (Table 11-2, Table 10-2) and the configuration item identifiers and widths
(Table 11-5). -/

namespace Sys2Proof.Machine

/-- The requests of Table 11-2. -/
inductive Request where
  | status | identify | fetch | ackEvents | eventMask | indexRead
  | scanStart | scanPause | scanResume | scanAbort | noticesRead
  | retrieve | cancel | hint | releaseHold | completionsRead | indexFind
  | declareRoll | releaseRoll | setDatum | jog | serviceSeek | stop | halt | clearFault
  | lensHome | lensMove | focusSearch
  | slotConfig | slotRestart | slotRead | scriptWrite | scriptRead
  | configWrite | configRead
  | indexImportBegin | indexImportEntry | indexImportEnd | indexClose | indexReopen
  | softReset
  deriving DecidableEq, Repr

/-- Request codes (Table 11-2). -/
def requestCode : Request → Nat
  | .status => 0x01 | .identify => 0x02 | .fetch => 0x03 | .ackEvents => 0x04 | .eventMask => 0x05 | .indexRead => 0x06
  | .scanStart => 0x10 | .scanPause => 0x11 | .scanResume => 0x12 | .scanAbort => 0x13 | .noticesRead => 0x14
  | .retrieve => 0x20 | .cancel => 0x21 | .hint => 0x22 | .releaseHold => 0x23 | .completionsRead => 0x24
  | .indexFind => 0x25
  | .declareRoll => 0x30 | .releaseRoll => 0x31 | .setDatum => 0x32
  | .jog => 0x40 | .serviceSeek => 0x41 | .stop => 0x42 | .halt => 0x43 | .clearFault => 0x44
  | .lensHome => 0x50 | .lensMove => 0x51 | .focusSearch => 0x52
  | .slotConfig => 0x60 | .slotRestart => 0x61 | .slotRead => 0x62 | .scriptWrite => 0x63 | .scriptRead => 0x64
  | .configWrite => 0x70 | .configRead => 0x71
  | .indexImportBegin => 0x80 | .indexImportEntry => 0x81 | .indexImportEnd => 0x82 | .indexClose => 0x83
  | .indexReopen => 0x84
  | .softReset => 0xF0

/-- All requests, for the test that a code names none of them (R184). -/
def allRequests : List Request :=
  [.status, .identify, .fetch, .ackEvents, .eventMask, .indexRead, .scanStart, .scanPause, .scanResume, .scanAbort,
   .noticesRead, .retrieve, .cancel, .hint, .releaseHold, .completionsRead, .indexFind, .declareRoll, .releaseRoll,
   .setDatum, .jog, .serviceSeek, .stop, .halt, .clearFault, .lensHome, .lensMove, .focusSearch, .slotConfig,
   .slotRestart, .slotRead, .scriptWrite, .scriptRead, .configWrite, .configRead, .indexImportBegin, .indexImportEntry,
   .indexImportEnd, .indexClose, .indexReopen, .softReset]

/-- Whether a code names a request (R184). -/
def codeNamesRequest (code : Byte) : Bool := allRequests.any fun r => requestCode r == code.toNat

/-- Requests permitted on each port (R186, Table 10-2). -/
def permitted (r : Request) (p : PortId) : Bool :=
  match r with
  | .status | .indexRead | .ackEvents | .eventMask | .fetch | .identify => true
  | .scanStart | .scanPause | .scanResume | .noticesRead => p == .capture
  | .scanAbort => p == .capture || p == .service
  | .retrieve | .cancel | .hint | .releaseHold | .completionsRead | .indexFind => p == .request
  | _ => p == .service

/-- Port number in the status byte (R183). -/
def portNumber : PortId → Nat
  | .capture => 1 | .request => 2 | .service => 3

/-- A configuration item, by the block that owns it (R190). -/
inductive ConfigItem where
  | roll (i : RollItem)
  | transport (i : TransportItem)
  | busSpeed | combineMode
  | lineRate | tapMap | stride
  | focus (i : FocusItem)
  | detector (i : DetectorItem)
  | retrieval (i : RetrievalItem)
  deriving DecidableEq, Repr

def rollItemId : RollItem → Nat
  | .spliceOffset => 0x01 | .correctionWindow => 0x02 | .matchWindow => 0x03

def transportItemId : TransportItem → Nat
  | .acceleration => 0x10 | .seekMaximum => 0x11 | .seekMargin => 0x12 | .arrivalWindow => 0x13 | .spliceZone => 0x14
  | .spliceSpeed => 0x15 | .runUpMargin => 0x16 | .creepSpeed => 0x17 | .probeSpeed => 0x18 | .jogSpeed => 0x19
  | .tensionSettle => 0x1A | .parkTimeout => 0x1B

def focusItemId : FocusItem → Nat
  | .stepRate => 0x30 | .lensSettle => 0x31 | .focusWindow => 0x32 | .coarseStep => 0x33 | .searchTravel => 0x34
  | .minimumScore => 0x35 | .searchPitch => 0x36 | .trackThreshold => 0x37 | .probeOffset => 0x38

def detectorItemId : DetectorItem → Nat
  | .enterNeg => 0x40 | .leaveNeg => 0x41 | .enterPos => 0x42 | .leavePos => 0x43 | .minGap => 0x44 | .maxFrame => 0x45
  | .blipOffset => 0x46 | .blipActive => 0x47 | .l1Min => 0x48 | .l2Min => 0x49 | .l3Min => 0x4A | .maxMark => 0x4B

def retrievalItemId : RetrievalItem → Nat
  | .holdTime => 0x50 | .deferralTimeout => 0x51 | .bypassLimit => 0x52 | .confirmPitch => 0x53

/-- Item identifiers (Table 11-5). -/
def configItemId : ConfigItem → Nat
  | .roll i => rollItemId i
  | .transport i => transportItemId i
  | .busSpeed => 0x20 | .combineMode => 0x21
  | .lineRate => 0x28 | .tapMap => 0x29 | .stride => 0x2A
  | .focus i => focusItemId i
  | .detector i => detectorItemId i
  | .retrieval i => retrievalItemId i

/-- Widths of the items' values in bytes (Table 11-5). -/
def configItemWidth : ConfigItem → Nat
  | .roll .spliceOffset => 4
  | .roll _ => 2
  | .transport .acceleration => 1
  | .transport .spliceZone => 4
  | .transport .creepSpeed => 1
  | .transport .probeSpeed => 1
  | .transport _ => 2
  | .busSpeed => 2 | .combineMode => 1
  | .lineRate => 4 | .tapMap => 8 | .stride => 1
  | .focus .searchTravel => 4
  | .focus .trackThreshold => 1
  | .focus .probeOffset => 1
  | .focus _ => 2
  | .detector .enterNeg => 1
  | .detector .leaveNeg => 1
  | .detector .enterPos => 1
  | .detector .leavePos => 1
  | .detector .blipActive => 1
  | .detector .maxFrame => 4
  | .detector _ => 2
  | .retrieval .bypassLimit => 1
  | .retrieval _ => 2

/-- All configuration items, in the order of Table 11-5. -/
def allConfigItems : List ConfigItem :=
  [.roll .spliceOffset, .roll .correctionWindow, .roll .matchWindow,
   .transport .acceleration, .transport .seekMaximum, .transport .seekMargin, .transport .arrivalWindow,
   .transport .spliceZone, .transport .spliceSpeed, .transport .runUpMargin, .transport .creepSpeed,
   .transport .probeSpeed, .transport .jogSpeed, .transport .tensionSettle, .transport .parkTimeout,
   .busSpeed, .combineMode, .lineRate, .tapMap, .stride,
   .focus .stepRate, .focus .lensSettle, .focus .focusWindow, .focus .coarseStep, .focus .searchTravel,
   .focus .minimumScore, .focus .searchPitch, .focus .trackThreshold, .focus .probeOffset,
   .detector .enterNeg, .detector .leaveNeg, .detector .enterPos, .detector .leavePos, .detector .minGap,
   .detector .maxFrame, .detector .blipOffset, .detector .blipActive, .detector .l1Min, .detector .l2Min,
   .detector .l3Min, .detector .maxMark,
   .retrieval .holdTime, .retrieval .deferralTimeout, .retrieval .bypassLimit, .retrieval .confirmPitch]

/-- The item an identifier names, if any (R190). -/
def configItemOf (ident : Byte) : Option ConfigItem := allConfigItems.find? fun c => configItemId c == ident.toNat

end Sys2Proof.Machine
end

