-- ==== Sys2Proof/Machine/State.lean ====
section
/-! DEFINITION. The state of the 4120 as plain data: one structure per block of Table 0-1, each field with the rule that names it,
the queue of waiting commands, the reasons a step can stop, and the state after pin reset. Positions are µm as `Int`, times
milliseconds, counts and thresholds `Nat`. -/

namespace Sys2Proof.Machine

/-! ### Roll context and metering (chapter 1) -/

/-- Roll states (Table 1-2). -/
inductive RollState where
  | noRoll | threaded | ready | runout
  deriving DecidableEq, Repr

inductive Polarity where
  | negative | positive
  deriving DecidableEq, Repr

/-- A document address (batch, doc, page) (R126). -/
structure Address where
  batch : Nat
  doc : Nat
  page : Nat
  deriving DecidableEq, Repr

/-- Roll record (Table 1-1). -/
structure RollRecord where
  ident : Nat
  polarity : Polarity
  pitch : Nat
  tolerance : Nat
  base : Address
  deriving DecidableEq, Repr

inductive Direction where
  | forward | reverse
  deriving DecidableEq, Repr

/-- Configuration of the roll context (Table 1-3). -/
structure RollConfig where
  spliceOffset : Nat
  correctionWindow : Nat
  matchWindow : Nat
  deriving DecidableEq, Repr

/-- Roll context (R1 to R8, R14 to R18). -/
structure RollContext where
  record : Option RollRecord
  state : RollState
  datum : Bool
  tail : Option Int
  splices : List Int
  pendingCorrection : Option Int
  lastCorrection : Int
  /-- the sensed film-present level (R3) -/
  filmPresent : Bool
  cfg : RollConfig
  deriving DecidableEq, Repr

/-- Metering (R9, R10). -/
structure Metering where
  counter : Int
  phaseA : Bool
  phaseB : Bool
  unsettled : Bool
  /-- the millisecond at which the encoder counts as settled when no further fault comes (R10) -/
  settledAt : Nat
  deriving DecidableEq, Repr

/-! ### Transport controller (chapter 2) -/

/-- Motion states (Table 2-1). -/
inductive MotionState where
  | idle | parked | retensioning | jog | seek | creep | scan | stopping | halted
  deriving DecidableEq, Repr

inductive HaltCause where
  | drive | encoder | guardStop | filmLost | halt | reset
  deriving DecidableEq, Repr

inductive Tension where
  | hold | release
  deriving DecidableEq, Repr

/-- Grant owners; `nobody` is NONE (R22). -/
inductive Owner where
  | nobody | scan | retrieval | service
  deriving DecidableEq, Repr

inductive StopReason where
  | order | failure | runout | guardStop
  deriving DecidableEq, Repr

/-- Causes of a failed order (Table 2-2). -/
inductive FailCause where
  | timeout | hunting | limit | halted | driveNotReady | notOwner
  deriving DecidableEq, Repr

/-- Outcomes of an order (Table 2-2). -/
inductive OrderOutcome where
  | arrived | stopped | atLimit
  | failed (cause : FailCause)
  deriving DecidableEq, Repr

/-- The two creep speeds of R36. -/
inductive CreepSpeed where
  | confirm | probe
  deriving DecidableEq, Repr

/-- Kinds of motion order with their parameters (section 2.3). A scan order carries what its arm needs (R35, R69, R147). -/
inductive OrderKind where
  | seek (target : Int) (cap : Option Nat)
  | scan (start : Int) (speed pitch line : Nat) (stopAt : Option Int)
  | creep (speed : CreepSpeed)
  | jog (dir : Direction)
  | stop
  deriving DecidableEq, Repr

structure Order where
  owner : Owner
  kind : OrderKind
  deriving DecidableEq, Repr

/-- What a seek fixes at its start and counts (R31). -/
structure SeekRun where
  target : Int
  distance : Int
  cap : Nat
  limit : Nat
  elapsed : Nat
  reversals : Nat
  deriving DecidableEq, Repr

/-- The current motion order (R22): the order, its seek while it is a seek or positions a scan, the speed it read at its start,
and for a scan order whether the run phase has begun and BASE_REACHED been reported (R35). -/
structure CurrentOrder where
  order : Order
  seek : Option SeekRun
  speed : Nat
  runPhase : Bool
  baseReported : Bool
  deriving DecidableEq, Repr

/-- One drive frame (R23). -/
structure DriveFrame where
  demand : Int
  tension : Tension
  enable : Bool
  deriving DecidableEq, Repr

/-- Configuration of the transport (Table 2-5). -/
structure TransportConfig where
  acceleration : Nat
  seekMaximum : Nat
  seekMargin : Nat
  arrivalWindow : Nat
  spliceZone : Nat
  spliceSpeed : Nat
  runUpMargin : Nat
  creepSpeed : Nat
  probeSpeed : Nat
  jogSpeed : Nat
  tensionSettle : Nat
  parkTimeout : Nat
  deriving DecidableEq, Repr

/-- Transport controller (R22). -/
structure Transport where
  motion : MotionState
  haltCause : Option HaltCause
  tension : Tension
  driveEnable : Bool
  demand : Int
  lastDirection : Direction
  grant : Owner
  /-- a release that takes effect when the owner's order ends (R26) -/
  releasePending : Bool
  current : Option CurrentOrder
  held : Option Order
  stopReason : Option StopReason
  parkTimer : Nat
  /-- the millisecond at which re-tensioning ends (R39) -/
  tensionedAt : Option Nat
  /-- the Service order outcome; `none` is NONE (R22) -/
  serviceOutcome : Option OrderOutcome
  /-- the last frame sent on DRV_TXD (R23; DESIGN CHOICE, log entry 26) -/
  frame : Option DriveFrame
  cfg : TransportConfig
  deriving DecidableEq, Repr

/-! ### Guard unit (chapter 3) -/

inductive DataType where
  | u16 | s16 | u8
  deriving DecidableEq, Repr

inductive PowerMode where
  | periodic | always
  deriving DecidableEq, Repr

inductive Area where
  | outside | inside
  deriving DecidableEq, Repr

inductive SlotAction where
  | stop | mark | note
  deriving DecidableEq, Repr

/-- Guard slot record (Table 3-1). The thresholds are the 16-bit patterns as written; the data type says how they are read. -/
structure SlotRecord where
  enabled : Bool
  busAddress : Nat
  valueRegister : Nat
  dataType : DataType
  byteSwap : Bool
  powerMode : PowerMode
  period : Nat
  scriptStart : Nat
  pairCount : Nat
  preInitWait : Nat
  postInitWait : Nat
  retries : Nat
  underPattern : Nat
  overPattern : Nat
  area : Area
  debounce : Nat
  action : SlotAction
  vote : Bool
  deriving DecidableEq, Repr

inductive SlotState where
  | off | init | settle | polling | faulted
  deriving DecidableEq, Repr

inductive TripStatus where
  | clear | tripped
  deriving DecidableEq, Repr

/-- What a slot uses the bus for: writing one script pair, or reading its sample (R55, R56). -/
inductive BusUse where
  | pair (index : Nat)
  | sample
  deriving DecidableEq, Repr

/-- One guard slot (R48). -/
structure GuardSlot where
  record : SlotRecord
  state : SlotState
  trip : TripStatus
  runCount : Nat
  lastSample : Option Int
  nextDue : Option Nat
  pollInProgress : Bool
  /-- the failed attempts of the transaction in flight (DESIGN CHOICE, log entry 48) -/
  attempts : Nat
  /-- the schedule origin t0 (R51) -/
  origin : Nat
  /-- the millisecond at which the running pre-init or post-init wait ends (R52, R53) -/
  waitEnd : Option Nat
  /-- the bus use the slot waits for; present exactly while the slot is in the waiting set (R55) -/
  wants : Option BusUse
  deriving DecidableEq, Repr

/-- What passes on the sensor bus in an attempt (R56): the conditions that the controller makes, a byte that it sends and the target
acknowledges, and a data byte that it reads and acknowledges or not. -/
inductive BusSymbol where
  | start | repeatedStart | stop
  | send (b : Byte)
  | read (acknowledge : Bool)
  deriving DecidableEq, Repr

/-- The transaction that keeps the bus BUSY (R48, R55): its slot, its use, the form of its attempt (R56), the bus speed of the attempt
in kHz (R65), the millisecond at which the attempt began (R57; DEDUCED, log entry 39), and whether its result is discarded (R50,
R67). -/
structure BusTransaction where
  slot : Fin 4
  use : BusUse
  form : List BusSymbol
  speed : Nat
  begun : Nat
  discarded : Bool
  deriving DecidableEq, Repr

inductive CombineMode where
  | any | all
  deriving DecidableEq, Repr

/-- Guard unit (R48). -/
structure Guard where
  slot0 : GuardSlot
  slot1 : GuardSlot
  slot2 : GuardSlot
  slot3 : GuardSlot
  bus : Option BusTransaction
  stopCondition : Bool
  suspectLatch : Bool
  /-- script memory as (address, byte) pairs in canonical form; an unlisted address reads 0 (R64, R66) -/
  script : List Host.Cell
  busSpeed : Nat
  combineMode : CombineMode
  deriving DecidableEq, Repr

/-! ### Line triggers and line statistics (chapter 4) -/

inductive ArmMode where
  | scan | probe
  deriving DecidableEq, Repr

/-- The arm record and the trigger index k (R68). -/
structure Arm where
  owner : Owner
  mode : ArmMode
  base : Int
  pitch : Nat
  stopAt : Option Int
  index : Nat
  deriving DecidableEq, Repr

/-- Causes of a disarm, as the arming operation is told them (R72). -/
inductive DisarmCause where
  | command | stopPosition | lineLimit | halted | grantLost
  deriving DecidableEq, Repr

/-- Line trigger generator (R68). The armed flag is set exactly while the arm record is present. -/
structure Trigger where
  arm : Option Arm
  lineCounter : Nat
  /-- pulses given on LINE_TRIG since reset (DESIGN CHOICE, log entry 26) -/
  pulses : Nat
  deriving DecidableEq, Repr

/-- The record of one emitted trigger (R70, R75), with its placement index (R114). -/
structure TriggerRecord where
  mode : ArmMode
  index : Nat
  position : Int
  line : Option Nat
  deriving DecidableEq, Repr

/-- The expected segment with the bytes received so far (R75). -/
structure ExpectedSegment where
  trigger : TriggerRecord
  bytes : List Byte
  deriving DecidableEq, Repr

/-- Statistics of a complete line (R79, R80, Table 4-2). -/
structure LineStats where
  level : Nat
  focusLow : Nat
  focusHigh : Nat
  saturatedLow : Bool
  saturatedHigh : Bool
  focusSum : Nat
  counted : Bool
  deriving DecidableEq, Repr

/-- One line result (Table 4-2); the statistics are present exactly when the presence is COMPLETE. -/
structure LineResult where
  trigger : TriggerRecord
  stats : Option LineStats
  deriving DecidableEq, Repr

/-- One entry of the tap map: a raw group, or DEAD as `none` (R77). -/
abbrev TapEntry := Option (Fin 8)

/-- The tap map, entries 0 to 7 (R77). -/
structure TapMap where
  e0 : TapEntry
  e1 : TapEntry
  e2 : TapEntry
  e3 : TapEntry
  e4 : TapEntry
  e5 : TapEntry
  e6 : TapEntry
  e7 : TapEntry
  deriving DecidableEq, Repr

/-- Monitor-bus capture and line statistics (R75 to R82). -/
structure Lines where
  expected : Option ExpectedSegment
  last : Option LineResult
  maxRate : Nat
  tapMap : TapMap
  stride : Nat
  deriving DecidableEq, Repr

/-! ### Focus control (chapter 5) -/

inductive LensState where
  | unhomed | homing | idle | moving | fault
  deriving DecidableEq, Repr

inductive Requester where
  | search | track | recallScan | retrieval | service
  deriving DecidableEq, Repr

/-- The move record (R85, R86): steps issued and milliseconds counted since stepping began, the rate read, and the settling
deadline once the last step is issued. The steps still to issue are the distance from the lens step to the target. -/
structure MoveRecord where
  target : Nat
  requester : Requester
  issued : Nat
  elapsed : Nat
  rate : Nat
  settledAt : Option Nat
  deriving DecidableEq, Repr

/-- A homing in progress (R87). -/
structure Homing where
  issued : Nat
  elapsed : Nat
  rate : Nat
  settledAt : Option Nat
  /-- SERVICE still holds the grant it took for this homing -/
  holdsGrant : Bool
  deriving DecidableEq, Repr

/-- The lens stage (R85) and its outputs. -/
structure Lens where
  state : LensState
  step : Nat
  move : Option MoveRecord
  homing : Option Homing
  /-- a LENS_MOVE waits for the lens to become IDLE (R88) -/
  serviceWatch : Bool
  /-- LENS_DIR, high for increasing steps (R85, R106) -/
  dirHigh : Bool
  /-- pulses given on LENS_STEP since reset (DESIGN CHOICE, log entry 26) -/
  pulses : Nat
  deriving DecidableEq, Repr

/-- A focus window being gathered (R90). -/
structure Window where
  length : Nat
  count : Nat
  sumF : Nat
  sumL : Nat
  deriving DecidableEq, Repr

inductive SearchPhase where
  | coarseUp | coarseDown | fine
  deriving DecidableEq, Repr

inductive SearchOwner where
  | scan | service
  deriving DecidableEq, Repr

/-- The search record (R89). `roundBest` and `roundScore` are the best step and score from before the present fine round (R95). -/
structure SearchRecord where
  requester : SearchOwner
  start : Int
  startStep : Nat
  coarse : Nat
  phase : SearchPhase
  best : Option (Nat × Nat)
  fine : Nat
  probes : Nat
  lastScore : Option Nat
  lastProbed : Option Nat
  candidate : Nat
  rose : Bool
  roundBest : Nat
  roundScore : Nat
  window : Option Window
  deriving DecidableEq, Repr

inductive TrackState where
  | steady | probeUp | probeDown | goBack
  deriving DecidableEq, Repr

/-- The track context (R89, R100, R101): `probeOffset` is the d of the move requested, absent until it is requested. -/
structure TrackContext where
  step : Nat
  reference : Nat
  state : TrackState
  lowCount : Nat
  lowScore : Option Nat
  restoreStep : Nat
  probeOffset : Option Nat
  moveDue : Bool
  deriving DecidableEq, Repr

/-- What R99 notes of the lens while a frame is open. -/
structure FrameLens where
  stateAtOpening : LensState
  moved : Bool
  deriving DecidableEq, Repr

/-- The frame window of R100: the window, and the score once it has filled. -/
structure FrameWindow where
  window : Window
  score : Option Nat
  deriving DecidableEq, Repr

inductive FocusOutcome where
  | none | focused | focusFailed | abandoned | trackLost
  deriving DecidableEq, Repr

/-- Configuration of focus control (Table 5-3). -/
structure FocusConfig where
  stepRate : Nat
  lensSettle : Nat
  focusWindow : Nat
  coarseStep : Nat
  searchTravel : Nat
  minimumScore : Nat
  searchPitch : Nat
  trackThreshold : Nat
  probeOffset : Nat
  deriving DecidableEq, Repr

/-- Focus controller (R85, R89). -/
structure Focus where
  lens : Lens
  search : Option SearchRecord
  track : Option TrackContext
  runStep : Option Nat
  frameLens : Option FrameLens
  frameWindow : Option FrameWindow
  outcome : FocusOutcome
  bestScore : Option Nat
  cfg : FocusConfig
  deriving DecidableEq, Repr

/-! ### Frame detection (chapter 6) -/

inductive DetectorActivity where
  | idle | run | confirm
  deriving DecidableEq, Repr

inductive GapState where
  | unknown | inGap | inFrame
  deriving DecidableEq, Repr

inductive LineClass where
  | gapLike | imageLike
  deriving DecidableEq, Repr

/-- The first line of a gap run (R108). -/
structure GapRun where
  position : Int
  line : Nat
  deriving DecidableEq, Repr

/-- The open-frame record (R108), with the position of the last line taken (R116). -/
structure OpenFrame where
  start : Int
  firstLine : Nat
  monitorGap : Bool
  lastLine : Nat
  lastPosition : Int
  deriving DecidableEq, Repr

/-- A pending mark (R119): its level, or `none` for the fault kind. -/
structure Mark where
  position : Int
  level : Option Nat
  deriving DecidableEq, Repr

inductive BlipLevel where
  | high | low
  deriving DecidableEq, Repr

/-- Configuration of frame detection (Table 6-5). -/
structure DetectorConfig where
  enterNeg : Nat
  leaveNeg : Nat
  enterPos : Nat
  leavePos : Nat
  minGap : Nat
  maxFrame : Nat
  blipOffset : Nat
  blipActive : BlipLevel
  l1Min : Nat
  l2Min : Nat
  l3Min : Nat
  maxMark : Nat
  deriving DecidableEq, Repr

/-- Frame detector (R108). -/
structure Detector where
  activity : DetectorActivity
  gapState : GapState
  previous : LineClass
  /-- the next line taken opens a frame whatever its class (R112) -/
  openNext : Bool
  gapRun : Option GapRun
  openFrame : Option OpenFrame
  openMark : Option Int
  marks : List Mark
  markLost : Bool
  counters : Address
  firstClose : Bool
  sinceClose : Nat
  cfg : DetectorConfig
  deriving DecidableEq, Repr

/-! ### Frame index (chapter 7) -/

/-- Frame flags in the order of Table 7-1. -/
structure FrameFlags where
  short : Bool := false
  long : Bool := false
  forced : Bool := false
  splice : Bool := false
  suspect : Bool := false
  multiMark : Bool := false
  unmarked : Bool := false
  markLost : Bool := false
  markFault : Bool := false
  monitorGap : Bool := false
  focusMoving : Bool := false
  addrHeld : Bool := false
  imported : Bool := false
  verified : Bool := false
  mismatch : Bool := false
  deriving DecidableEq, Repr

/-- Index entry (Table 7-1). -/
structure IndexEntry where
  start : Int
  length : Nat
  address : Address
  markLevel : Nat
  focusStep : Option Nat
  flags : FrameFlags
  run : Option Nat
  firstLine : Option Nat
  lastLine : Option Nat
  deriving DecidableEq, Repr

inductive IndexState where
  | empty | open_ | imported | closed
  deriving DecidableEq, Repr

inductive CloseCause where
  | full | rollEnd | request
  deriving DecidableEq, Repr

/-- The import session (R134): declared count and the entries received, in order. -/
structure ImportSession where
  declared : Nat
  received : List IndexEntry
  deriving DecidableEq, Repr

/-- Frame index (R126, R127). The entry count is the length of the table. -/
structure FrameIndex where
  entries : List IndexEntry
  state : IndexState
  closeCause : Option CloseCause
  session : Option ImportSession
  deriving DecidableEq, Repr

/-! ### Scan runs (chapter 8) -/

inductive StartMode where
  | atPosition
  | atFrame (n : Nat)
  | continue_
  deriving DecidableEq, Repr

/-- Gap states that a detector start can be given (Table 6-1). -/
inductive ResumeState where
  | unknown | inGap | frameStart
  deriving DecidableEq, Repr

inductive EndCondition where
  | untilRollEnd
  | frameCount (k : Nat)
  | untilPosition (e : Int)
  deriving DecidableEq, Repr

inductive FocusOption where
  | none | search | track | recallSteps
  deriving DecidableEq, Repr

inductive YieldPolicy where
  | noYield | yieldUrgent | yieldAll
  deriving DecidableEq, Repr

/-- Run states; NONE is the absence of the record (Table 8-2). -/
inductive RunState where
  | queued | preparing | running | suspending | suspended | ending | ended
  deriving DecidableEq, Repr

inductive RunCause where
  | yield | backlog | pause | fault | complete | rollEnd | limit | aborted | rollReleased
  deriving DecidableEq, Repr

/-- Which step of R147 a preparation is in. -/
inductive PrepStep where
  | none | searchSeek | searching | scanOrder
  deriving DecidableEq, Repr

/-- A position with the resume state (Table 8-1). -/
structure ResumePoint where
  position : Int
  state : ResumeState
  deriving DecidableEq, Repr

/-- Scan run record (Table 8-1). -/
structure RunRecord where
  number : Nat
  startMode : StartMode
  base : Int
  initialGap : ResumeState
  endCondition : EndCondition
  speed : Nat
  pitch : Nat
  focus : FocusOption
  policy : YieldPolicy
  state : RunState
  savedLine : Nat
  framesClosed : Nat
  started : Bool
  boundary : Option ResumePoint
  resume : Option ResumePoint
  resumePermitted : Bool
  cause : Option RunCause
  prep : PrepStep
  /-- tracking was lost: the activity is NONE for the rest of the run (R102), and no preparation searches again (R147) -/
  trackLost : Bool
  deriving DecidableEq, Repr

inductive NoticeKind where
  | frame | truncated
  deriving DecidableEq, Repr

inductive MatchKind where
  | appended | verified | mismatch | unmatched | unindexed | notAppended
  deriving DecidableEq, Repr

/-- Frame notice (Table 8-4). -/
structure Notice where
  run : Nat
  kind : NoticeKind
  frame : Option Nat
  firstLine : Nat
  lastLine : Nat
  start : Int
  length : Nat
  address : Address
  markLevel : Nat
  focusStep : Option Nat
  flags : FrameFlags
  matchKind : MatchKind
  deriving DecidableEq, Repr

/-- Scan run controller (R142). -/
structure ScanControl where
  run : Option RunRecord
  runCounter : Nat
  notices : List Notice
  backlog : Bool
  /-- FRAME_GATE asserted (R149) -/
  gate : Bool
  deriving DecidableEq, Repr

/-! ### Retrieval service (chapter 9) -/

inductive Target where
  | frame (n : Nat)
  | address (a : Address)
  | position (x : Int)
  deriving DecidableEq, Repr

inductive RequestClass where
  | urgent | normal
  deriving DecidableEq, Repr

inductive RequestState where
  | deferred | waiting | active
  deriving DecidableEq, Repr

/-- Request record (Table 9-1), with whether it holds the lens since a recall (R104). -/
structure RetrievalRequest where
  ticket : Nat
  target : Target
  class_ : RequestClass
  confirmEdge : Bool
  recallFocus : Bool
  state : RequestState
  position : Option Int
  frame : Option Nat
  bypass : Nat
  retried : Bool
  age : Nat
  holdsLens : Bool
  deriving DecidableEq, Repr

/-- What an attempt serves (R163). -/
inductive AttemptSubject where
  | ticket (t : Nat)
  | hint (n : Nat)
  deriving DecidableEq, Repr

/-- Phases of an attempt (R163); `hintSeek` and `hintStop` are those of a hint being served and of one abandoned (R179). -/
inductive AttemptPhase where
  | approach | confirm | present | lensWait | cancelling | hintSeek | hintStop
  deriving DecidableEq, Repr

/-- The recall report of R104. -/
inductive RecallReport where
  | neither | recalled | notStored
  deriving DecidableEq, Repr

/-- The edge flag gathered (R171, R172). -/
inductive EdgeFlag where
  | confirmed | unconfirmed | mismatch
  deriving DecidableEq, Repr

/-- The attempt record (R163), with the G, W_c and W_m kept for the attempt (R171). -/
structure Attempt where
  subject : AttemptSubject
  phase : AttemptPhase
  recallReport : RecallReport
  edge : Option EdgeFlag
  correction : Int
  gap : Nat
  correctionWindow : Nat
  matchWindow : Nat
  deriving DecidableEq, Repr

/-- The hold record (R163, R174), with the hold time read at its start. -/
structure Hold where
  class_ : RequestClass
  timer : Nat
  time : Nat
  deriving DecidableEq, Repr

inductive CompletionResult where
  | done | notFound | expired | cancelled | motionFailed | rollReleased
  deriving DecidableEq, Repr

/-- Completion flags (Table 9-2). -/
structure CompletionFlags where
  edge : Option EdgeFlag
  recallReport : RecallReport
  retried : Bool
  deriving DecidableEq, Repr

/-- Completion record (Table 9-2). -/
structure Completion where
  ticket : Nat
  result : CompletionResult
  flags : CompletionFlags
  frame : Option Nat
  position : Int
  correction : Int
  lensStep : Nat
  deriving DecidableEq, Repr

/-- Configuration of the retrieval scheduler (Table 9-4). -/
structure RetrievalConfig where
  holdTime : Nat
  deferralTimeout : Nat
  bypassLimit : Nat
  confirmPitch : Nat
  deriving DecidableEq, Repr

/-- Retrieval scheduler (R163). -/
structure Retrieval where
  queue : List RetrievalRequest
  completions : List Completion
  hints : List Nat
  ticketCounter : Nat
  hold : Option Hold
  attempt : Option Attempt
  cfg : RetrievalConfig
  deriving DecidableEq, Repr

/-! ### Ports (chapter 10) -/

/-- Event kinds, in the order of Table 10-3. -/
inductive EventKind where
  | notice | done | run | focus | focusDrift | fault | index | roll | guardEvent | drift | park | spliceListFull | motionEnd
  deriving DecidableEq, Repr

/-- Results (Table 10-1). -/
inductive Result where
  | ok | accepted | denied | badLength | badValue | state | full | notFound | owned | wrongRoll | unknown
  deriving DecidableEq, Repr

inductive PortState where
  | idle | busy | ready
  deriving DecidableEq, Repr

/-- A pending response (R184). -/
structure Response where
  tag : Byte
  result : Result
  payload : List Byte
  deriving DecidableEq, Repr

/-- One port unit (R183, R184, R187). Flags and mask are event sets as they cross the port (section 11.2). -/
structure Port where
  state : PortState
  response : Option Response
  flags : BitVec 16
  mask : BitVec 16
  resetIndication : Bool
  /-- the bytes shifted out on MISO in the last transaction (DESIGN CHOICE, log entry 26) -/
  miso : List Byte
  deriving DecidableEq, Repr

structure Ports where
  capture : Port
  request : Port
  service : Port
  /-- a SOFT_RESET waits for its response to be fetched (R193) -/
  softResetPending : Bool
  deriving DecidableEq, Repr

/-- Levels of the inputs that a rule reads at a moment of its own (R24, R25, R87, R117; DESIGN CHOICE, log entry 5). -/
structure Inputs where
  driveFault : Bool
  driveReady : Bool
  lensHome : Bool
  blipIn : Bool
  deriving DecidableEq, Repr

/-! ### Reports between blocks inside one step (DESIGN CHOICE, log entry 7) -/

/-- A report that a block makes to another and that is taken before the step ends. -/
inductive Report where
  /-- an order ended (section 2.3); `begun` says whether it had started -/
  | orderEnded (owner : Owner) (outcome : OrderOutcome) (begun : Bool)
  /-- the positioning seek of a scan order begins (R102, R103, R147) -/
  | positioningBegan
  /-- POSITIONED: the run-up positioning of a scan order has arrived; its owner is told (R35) -/
  | positioned (owner : Owner)
  /-- BASE_REACHED (R35) -/
  | baseReached
  /-- an arm request was not taken: NOT_OWNER (R69) -/
  | armNotOwner (owner : Owner)
  /-- an arm was made, with the trigger index at which it begins (R69) -/
  | armBegan (owner : Owner) (index : Nat)
  /-- the arm of an operation was disarmed, with the cause (R72) -/
  | disarmed (owner : Owner) (cause : DisarmCause)
  /-- a search with requester SCAN has ended with its outcome (R96) -/
  | searchEnded
  /-- the move of a search was superseded (R93, R97) -/
  | searchSuperseded
  /-- the measured start of an edge confirmation (R123) -/
  | measuredStart (m : Int)
  /-- a line taken in CONFIRM without an opening (R171) -/
  | confirmLine (position : Int)
  deriving DecidableEq, Repr

/-! ### The device and the state -/

/-- Everything of the part but the queue of waiting commands. -/
structure Dev where
  roll : RollContext
  metering : Metering
  transport : Transport
  guard : Guard
  trigger : Trigger
  lines : Lines
  focus : Focus
  detector : Detector
  index : FrameIndex
  scan : ScanControl
  retrieval : Retrieval
  ports : Ports
  inputs : Inputs
  /-- the millisecond timebase (00_scope.md, section 6; DEDUCED, log entry 2) -/
  time : Nat
  /-- reports not yet taken; empty between steps (DESIGN CHOICE, log entry 7) -/
  inbox : List Report
  deriving DecidableEq, Repr

/-- The state: the device and the queue of waiting commands, first in first out (DESIGN CHOICE, log entry 1). -/
structure State where
  dev : Dev
  pending : List Instr
  deriving DecidableEq, Repr

/-- Reasons for a step to stop with a fault: none. The spec gives every command an effect in every state, the part's own halts,
slot faults and failed orders included, so nothing raises a fault; safe. -/
inductive Fault where
  deriving DecidableEq, Repr

/-- Reasons for a step to be refused. -/
inductive Refusal where
  /-- The command has no meaning in the model. No arm of exec raises it; safe: the model stops where the part goes on. -/
  | notModelled (mnemonic : String)
  deriving DecidableEq, Repr

/-! ### Pin reset -/

/-- The default guard slot record (Table 3-1). -/
def SlotRecord.default : SlotRecord where
  enabled := false
  busAddress := 0
  valueRegister := 0
  dataType := .u16
  byteSwap := false
  powerMode := .always
  period := 100
  scriptStart := 0
  pairCount := 0
  preInitWait := 0
  postInitWait := 0
  retries := 0
  underPattern := 0
  overPattern := 65535
  area := .outside
  debounce := 1
  action := .note
  vote := false

/-- A guard slot after pin reset (Table 3-5). The attempt count and the schedule origin, of which the table says nothing, are 0 (DESIGN
CHOICE, log entry 50). -/
def GuardSlot.reset : GuardSlot where
  record := SlotRecord.default
  state := .off
  trip := .clear
  runCount := 0
  lastSample := none
  nextDue := none
  pollInProgress := false
  attempts := 0
  origin := 0
  waitEnd := none
  wants := none

/-- A port after pin reset (Table 10-5); `kinds` is the event set of the port's list. -/
def Port.reset (kinds : BitVec 16) : Port where
  state := .idle
  response := none
  flags := 0
  mask := kinds
  resetIndication := true
  miso := []

/-- The event kinds of the Capture port (Table 10-3): NOTICE, RUN, FOCUS, FOCUS_DRIFT, FAULT, INDEX. -/
def captureKinds : BitVec 16 := 0x007D
/-- The event kinds of the Request port: DONE, FAULT, INDEX, ROLL. -/
def requestKinds : BitVec 16 := 0x00E2
/-- The event kinds of the Service port: FOCUS, FAULT, INDEX, ROLL, GUARD, DRIFT, PARK, SPLICE_LIST_FULL, MOTION_END. -/
def serviceKinds : BitVec 16 := 0x1FE8

/-- The device after pin reset: Tables 1-5, 2-6, 3-5, 4-4, 5-4, 6-6, 7-4, 8-6, 9-5 and 10-5, first columns. The levels sampled at the
release (film present, encoder phase, other inputs) are all clear here (DESIGN CHOICE, log entry 5); PIN_RESET carries them. -/
def Dev.reset : Dev where
  roll :=
    { record := none, state := .noRoll, datum := false, tail := none, splices := [], pendingCorrection := none
      lastCorrection := 0, filmPresent := false
      cfg := { spliceOffset := 120000, correctionWindow := 300, matchWindow := 2000 } }
  metering := { counter := 0, phaseA := false, phaseB := false, unsettled := false, settledAt := 0 }
  transport :=
    { motion := .idle, haltCause := none, tension := .release, driveEnable := false, demand := 0
      lastDirection := .forward, grant := .nobody, releasePending := false, current := none, held := none
      stopReason := none, parkTimer := 0, tensionedAt := none, serviceOutcome := none, frame := none
      cfg :=
        { acceleration := 4, seekMaximum := 2500, seekMargin := 2000, arrivalWindow := 50, spliceZone := 20000
          spliceSpeed := 200, runUpMargin := 2000, creepSpeed := 5, probeSpeed := 10, jogSpeed := 50
          tensionSettle := 800, parkTimeout := 300 } }
  guard :=
    { slot0 := GuardSlot.reset, slot1 := GuardSlot.reset, slot2 := GuardSlot.reset, slot3 := GuardSlot.reset
      bus := none, stopCondition := false, suspectLatch := false, script := [], busSpeed := 100, combineMode := .any }
  trigger := { arm := none, lineCounter := 0, pulses := 0 }
  lines :=
    { expected := none, last := none, maxRate := 40000
      tapMap := { e0 := some 0, e1 := some 1, e2 := some 2, e3 := some 3, e4 := some 4, e5 := some 5, e6 := some 6, e7 := some 7 }
      stride := 1 }
  focus :=
    { lens :=
        { state := .unhomed, step := 0, move := none, homing := none, serviceWatch := false, dirHigh := false, pulses := 0 }
      search := none, track := none, runStep := none, frameLens := none, frameWindow := none, outcome := .none
      bestScore := none
      cfg :=
        { stepRate := 4000, lensSettle := 30, focusWindow := 64, coarseStep := 64, searchTravel := 100000
          minimumScore := 400, searchPitch := 1024, trackThreshold := 85, probeOffset := 4 } }
  detector :=
    { activity := .idle, gapState := .unknown, previous := .imageLike, openNext := false, gapRun := none
      openFrame := none, openMark := none, marks := [], markLost := false
      counters := { batch := 0, doc := 0, page := 0 }, firstClose := false, sinceClose := 0
      cfg :=
        { enterNeg := 200, leaveNeg := 170, enterPos := 55, leavePos := 85, minGap := 400, maxFrame := 150000
          blipOffset := 0, blipActive := .high, l1Min := 300, l2Min := 900, l3Min := 1800, maxMark := 4000 } }
  index := { entries := [], state := .empty, closeCause := none, session := none }
  scan := { run := none, runCounter := 1, notices := [], backlog := false, gate := false }
  retrieval :=
    { queue := [], completions := [], hints := [], ticketCounter := 1, hold := none, attempt := none
      cfg := { holdTime := 5000, deferralTimeout := 0, bypassLimit := 4, confirmPitch := 1024 } }
  ports :=
    { capture := Port.reset captureKinds, request := Port.reset requestKinds, service := Port.reset serviceKinds
      softResetPending := false }
  inputs := { driveFault := false, driveReady := false, lensHome := false, blipIn := false }
  time := 0
  inbox := []

/-- The state right after pin reset, with no command waiting. -/
def State.reset : State where
  dev := Dev.reset
  pending := []

end Sys2Proof.Machine
end

