-- ==== Sys2Proof/Machine/Flags.lean ====
section
/-! DEFINITION. Every flag computation of the spec: event sets (R187, section 11.2), the attention line and the status byte (R183,
R189), the frame flags as a mask (section 11.4) and as judged at a close or a truncation (Table 6-3), completion flags. -/

namespace Sys2Proof.Machine

/-! ### Event sets -/

/-- Bit number of an event kind (section 11.2). -/
def eventIndex : EventKind → Nat
  | .notice => 0 | .done => 1 | .run => 2 | .focus => 3 | .focusDrift => 4 | .fault => 5 | .index => 6 | .roll => 7
  | .guardEvent => 8 | .drift => 9 | .park => 10 | .spliceListFull => 11 | .motionEnd => 12

/-- The event set of one kind. -/
def eventBit (k : EventKind) : BitVec 16 := BitVec.twoPow 16 (eventIndex k)

/-- The kinds of a port's list (Table 10-3). -/
def portKinds : PortId → BitVec 16
  | .capture => captureKinds | .request => requestKinds | .service => serviceKinds

/-- Whether a set holds a kind. -/
def hasEvent (s : BitVec 16) (k : EventKind) : Bool := s.getLsbD (eventIndex k)

/-! ### Attention and the status byte -/

/-- ATTN asserted: the port is READY, or a flag is set and enabled (R189). -/
def attention (p : Port) : Bool := p.state == .ready || (p.flags &&& p.mask) != 0

def portStateCode : PortState → Nat
  | .idle => 0 | .busy => 1 | .ready => 2

/-- The status byte (R183, Table 11-1). -/
def statusByte (id : PortId) (p : Port) : Byte :=
  BitVec.ofNat 8 (portStateCode p.state + 4 * (attention p).toNat + 8 * (p.flags != 0).toNat
    + 16 * p.resetIndication.toNat + 32 * portNumber id)

/-! ### Frame flags -/

/-- Frame flags as a mask: bits in the order of Table 7-1 (section 11.4). -/
def frameFlagBits (f : FrameFlags) : Nat :=
  f.short.toNat + 2 * f.long.toNat + 4 * f.forced.toNat + 8 * f.splice.toNat + 16 * f.suspect.toNat
    + 32 * f.multiMark.toNat + 64 * f.unmarked.toNat + 128 * f.markLost.toNat + 256 * f.markFault.toNat
    + 512 * f.monitorGap.toNat + 1024 * f.focusMoving.toNat + 2048 * f.addrHeld.toNat + 4096 * f.imported.toNat
    + 8192 * f.verified.toNat + 16384 * f.mismatch.toNat

/-- Frame flags from a received mask; bits beyond the set are ignored (R195). -/
def frameFlagsOfBits (w : BitVec 16) : FrameFlags where
  short := w.getLsbD 0
  long := w.getLsbD 1
  forced := w.getLsbD 2
  splice := w.getLsbD 3
  suspect := w.getLsbD 4
  multiMark := w.getLsbD 5
  unmarked := w.getLsbD 6
  markLost := w.getLsbD 7
  markFault := w.getLsbD 8
  monitorGap := w.getLsbD 9
  focusMoving := w.getLsbD 10
  addrHeld := w.getLsbD 11
  imported := w.getLsbD 12
  verified := w.getLsbD 13
  mismatch := w.getLsbD 14

/-- SHORT: 100 × length < nominal pitch × (100 − tolerance) (Table 6-3). -/
def shortFrame (r : RollRecord) (length : Nat) : Bool := decide (100 * length < r.pitch * (100 - r.tolerance))

/-- LONG by length: 100 × length > nominal pitch × (100 + tolerance) (Table 6-3). -/
def longFrame (r : RollRecord) (length : Nat) : Bool := decide (100 * length > r.pitch * (100 + r.tolerance))

/-- SPLICE: some splice list entry lies in the frame's span (Table 6-3). -/
def spliceInSpan (splices : List Int) (start : Int) (length : Nat) : Bool :=
  splices.any fun x => decide (start ≤ x ∧ x < start + length)

/-! ### Completion flags -/

/-- Completion flag bits (section 11.4). -/
def completionFlagBits (f : CompletionFlags) : Nat :=
  (f.edge == some .confirmed).toNat + 2 * (f.edge == some .unconfirmed).toNat + 4 * (f.edge == some .mismatch).toNat
    + 8 * (f.recallReport == .recalled).toNat + 16 * (f.recallReport == .notStored).toNat + 32 * f.retried.toNat

end Sys2Proof.Machine
end

