-- ==== Sys2Proof/Machine/Ops.lean ====
section
/-! DEFINITION. The named operations that every block uses: record updates of the device, byte order, saturation, the script
memory, the ports' registers and events, the soft limits, the direction of motion, and the choice of a port or a guard slot. -/

namespace Sys2Proof.Machine

/-! ### Updates of the device, one per block -/

/-- The device with its roll replaced. -/
def Dev.setRoll (d : Dev) (x : RollContext) : Dev := { d with roll := x }
/-- The device with its metering replaced. -/
def Dev.setMetering (d : Dev) (x : Metering) : Dev := { d with metering := x }
/-- The device with its transport replaced. -/
def Dev.setTransport (d : Dev) (x : Transport) : Dev := { d with transport := x }
/-- The device with its guard replaced. -/
def Dev.setGuard (d : Dev) (x : Guard) : Dev := { d with guard := x }
/-- The device with its trigger replaced. -/
def Dev.setTrigger (d : Dev) (x : Trigger) : Dev := { d with trigger := x }
/-- The device with its lines replaced. -/
def Dev.setLines (d : Dev) (x : Lines) : Dev := { d with lines := x }
/-- The device with its focus replaced. -/
def Dev.setFocus (d : Dev) (x : Focus) : Dev := { d with focus := x }
/-- The device with its detector replaced. -/
def Dev.setDetector (d : Dev) (x : Detector) : Dev := { d with detector := x }
/-- The device with its index replaced. -/
def Dev.setIndex (d : Dev) (x : FrameIndex) : Dev := { d with index := x }
/-- The device with its scan replaced. -/
def Dev.setScan (d : Dev) (x : ScanControl) : Dev := { d with scan := x }
/-- The device with its retrieval replaced. -/
def Dev.setRetrieval (d : Dev) (x : Retrieval) : Dev := { d with retrieval := x }
/-- The device with its ports replaced. -/
def Dev.setPorts (d : Dev) (x : Ports) : Dev := { d with ports := x }
/-- The device with its inputs replaced. -/
def Dev.setInputs (d : Dev) (x : Inputs) : Dev := { d with inputs := x }
/-- The device with its time replaced. -/
def Dev.setTime (d : Dev) (x : Nat) : Dev := { d with time := x }
/-- The device with its inbox replaced. -/
def Dev.setInbox (d : Dev) (x : List Report) : Dev := { d with inbox := x }
/-- The state with its device replaced. -/
def State.setDev (s : State) (x : Dev) : State := { s with dev := x }

/-! ### Byte order (00_scope.md section 7, R195) -/

/-- The `n` bytes of a number, least significant first. -/
def leBytes : Nat → Nat → List Byte
  | 0, _ => []
  | n + 1, v => BitVec.ofNat 8 v :: leBytes n (v / 256)

/-- The `n` bytes of a signed number in two's complement, least significant first. -/
def leSigned (n : Nat) (v : Int) : List Byte := leBytes n (v % (256 ^ n : Nat)).toNat

/-- The number that bytes give, least significant first. -/
def leNat : List Byte → Nat
  | [] => 0
  | b :: bs => b.toNat + 256 * leNat bs

/-- The signed number that bytes give in two's complement, least significant first. -/
def leInt (bs : List Byte) : Int :=
  if 2 * leNat bs < 256 ^ bs.length then (leNat bs : Int) else (leNat bs : Int) - (256 ^ bs.length : Nat)

/-- `n` bytes of a payload from an offset, as a number. -/
def natAt (bs : List Byte) (offset n : Nat) : Nat := leNat ((bs.drop offset).take n)

/-- `n` bytes of a payload from an offset, as a signed number. -/
def intAt (bs : List Byte) (offset n : Nat) : Int := leInt ((bs.drop offset).take n)

/-! ### Arithmetic with stated rounding -/

/-- ceil(a / b) for naturals. -/
def ceilDiv (a b : Nat) : Nat := (a + b - 1) / b

/-- A value clamped to a range (R19, R45, R82, R105, R180). -/
def clampNat (lo hi v : Nat) : Nat := max lo (min hi v)

/-- Saturation at the signed 32-bit extremes (R9, R11, R18). -/
def saturate (x : Int) : Int := max Config.minPosition (min Config.maxPosition x)

/-! ### Script memory: an addressed memory of 256 bytes (R64) -/

/-- What an address reads: the listed byte, and 0 (the contents after pin reset, R66) where none is listed. -/
def Memory.read : List Host.Cell → Nat → Byte
  | [], _ => 0
  | (a, b) :: rest, x => if a = x then b else Memory.read rest x

/-- Storing a byte, keeping the canonical form: addresses rising, no entry that equals what an unlisted address reads. -/
def Memory.write : List Host.Cell → Nat → Byte → List Host.Cell
  | [], x, v => if v = 0 then [] else [(x, v)]
  | (a, b) :: rest, x, v =>
    if x < a then (if v = 0 then (a, b) :: rest else (x, v) :: (a, b) :: rest)
    else if x = a then (if v = 0 then rest else (x, v) :: rest)
    else (a, b) :: Memory.write rest x v

/-- The canonical form: addresses strictly rising from `low` on and no byte 0. -/
def Memory.wfFrom : Nat → List Host.Cell → Bool
  | _, [] => true
  | low, (a, b) :: rest => decide (low ≤ a) && b != 0 && Memory.wfFrom (a + 1) rest

/-- The script memory is in canonical form. -/
def Memory.wf (m : List Host.Cell) : Bool := Memory.wfFrom 0 m

/-- Storing data bytes from an address on, wrapping at 256 (R64). -/
def Memory.store : List Host.Cell → Nat → List Byte → List Host.Cell
  | m, _, [] => m
  | m, a, b :: bs => Memory.store (Memory.write m (a % Config.scriptBytes) b) (a + 1) bs

/-- Reading `n` bytes from an address on, wrapping at 256 (R64). -/
def Memory.load (m : List Host.Cell) : Nat → Nat → List Byte
  | _, 0 => []
  | a, n + 1 => Memory.read m (a % Config.scriptBytes) :: Memory.load m (a + 1) n

/-! ### Ports and events -/

/-- One port of the three. -/
def Ports.get (ps : Ports) : PortId → Port
  | .capture => ps.capture | .request => ps.request | .service => ps.service

/-- One port of the three replaced. -/
def Ports.put (ps : Ports) (id : PortId) (p : Port) : Ports :=
  match id with
  | .capture => { ps with capture := p }
  | .request => { ps with request := p }
  | .service => { ps with service := p }

/-- A block raises an event at a port: the flag is set when the kind is in the port's list (R187). -/
def raise (id : PortId) (k : EventKind) (d : Dev) : Dev :=
  let p := d.ports.get id
  d.setPorts (d.ports.put id { p with flags := p.flags ||| (eventBit k &&& portKinds id) })

/-- An event raised at the Request and Service ports: ROLL (section 1.2). -/
def raiseRoll (d : Dev) : Dev := raise .service .roll (raise .request .roll d)

/-- An event raised at all three ports: FAULT and INDEX. -/
def raiseAll (k : EventKind) (d : Dev) : Dev := raise .service k (raise .request k (raise .capture k d))

/-- A report put at the end of the inbox (DESIGN CHOICE, log entry 7). -/
def report (r : Report) (d : Dev) : Dev := d.setInbox (d.inbox ++ [r])

/-! ### Soft limits and direction -/

/-- The lower soft limit (R12). -/
def lowerLimit (_d : Dev) : Int := Config.lowerLimit

/-- The upper soft limit: the tail position when present (R12). -/
def upperLimit (d : Dev) : Int := d.roll.tail.getD Config.upperLimitNoTail

/-- A position from a port lies within the limits in force (R12). -/
def withinLimits (d : Dev) (x : Int) : Bool := decide (lowerLimit d ≤ x ∧ x ≤ upperLimit d)

/-- A computed target clamped to the limits in force: below the lower limit it becomes the lower limit, above the upper limit the
upper limit (R13). A target below the lower limit and above a tail that itself lies below the lower limit becomes the lower limit (DESIGN
CHOICE, log entry 31). -/
def clampLimits (d : Dev) (x : Int) : Int :=
  if x < lowerLimit d then lowerLimit d else if upperLimit d < x then upperLimit d else x

/-- Direction of motion: the sign of the demand, at rest when it is zero (R3). -/
def motionDirection (d : Dev) : Option Direction :=
  if 0 < d.transport.demand then some .forward else if d.transport.demand < 0 then some .reverse else none

/-- The transport is in a moving state (Table 2-1). -/
def movingState : MotionState → Bool
  | .jog | .seek | .creep | .scan => true
  | _ => false

/-- A velocity demand set; a non-zero demand sets the last travel direction to its sign (R22). -/
def setDemand (v : Int) (d : Dev) : Dev :=
  d.setTransport
    { d.transport with
      demand := v
      lastDirection := if 0 < v then .forward else if v < 0 then .reverse else d.transport.lastDirection }

/-- The drive frame of the present millisecond (R23). -/
def sendFrame (d : Dev) : Dev :=
  d.setTransport
    { d.transport with
      frame := some { demand := d.transport.demand, tension := d.transport.tension, enable := d.transport.driveEnable } }

/-! ### Guard slots -/

/-- One guard slot of the four. -/
def Guard.get (g : Guard) (n : Fin 4) : GuardSlot :=
  match n with
  | 0 => g.slot0 | 1 => g.slot1 | 2 => g.slot2 | 3 => g.slot3

/-- One guard slot of the four replaced. -/
def Guard.put (g : Guard) (n : Fin 4) (x : GuardSlot) : Guard :=
  match n with
  | 0 => { g with slot0 := x }
  | 1 => { g with slot1 := x }
  | 2 => { g with slot2 := x }
  | 3 => { g with slot3 := x }

/-- The four slots in slot order. -/
def Guard.slots (g : Guard) : List GuardSlot := [g.slot0, g.slot1, g.slot2, g.slot3]

/-! ### Scan run record -/

/-- The state of the scan run; `none` is NONE (Table 8-2). -/
def runState (d : Dev) : Option RunState := d.scan.run.map (·.state)

/-- The run is in one of the given states. -/
def runIn (d : Dev) (states : List RunState) : Bool :=
  match d.scan.run with
  | some r => states.contains r.state
  | none => false

/-- The run record rewritten where one is present. -/
def modifyRun (f : RunRecord → RunRecord) (d : Dev) : Dev :=
  d.setScan { d.scan with run := d.scan.run.map f }

/-- The run state changed, with the RUN event when it differs (R143). -/
def setRunState (st : RunState) (d : Dev) : Dev :=
  match d.scan.run with
  | none => d
  | some r => if r.state = st then d else raise .capture .run (modifyRun (fun r => { r with state := st }) d)

/-- A run's cause written (R143). -/
def setRunCause (c : RunCause) (d : Dev) : Dev := modifyRun (fun r => { r with cause := some c }) d

end Sys2Proof.Machine
end

