-- ==== Sys2Proof/Machine/Operands.lean ====
section
/-! DEFINITION. The operands of requests: the codes of named values (Table 11-4), yes/no fields and option masks (R195), the payloads of
several fields (Table 11-3), the guard slot record and the imported entry as received (section 11.4). -/

namespace Sys2Proof.Machine

/-! ### Codes of named values received (Table 11-4) -/

/-- A yes/no field: 1 is yes and 0 is no (R195); any other code is in no set (DEDUCED, log entry 20). -/
def yesNoOf (n : Nat) : Option Bool :=
  match n with
  | 0 => some false
  | 1 => some true
  | _ => none

def polarityOf (n : Nat) : Option Polarity :=
  match n with
  | 0 => some .negative
  | 1 => some .positive
  | _ => none

def directionOf (n : Nat) : Option Direction :=
  match n with
  | 0 => some .forward
  | 1 => some .reverse
  | _ => none

def focusOptionOf (n : Nat) : Option FocusOption :=
  match n with
  | 0 => some .none
  | 1 => some .search
  | 2 => some .track
  | 3 => some .recallSteps
  | _ => none

def yieldPolicyOf (n : Nat) : Option YieldPolicy :=
  match n with
  | 0 => some .noYield
  | 1 => some .yieldUrgent
  | 2 => some .yieldAll
  | _ => none

def dataTypeOf (n : Nat) : Option DataType :=
  match n with
  | 0 => some .u16
  | 1 => some .s16
  | 2 => some .u8
  | _ => none

def powerModeOf (n : Nat) : Option PowerMode :=
  match n with
  | 0 => some .periodic
  | 1 => some .always
  | _ => none

def areaOf (n : Nat) : Option Area :=
  match n with
  | 0 => some .outside
  | 1 => some .inside
  | _ => none

def slotActionOf (n : Nat) : Option SlotAction :=
  match n with
  | 0 => some .stop
  | 1 => some .mark
  | 2 => some .note
  | _ => none

def requestClassOf (n : Nat) : Option RequestClass :=
  match n with
  | 0 => some .urgent
  | 1 => some .normal
  | _ => none

def combineModeOf (n : Nat) : Option CombineMode :=
  match n with
  | 0 => some .any
  | 1 => some .all
  | _ => none

def blipLevelOf (n : Nat) : Option BlipLevel :=
  match n with
  | 0 => some .high
  | 1 => some .low
  | _ => none

/-- A slot number from 0 to 3 (R49). -/
def slotOf (n : Nat) : Option (Fin 4) := if h : n < 4 then some ⟨n, h⟩ else none

/-- An entry of the tap map: a group from 0 to 7, or DEAD as FFh (R77, section 11.6). -/
def tapEntryOf (b : Byte) : Option TapEntry :=
  if h : b.toNat < 8 then some (some ⟨b.toNat, h⟩) else if b = 0xFF then some none else none

/-! ### SCAN_START (Table 11-3) -/

/-- The fields of a SCAN_START with their codes read. -/
structure ScanRequest where
  startCode : Nat
  startParam : List Byte
  endCode : Nat
  endParam : List Byte
  speed : Nat
  pitch : Nat
  focusCode : Nat
  policyCode : Nat
  deriving DecidableEq, Repr

/-- The layout of a SCAN_START payload. -/
def scanRequestOf (p : List Byte) : ScanRequest where
  startCode := natAt p 0 1
  startParam := (p.drop 1).take 4
  endCode := natAt p 5 1
  endParam := (p.drop 6).take 4
  speed := natAt p 10 2
  pitch := natAt p 12 2
  focusCode := natAt p 14 1
  policyCode := natAt p 15 1

/-- The start mode that a SCAN_START carries. -/
def startModeOf (q : ScanRequest) : Option StartMode :=
  match q.startCode with
  | 0 => some .atPosition
  | 1 => some (.atFrame (leNat q.startParam))
  | 2 => some .continue_
  | _ => none

/-- The end condition that a SCAN_START carries. -/
def endConditionOf (q : ScanRequest) : Option EndCondition :=
  match q.endCode with
  | 0 => some .untilRollEnd
  | 1 => some (.frameCount (leNat q.endParam))
  | 2 => some (.untilPosition (leInt q.endParam))
  | _ => none

/-! ### RETRIEVE (Table 11-3) -/

/-- The target of a RETRIEVE, from the bytes at its offset. -/
def targetOf (kind : Nat) (p : List Byte) : Option Target :=
  match kind with
  | 0 => some (.frame (natAt p 5 2))
  | 1 => some (.address { batch := natAt p 5 2, doc := natAt p 7 2, page := natAt p 9 2 })
  | 2 => some (.position (intAt p 5 4))
  | _ => none

/-- The options of a RETRIEVE: CONFIRM_EDGE and RECALL_FOCUS, or no and yes when absent. -/
def optionsOf (p : List Byte) : Bool × Bool :=
  match p[12]? with
  | some b => (b.getLsbD 0, b.getLsbD 1)
  | none => (false, true)

/-! ### The guard slot record (section 11.4) -/

/-- The checks of Table 3-1 on a record given to enable a slot (R49): the record with enabled yes, or none when a field fails. -/
def slotRecordOf (p : List Byte) : Option SlotRecord := do
  let dataType ← dataTypeOf (natAt p 3 1)
  let byteSwap ← yesNoOf (natAt p 4 1)
  let powerMode ← powerModeOf (natAt p 5 1)
  let area ← areaOf (natAt p 19 1)
  let action ← slotActionOf (natAt p 21 1)
  let vote ← yesNoOf (natAt p 22 1)
  let r : SlotRecord :=
    { enabled := true
      busAddress := natAt p 1 1
      valueRegister := natAt p 2 1
      dataType := dataType
      byteSwap := byteSwap
      powerMode := powerMode
      period := natAt p 6 2
      scriptStart := natAt p 8 1
      pairCount := natAt p 9 1
      preInitWait := natAt p 10 2
      postInitWait := natAt p 12 2
      retries := natAt p 14 1
      underPattern := natAt p 15 2
      overPattern := natAt p 17 2
      area := area
      debounce := natAt p 20 1
      action := action
      vote := vote }
  if r.busAddress ≤ 127 ∧ ¬ (byteSwap = true ∧ dataType = .u8) ∧ 10 ≤ r.period ∧ r.pairCount ≤ 64 ∧ r.preInitWait ≤ 2550
      ∧ r.postInitWait ≤ 2550 ∧ r.retries ≤ 3 ∧ (dataType = .u8 → r.underPattern ≤ 255 ∧ r.overPattern ≤ 255)
      ∧ (if dataType = .s16 then leInt ((p.drop 15).take 2) < leInt ((p.drop 17).take 2)
         else r.underPattern < r.overPattern)
      ∧ 1 ≤ r.debounce ∧ r.debounce ≤ 8 ∧ ¬ (vote = true ∧ action ≠ .stop) then some r else none

/-! ### Imported entries (section 11.4, R135) -/

/-- An imported entry as received: its frame number, its packed field, and the entry that it makes. -/
structure ImportedEntry where
  frame : Nat
  packed : Nat
  entry : IndexEntry
  deriving DecidableEq, Repr

/-- The 19 bytes of an imported entry (section 11.4): IMPORTED added, VERIFIED and MISMATCH cleared, no run (R135). -/
def importedEntryOf (p : List Byte) : ImportedEntry :=
  let packed := natAt p 15 2
  { frame := natAt p 0 2
    packed := packed
    entry :=
      { start := intAt p 2 4
        length := natAt p 6 3
        address := { batch := natAt p 9 2, doc := natAt p 11 2, page := natAt p 13 2 }
        markLevel := packed / 4096 % 4
        focusStep := if packed / 16384 % 2 = 1 then none else some (packed % 4096)
        flags := { frameFlagsOfBits (BitVec.ofNat 16 (natAt p 17 2)) with imported := true, verified := false, mismatch := false }
        run := none
        firstLine := none
        lastLine := none } }

/-- The packed field is well formed: bit 15 clear, and bits 11:0 zero when the focus step is absent (R135). -/
def packedOk (packed : Nat) : Bool := packed < 32768 && !(packed / 16384 % 2 == 1 && packed % 4096 != 0)

end Sys2Proof.Machine
end

