-- ==== Sys2Proof/Machine/Roll.lean ====
section
/-! DEFINITION. Shared operations of the roll context and metering (chapter 1): roll state changes, drift correction, datum shift,
splice list, drift reports. -/

namespace Sys2Proof.Machine

/-- The roll state and the datum flag set together; a change of roll state raises ROLL at the Request and Service ports
(section 1.2, Table 1-2). -/
def setRollState (st : RollState) (d : Dev) : Dev :=
  let datum := st == .ready || st == .runout
  let d' := d.setRoll { d.roll with state := st, datum := datum }
  if d.roll.state = st then d' else raiseRoll d'

/-- A resume point moved by a signed amount. -/
def shiftPoint (by_ : Int) (p : ResumePoint) : ResumePoint := { p with position := p.position + by_ }

/-- Applying a correction Δ (R18), with the marks of R117; only the counter saturates (DEDUCED, log entry 24). A last boundary point that
becomes the resume point has done so before the disarm that applies Δ, so that the resume point ends as Q − Δ (R18; log entry 25). -/
def applyCorrection (delta : Int) (d : Dev) : Dev :=
  let d := d.setMetering { d.metering with counter := saturate (d.metering.counter - delta) }
  let d := d.setRoll
    { d.roll with
      splices := d.roll.splices.map (· - delta)
      tail := d.roll.tail.map (· - delta)
      pendingCorrection := none
      lastCorrection := delta }
  let d := d.setDetector
    { d.detector with
      openMark := d.detector.openMark.map (· - delta)
      marks := d.detector.marks.map fun m => { m with position := m.position - delta } }
  modifyRun (fun r => { r with resume := r.resume.map (shiftPoint (-delta)) }) d

/-- A pending correction, if any, applied (R17, R18). -/
def applyPending (d : Dev) : Dev :=
  match d.roll.pendingCorrection with
  | none => d
  | some delta => applyCorrection delta d

/-- The positions held in counter terms moved with a datum set over an existing datum (R11). -/
def shiftDatum (by_ : Int) (d : Dev) : Dev :=
  let d := d.setRoll
    { d.roll with
      tail := d.roll.tail.map fun t => saturate (t + by_)
      splices := d.roll.splices.map fun x => saturate (x + by_) }
  modifyRun
    (fun r => { r with resume := r.resume.map fun p => { p with position := saturate (p.position + by_) } }) d

/-- Insertion at its place in ascending order (R15). -/
def insertAscending (x : Int) : List Int → List Int
  | [] => [x]
  | y :: rest => if x < y then x :: y :: rest else y :: insertAscending x rest

/-- A splice position offered to the list (R15): merged, refused with SPLICE_LIST_FULL, or inserted. -/
def offerSplice (x : Int) (d : Dev) : Dev :=
  if d.roll.splices.any (fun y => decide ((y - x).natAbs ≤ Config.spliceSpacing.toNat)) then d
  else if Config.spliceCapacity ≤ d.roll.splices.length then raise .service .spliceListFull d
  else d.setRoll { d.roll with splices := insertAscending x d.roll.splices }

/-- The VERIFIED and MISMATCH flags of an index entry set by a drift report (R16). -/
def markEntry (n : Nat) (verified : Bool) (d : Dev) : Dev :=
  d.setIndex
    { d.index with
      entries := d.index.entries.modify n fun e =>
        { e with flags := { e.flags with verified := verified, mismatch := !verified } } }

/-- A drift report with drift Δ for entry n (R16, R17); the answer says whether it was CORRECTING. A correction made while the
generator is disarmed is applied at once. -/
def driftReport (n : Nat) (delta : Int) (d : Dev) : Bool × Dev :=
  if delta.natAbs ≤ d.roll.cfg.correctionWindow then
    let d := d.setRoll { d.roll with pendingCorrection := some delta }
    let d := markEntry n true d
    (true, if d.trigger.arm.isNone then applyPending d else d)
  else (false, raise .service .drift (markEntry n false d))

end Sys2Proof.Machine
end

