-- ==== Sys2Proof/Machine/Index.lean ====
section
/-! DEFINITION. Shared operations of the frame index (chapter 7): lookups (R140), address order, match (R128), placement (R129), append
(R130) and changes of state (R127). -/

namespace Sys2Proof.Machine

/-- The end of an entry: its start plus its length (R126). -/
def IndexEntry.stop (e : IndexEntry) : Int := e.start + e.length

/-- One address lies below another in (batch, doc, page) order (R126). -/
def addressBelow (a b : Address) : Bool :=
  decide (a.batch < b.batch) || (a.batch == b.batch
    && (decide (a.doc < b.doc) || (a.doc == b.doc && decide (a.page < b.page))))

/-! ### Lookups (R140) -/

/-- Entry n, if it exists. -/
def entryAt (d : Dev) (n : Nat) : Option IndexEntry := d.index.entries[n]?

/-- The first entry from place n on that satisfies a condition, with its frame number. -/
def findFrom (p : IndexEntry → Bool) : Nat → List IndexEntry → Option (Nat × IndexEntry)
  | _, [] => none
  | n, e :: rest => if p e then some (n, e) else findFrom p (n + 1) rest

/-- The entry containing position x. -/
def entryContaining (d : Dev) (x : Int) : Option (Nat × IndexEntry) :=
  findFrom (fun e => decide (e.start ≤ x ∧ x < e.stop)) 0 d.index.entries

/-- The first entry whose end lies beyond x. -/
def firstEndingBeyond (d : Dev) (x : Int) : Option IndexEntry := d.index.entries.find? fun e => decide (x < e.stop)

/-- The first entry whose start lies beyond x. -/
def firstStartingBeyond (d : Dev) (x : Int) : Option IndexEntry := d.index.entries.find? fun e => decide (x < e.start)

/-- The last entry whose start lies below x. -/
def lastStartingBelow (d : Dev) (x : Int) : Option IndexEntry :=
  d.index.entries.reverse.find? fun e => decide (e.start < x)

/-- The last entry. -/
def lastEntry (d : Dev) : Option IndexEntry := d.index.entries.getLast?

/-- The first entry with exactly an address and a mark level above 0 (R139). -/
def findAddress (d : Dev) (a : Address) : Option (Nat × IndexEntry) :=
  findFrom (fun e => e.address == a && decide (0 < e.markLevel)) 0 d.index.entries

/-- The step stored for entry n, if any. -/
def storedStep (d : Dev) (n : Nat) : Option Nat := (entryAt d n).bind (·.focusStep)

/-- The stored step nearest to entry n within k frame numbers either way, from distance k up to 10, the lower-numbered first at equal
distance (R104). -/
def nearestStepFrom (d : Dev) (n : Nat) : Nat → Nat → Option Nat
  | 0, _ => none
  | fuel + 1, k =>
    match (if k ≤ n then storedStep d (n - k) else none) with
    | some st => some st
    | none =>
      match storedStep d (n + k) with
      | some st => some st
      | none => nearestStepFrom d n fuel (k + 1)

/-- R104's choice of a step for a target entry: its own, else the nearest within ten frame numbers. -/
def nearestStep (d : Dev) (n : Nat) : Option Nat := nearestStepFrom d n 11 0

/-- The middle of an entry (R166). -/
def IndexEntry.middle (e : IndexEntry) : Int := e.start + (e.length / 2 : Nat)

/-! ### State changes -/

/-- The index state set; a change raises INDEX at all three ports (R127). The close cause is present exactly while CLOSED. -/
def setIndexState (st : IndexState) (cause : Option CloseCause) (d : Dev) : Dev :=
  let d' := d.setIndex { d.index with state := st, closeCause := cause }
  if d.index.state = st then d' else raiseAll .index d'

/-! ### Match and append at a frame close -/

/-- A frame closed in a run, as handed to the index and to the scan run controller (Table 6-2). -/
structure ClosedFrame where
  start : Int
  length : Nat
  firstLine : Nat
  lastLine : Nat
  address : Address
  markLevel : Nat
  focusStep : Option Nat
  flags : FrameFlags
  boundary : Int
  resumeState : ResumeState
  deriving DecidableEq, Repr

/-- What the index answers for a closed frame: match kind, frame number, and the address the counters take, if any: the matched entry's
(R122, R128), or the last entry's for a frame not appended (R130). -/
structure IndexAnswer where
  kind : MatchKind
  frame : Option Nat
  address : Option Address
  deriving DecidableEq, Repr

/-- The nearest candidate by start among entries from place n on, the lower-numbered at equal distance (R128). -/
def nearestCandidate (m : Int) (l : Nat) (window : Nat) : Nat → List IndexEntry → Option (Nat × IndexEntry)
  | _, [] => none
  | n, e :: rest =>
    let later := nearestCandidate m l window (n + 1) rest
    if e.start < m + l + window ∧ m - window < e.stop then
      match later with
      | none => some (n, e)
      | some (k, f) => if (m - e.start).natAbs ≤ (m - f.start).natAbs then some (n, e) else some (k, f)
    else later

/-- The entry that a closed frame matches: the nearest candidate when its drift is within W_m (R128). -/
def matchEntry (d : Dev) (m : Int) (l : Nat) : Option (Nat × IndexEntry) :=
  match nearestCandidate m l d.roll.cfg.matchWindow 0 d.index.entries with
  | none => none
  | some (n, e) => if (m - e.start).natAbs ≤ d.roll.cfg.matchWindow then some (n, e) else none

/-- The entry that an append writes (R130). -/
def appendedEntry (run : Nat) (f : ClosedFrame) : IndexEntry where
  start := f.start
  length := f.length
  address := f.address
  markLevel := f.markLevel
  focusStep := f.focusStep
  flags := { f.flags with imported := false, verified := false, mismatch := false }
  run := some run
  firstLine := some f.firstLine
  lastLine := some f.lastLine

/-- The address check of R130: the frame's address does not lie below the last entry's. -/
def appendAddressOk (d : Dev) (f : ClosedFrame) : Bool :=
  match lastEntry d with
  | none => true
  | some e => !addressBelow f.address e.address

/-- A closed frame lies beyond the last entry's end, or there is no entry (R129). -/
def beyondIndex (d : Dev) (m : Int) : Bool :=
  match lastEntry d with
  | none => true
  | some e => decide (e.stop < m)

end Sys2Proof.Machine
end

