-- ==== Sys2Proof/Machine/Lens.lean ====
section
/-! DEFINITION. The lens stage (section 5.1): move requests, step timing, the ends of a move and of a homing, the lens facts of an open
frame, and the focus score (R90, R91). -/

namespace Sys2Proof.Machine

/-- The lens replaced. -/
def setLens (l : Lens) (d : Dev) : Dev := d.setFocus { d.focus with lens := l }

/-- The lens enters MOVING or HOMING: an open frame notes it (R99). -/
def noteLensMoved (d : Dev) : Dev :=
  d.setFocus { d.focus with frameLens := d.focus.frameLens.map fun f => { f with moved := true } }

/-- What a move request is answered at once (R86). -/
inductive MoveAnswer where
  | refused | atTarget | moving
  deriving DecidableEq, Repr

/-- The steps still to issue (R85). -/
def MoveRecord.remaining (m : MoveRecord) (step : Nat) : Nat := if step ≤ m.target then m.target - step else step - m.target

/-- The lens comes to rest (R86): IDLE, with the FOCUS event of a LENS_MOVE that waits for it (R88). -/
def lensRest (d : Dev) : Dev :=
  let watch := d.focus.lens.serviceWatch
  let d := setLens { d.focus.lens with state := .idle, move := none, serviceWatch := false } d
  if watch then raise .service .focus d else d

/-- The settle time begins after the last step; a settle time of 0 ends the move (R86). -/
def beginSettle (m : MoveRecord) (d : Dev) : Dev :=
  if d.focus.cfg.lensSettle = 0 then lensRest (setLens { d.focus.lens with move := some m } d)
  else setLens { d.focus.lens with move := some { m with settledAt := some (d.time + d.focus.cfg.lensSettle) } } d

/-- A move request (R86): refused, at its target at once, started, or retargeting the move in progress. A move of a search that
another requester supersedes is reported to the search (R93). A retargeted move reads the rate anew (DEDUCED, log entry 15). -/
def moveRequest (target : Nat) (req : Requester) (d : Dev) : MoveAnswer × Dev :=
  let fresh : MoveRecord :=
    { target := target, requester := req, issued := 0, elapsed := 0, rate := d.focus.cfg.stepRate, settledAt := none }
  match d.focus.lens.state with
  | .unhomed | .fault | .homing => (.refused, d)
  | .idle =>
    if target = d.focus.lens.step then (.atTarget, d)
    else (.moving, noteLensMoved (setLens { d.focus.lens with state := .moving, move := some fresh } d))
  | .moving =>
    let superseded : Bool :=
      match d.focus.lens.move with
      | some m => m.requester == .search && req != .search && d.focus.search.isSome
      | none => false
    let d := if superseded then report .searchSuperseded d else d
    if target = d.focus.lens.step then
      let d := beginSettle fresh d
      (if d.focus.lens.state = .moving then .moving else .atTarget, d)
    else (.moving, setLens { d.focus.lens with move := some fresh } d)

/-- Step number k of stepping falls ceil(k × 1000 / rate) ms after it begins, counted while the gate is deasserted (R86). -/
def stepDue (issued elapsed rate : Nat) : Bool := decide (ceilDiv ((issued + 1) * 1000) rate ≤ elapsed)

/-- One lens step of a move toward its target (R85, R86). -/
def issueStep (m : MoveRecord) (d : Dev) : Dev :=
  let up := decide (d.focus.lens.step < m.target)
  let step := if up then d.focus.lens.step + 1 else d.focus.lens.step - 1
  let m := { m with issued := m.issued + 1 }
  let d := setLens
    { d.focus.lens with step := step, move := some m, dirHigh := up, pulses := d.focus.lens.pulses + 1 } d
  if step = m.target then beginSettle m d else d

/-- A homing has seen its switch: the lens step becomes 0 at once, while the lens is still HOMING, and the settle time begins (R85, R87;
DESIGN CHOICE, log entry 44). -/
def homingSeen (h : Homing) (d : Dev) : Dev :=
  setLens
    { d.focus.lens with
      step := 0
      homing := some { h with settledAt := some (d.time + d.focus.cfg.lensSettle) } } d

/-- The lens step held and the moving fact of the open frame (R99). -/
def frameLensFacts (d : Dev) : Bool × Option Nat :=
  match d.focus.frameLens with
  | none => (false, none)
  | some f =>
    let moving := f.moved || f.stateAtOpening == .moving || f.stateAtOpening == .homing
    (moving, if f.stateAtOpening = .idle ∧ f.moved = false then some d.focus.lens.step else none)

/-! ### Focus windows and scores -/

/-- An empty window of the length in force (R90). -/
def newWindow (d : Dev) : Window := { length := d.focus.cfg.focusWindow, count := 0, sumF := 0, sumL := 0 }

/-- A line result counts toward a window: COMPLETE, marked counted, with the lens IDLE (R90). -/
def lineCounts (r : LineResult) (d : Dev) : Option LineStats :=
  match r.stats with
  | some st => if st.counted ∧ d.focus.lens.state = .idle then some st else none
  | none => none

/-- A counted line added to a window (R90). -/
def Window.add (w : Window) (st : LineStats) : Window :=
  { w with count := w.count + 1, sumF := w.sumF + st.focusSum, sumL := w.sumL + st.level }

/-- A window is full when its line count reaches its length (R90). -/
def Window.full (w : Window) : Bool := decide (w.length ≤ w.count)

/-- The score of a window, floor(ΣF × 256 / (ΣL + 1)), at most 65,535 (R91). -/
def Window.score (w : Window) : Nat := min 65535 (w.sumF * 256 / (w.sumL + 1))

end Sys2Proof.Machine
end

