-- ==== Sys2Proof/Machine/Claims.lean ====
section
/-! DEFINITION. Eligibility, the yield demand and the three claims, computed from the conditions that raise them (R146, R168, R179; DEDUCED, log
entry 10); the focus activity (R89); the retrieval hold of the lens (R104); and the operations of the retrieval queue that only
concern its own state: completion, resolution, deferral, the ticket (R165 to R167, R173). -/

namespace Sys2Proof.Machine

/-! ### Eligibility and claims -/

/-- A request is eligible while WAITING with the datum flag set (R168). -/
def eligible (d : Dev) (r : RetrievalRequest) : Bool := r.state == .waiting && d.roll.datum

/-- An eligible request exists. -/
def anyEligible (d : Dev) : Bool := d.retrieval.queue.any (eligible d)

/-- An eligible URGENT request exists. -/
def anyUrgent (d : Dev) : Bool := d.retrieval.queue.any fun r => eligible d r && r.class_ == .urgent

/-- The yield demand of the run (R146). -/
def yieldDemand (d : Dev) : Bool :=
  match d.scan.run with
  | none => false
  | some r =>
    match r.policy with
    | .noYield => false
    | .yieldUrgent => anyUrgent d
    | .yieldAll => anyEligible d

/-- The scan claim is raised (R146). -/
def scanClaim (d : Dev) : Bool :=
  match d.scan.run with
  | none => false
  | some r =>
    (r.state == .queued || (r.state == .suspended && r.resumePermitted))
      && d.roll.state == .ready && !yieldDemand d && !d.scan.backlog

/-- The retrieval claim is raised (R168). -/
def retrievalClaim (d : Dev) : Bool := anyEligible d && d.transport.grant != .retrieval

/-- The conditions of a hint claim but the last (R179). -/
def hintConditions (d : Dev) : Bool :=
  !d.retrieval.hints.isEmpty && !anyEligible d && !scanClaim d && !runIn d [.preparing, .running, .suspending]
    && d.transport.grant == .nobody && d.transport.motion == .idle && d.transport.tension == .hold && d.roll.datum

/-- The newest hint, when it names an indexed frame. -/
def indexedHint (d : Dev) : Option Nat :=
  match d.retrieval.hints with
  | [] => none
  | n :: _ => if n < d.index.entries.length then some n else none

/-- The hint claim is raised (R179). -/
def hintClaim (d : Dev) : Bool := hintConditions d && (indexedHint d).isSome

/-! ### Focus activity and the hold of the lens -/

inductive FocusActivity where
  | none | search | track | trackPaused | recallSteps
  deriving DecidableEq, Repr

/-- The focus activity (R89). -/
def focusActivity (d : Dev) : FocusActivity :=
  if d.focus.search.isSome then .search
  else
    match d.scan.run with
    | none => .none
    | some r =>
      match r.focus with
      | .track =>
        if d.focus.track.isNone then .none
        else if r.state = .running ∨ r.state = .suspending then .track else .trackPaused
      | .recallSteps =>
        if r.state = .preparing ∨ r.state = .running ∨ r.state = .suspending then .recallSteps else .none
      | _ => .none

/-- The retrieval scheduler holds the lens: since a recall of a request still in the queue, or during a hold (R104, R174; DEDUCED, log
entry 17). -/
def lensHeld (d : Dev) : Bool := d.retrieval.hold.isSome || d.retrieval.queue.any (·.holdsLens)

/-! ### The retrieval queue -/

/-- The request record of a ticket. -/
def requestOf (d : Dev) (t : Nat) : Option RetrievalRequest := d.retrieval.queue.find? fun r => r.ticket == t

/-- The request records rewritten. -/
def modifyRequests (f : RetrievalRequest → RetrievalRequest) (d : Dev) : Dev :=
  d.setRetrieval { d.retrieval with queue := d.retrieval.queue.map f }

/-- The record of one ticket rewritten. -/
def modifyRequest (t : Nat) (f : RetrievalRequest → RetrievalRequest) (d : Dev) : Dev :=
  modifyRequests (fun r => if r.ticket = t then f r else r) d

/-- No completion flags. -/
def CompletionFlags.clear : CompletionFlags := { edge := none, recallReport := .neither, retried := false }

/-- The first request of a ticket taken out of a queue. -/
def removeTicket (t : Nat) : List RetrievalRequest → List RetrievalRequest
  | [] => []
  | r :: rest => if r.ticket = t then rest else r :: removeTicket t rest

/-- A request leaves the queue with its completion record in one change; DONE is raised when the completion list was empty (R173,
R187). -/
def completeRequest (r : RetrievalRequest) (result : CompletionResult) (flags : CompletionFlags) (correction : Int) (d : Dev) :
    Dev :=
  match requestOf d r.ticket with
  | none => d
  | some _ =>
    let record : Completion :=
      { ticket := r.ticket, result := result, flags := flags, frame := r.frame, position := d.metering.counter
        correction := correction, lensStep := d.focus.lens.step }
    let wasEmpty := d.retrieval.completions.isEmpty
    let d := d.setRetrieval
      { d.retrieval with
        queue := removeTicket r.ticket d.retrieval.queue
        completions := d.retrieval.completions ++ [record] }
    if wasEmpty then raise .request .done d else d

/-- A request that is not ACTIVE completes: no attempt is in progress, so only RETRIED can be set (Table 9-2; DEDUCED, log entry 18).
RETRIEVAL makes no keep decision of R29 here while it holds the grant (DESIGN CHOICE, log entry 41). -/
def completeIdle (result : CompletionResult) (r : RetrievalRequest) (d : Dev) : Dev :=
  completeRequest r result { CompletionFlags.clear with retried := r.retried } 0 d

/-- Requests completed one after another in the order given. -/
def completeAll (result : CompletionResult) : List RetrievalRequest → Dev → Dev
  | [], d => d
  | r :: rest, d => completeAll result rest (completeIdle result r d)

/-- Where a target lies: the resolved position and the resolved frame number (R166). -/
def resolveTarget (d : Dev) (target : Target) : Option (Int × Option Nat) :=
  match target with
  | .frame n => (entryAt d n).map fun e => (e.middle, some n)
  | .address a => (findAddress d a).map fun p => (p.2.middle, some p.1)
  | .position x => some (x, (entryContaining d x).map (·.1))

/-- One request resolved against the table as it stands; a request that does not resolve is left as it is (R166). -/
def resolveRecord (d : Dev) (r : RetrievalRequest) : RetrievalRequest :=
  match resolveTarget d r.target with
  | some (x, n) => { r with state := .waiting, position := some x, frame := n }
  | none => r

/-- Every DEFERRED request resolved again (R167). The table does not change in between, so the order of arrival shows nothing. -/
def resolveDeferred (d : Dev) : Dev :=
  modifyRequests (fun r => if r.state = .deferred then resolveRecord d r else r) d

/-- Every request still DEFERRED completes NOT_FOUND, in order of arrival (R167). -/
def failDeferred (d : Dev) : Dev :=
  completeAll .notFound (d.retrieval.queue.filter fun r => r.state == .deferred) d

/-- The index becomes CLOSED with a cause, and the scheduler is told (R127, R167). -/
def closeIndex (cause : CloseCause) (d : Dev) : Dev := failDeferred (setIndexState .closed (some cause) d)

/-- The value after a ticket, 255 followed by 1 (R165). -/
def nextTicket (t : Nat) : Nat := if 255 ≤ t then 1 else t + 1

/-- A ticket is in the queue or in the completion list. -/
def ticketInUse (d : Dev) (t : Nat) : Bool :=
  d.retrieval.queue.any (fun r => r.ticket == t) || d.retrieval.completions.any fun c => c.ticket == t

/-- The first free ticket from a value on, looked for within a number of steps (R165). -/
def findTicket (d : Dev) : Nat → Nat → Nat
  | 0, t => t
  | fuel + 1, t => if ticketInUse d t then findTicket d fuel (nextTicket t) else t

/-- The ticket that the next taken RETRIEVE issues: a free value is found within 25 steps (R165). -/
def freshTicket (d : Dev) : Nat := findTicket d 25 d.retrieval.ticketCounter

end Sys2Proof.Machine
end

