-- ==== Sys2Proof/Machine/Trigger.lean ====
section
/-! DEFINITION. The line trigger generator (section 4.1): placement, arming, emission and disarm, with what a disarm brings about in the
frame detector (R109, R116), the scan run record (R71) and the roll context (R17); and the notice queue (R151). -/

namespace Sys2Proof.Machine

/-! ### Notices -/

/-- A notice added to the queue, with the backlog hold and the NOTICE event (R151, R187). -/
def pushNotice (n : Notice) (d : Dev) : Dev :=
  let wasEmpty := d.scan.notices.isEmpty
  let notices := d.scan.notices ++ [n]
  let d := d.setScan
    { d.scan with notices := notices, backlog := d.scan.backlog || decide (Config.backlogSet ≤ notices.length) }
  if wasEmpty then raise .capture .notice d else d

/-- FRAME_GATE driven (R149). -/
def setGate (on : Bool) (d : Dev) : Dev := d.setScan { d.scan with gate := on }

/-! ### What a disarm does in the frame detector -/

/-- The TRUNCATED notice of an open frame (R116, Table 8-4). -/
def truncatedNotice (run : Nat) (f : OpenFrame) (d : Dev) : Notice :=
  let length := (f.lastPosition - f.start).toNat
  let facts := frameLensFacts d
  { run := run, kind := .truncated, frame := none, firstLine := f.firstLine, lastLine := f.lastLine, start := f.start
    length := length, address := d.detector.counters, markLevel := 0, focusStep := facts.2
    flags :=
      { suspect := d.guard.suspectLatch, monitorGap := f.monitorGap, splice := spliceInSpan d.roll.splices f.start length
        focusMoving := facts.1 }
    matchKind := .notAppended }

/-- The marks measured since the last close are removed, and the open mark with them (R116). They are taken as the marks with the highest
positions (DESIGN CHOICE, log entry 45). -/
def dropRecentMarks (d : Dev) : Dev :=
  d.setDetector
    { d.detector with
      marks := d.detector.marks.take (d.detector.marks.length - d.detector.sinceClose)
      openMark := none
      sinceClose := 0 }

/-- A disarm with the detector in RUN: an open frame is handed on as TRUNCATED and the recent marks are dropped (R116). -/
def truncateOpen (d : Dev) : Dev :=
  let d :=
    match d.detector.openFrame, d.scan.run with
    | some f, some r => pushNotice (truncatedNotice r.number f d) (setGate false d)
    | _, _ => d
  dropRecentMarks d

/-- The activity returns to IDLE: gap state, gap run and open frame are discarded (R109, R116). -/
def detectorIdle (d : Dev) : Dev :=
  let d := d.setDetector
    { d.detector with activity := .idle, gapState := .unknown, openNext := false, gapRun := none, openFrame := none }
  d.setFocus { d.focus with frameLens := none, frameWindow := none }

/-! ### Disarm -/

/-- A disarm with its cause (R72), after which no last boundary point is present (Table 8-1). `atClose` marks the disarm that the scan
run controller gives while a frame close is being handled: the frame is already closed, and the marks stay (R113, R117). A detector
that is IDLE keeps the marks and the open mark of an earlier arm, as one armed for a resume is until BASE_REACHED (DESIGN CHOICE, log
entry 36). A disarm of a generator that is not armed does nothing. -/
def disarm (why : DisarmCause) (atClose : Bool) (d : Dev) : Dev :=
  match d.trigger.arm with
  | none => d
  | some a =>
    let d := if d.detector.activity = .run ∧ atClose = false then truncateOpen d else d
    let d := detectorIdle d
    let d := setGate false d
    let d := d.setTrigger { d.trigger with arm := none }
    let d := d.setLines { d.lines with expected := none, last := none }
    let d := d.setFocus { d.focus with search := d.focus.search.map fun s => { s with window := none } }
    let d := if a.mode = .scan then modifyRun (fun r => { r with savedLine := d.trigger.lineCounter }) d else d
    report (.disarmed a.owner why) (applyPending (modifyRun (fun r => { r with boundary := none }) d))

/-! ### Emission and arming -/

/-- The position of trigger k of an arm: base + floor(k × P / 256) (R68). -/
def armPosition (a : Arm) (k : Nat) : Int := a.base + (k * a.pitch / 256 : Nat)

/-- The next trigger position t (R68). -/
def nextPosition (a : Arm) : Int := armPosition a a.index

/-- One trigger emitted (R70, R71): the pulse, the line number, the expected segment, the next index. -/
def emitTrigger (a : Arm) (d : Dev) : Dev :=
  let line := if a.mode = .scan then some d.trigger.lineCounter else none
  let record : TriggerRecord := { mode := a.mode, index := a.index, position := nextPosition a, line := line }
  let d := d.setTrigger
    { arm := some { a with index := a.index + 1 }
      lineCounter := if a.mode = .scan then d.trigger.lineCounter + 1 else d.trigger.lineCounter
      pulses := d.trigger.pulses + 1 }
  d.setLines { d.lines with expected := some { trigger := record, bytes := [] } }

/-- The smallest trigger index whose position is at or above the counter (R69). -/
def firstIndex (base : Int) (pitch : Nat) (counter : Int) : Nat :=
  if counter ≤ base then 0 else ceilDiv (256 * (counter - base).toNat) pitch

/-- A trigger at its position: emitted, or the disarm of R71 when the line counter is at its limit. -/
def triggerDue (a : Arm) (d : Dev) : Dev :=
  if a.mode = .scan ∧ d.trigger.lineCounter = Config.lineLimit then disarm .lineLimit false d
  else emitTrigger a d

/-- An arm request (R69, R73). From a block that is not the grant owner it is not taken, and the block is told NOT_OWNER; otherwise the
arming operation is told the trigger index at which the arm begins. The operation of an arm that is replaced is told COMMAND
(DESIGN CHOICE, log entry 42). A stop position at or below the counter disarms as the arm is made
(R73), and so does one at or below the base, as R156 says of a resume point at or beyond E (DESIGN CHOICE, log entry 38). -/
def armTrigger (owner : Owner) (mode : ArmMode) (base : Int) (pitch : Nat) (stopAt : Option Int) (line : Nat) (d : Dev) : Dev :=
  if d.transport.grant ≠ owner then report (.armNotOwner owner) d
  else
    let d := disarm .command false d
    let p := d.metering.counter
    let a : Arm := { owner := owner, mode := mode, base := base, pitch := pitch, stopAt := stopAt, index := firstIndex base pitch p }
    let d := d.setTrigger
      { d.trigger with arm := some a, lineCounter := if mode = .scan then line else d.trigger.lineCounter }
    let d := report (.armBegan owner a.index) d
    let stopped :=
      match stopAt with
      | some e => decide (e ≤ p ∨ e ≤ base)
      | none => false
    if stopped then disarm .stopPosition false d
    else if nextPosition a = p then triggerDue a d
    else d

end Sys2Proof.Machine
end

