-- ==== Sys2Proof/Machine/Motion.lean ====
section
/-! DEFINITION. The motion grant and the motion orders (sections 2.2 and 2.3): taking and releasing the grant, starting, holding and
replacing orders, STOP, and the ends of orders. Outcomes go to the owners as reports (Table 2-2). -/

namespace Sys2Proof.Machine

/-! ### The grant -/

/-- No order is current or held, and the transport is not moving or stopping. -/
def atRest (d : Dev) : Bool :=
  !movingState d.transport.motion && d.transport.motion != .stopping && d.transport.current.isNone && d.transport.held.isNone

/-- The grant becomes NONE; an arm of the old owner is disarmed (R26, R72). -/
def dropGrant (d : Dev) : Dev :=
  let old := d.transport.grant
  let d := d.setTransport { d.transport with grant := .nobody, releasePending := false }
  match d.trigger.arm with
  | some a => if a.owner = old then disarm .grantLost false d else d
  | none => d

/-- The owner releases the grant: at once at rest, otherwise when the order and the stop that ends it are over (R26). -/
def releaseGrant (owner : Owner) (d : Dev) : Dev :=
  if d.transport.grant ≠ owner ∨ owner = .nobody then d
  else if atRest d then dropGrant d
  else d.setTransport { d.transport with releasePending := true }

/-- The grant given to an owner; with tension RELEASE the transport enters RETENSIONING, reading the settle time (R27, R39). -/
def giveGrant (owner : Owner) (d : Dev) : Dev :=
  let d := d.setTransport { d.transport with grant := owner, releasePending := false, parkTimer := 0 }
  if d.transport.tension = .release then
    d.setTransport
      { d.transport with
        motion := .retensioning, tension := .hold, driveEnable := true, demand := 0
        tensionedAt := some (d.time + d.transport.cfg.tensionSettle) }
  else d

/-! ### Starting an order -/

/-- Braking distance b(u) = ceil(u² / (2a)) (R32). -/
def brakingDistance (a u : Nat) : Nat := ceilDiv (u * u) (2 * a)

/-- The run-up distance U of a scan order (R35). -/
def runUp (d : Dev) (speed : Nat) : Nat := brakingDistance d.transport.cfg.acceleration speed + d.transport.cfg.runUpMargin

/-- What a seek fixes at its start (R31). -/
def seekRun (d : Dev) (target : Int) (cap : Option Nat) : SeekRun :=
  let target := clampLimits d target
  let c := match cap with
    | some k => min k d.transport.cfg.seekMaximum
    | none => d.transport.cfg.seekMaximum
  let d0 := target - d.metering.counter
  { target := target, distance := d0, cap := c
    limit := ceilDiv d0.natAbs c + ceilDiv (2 * c) d.transport.cfg.acceleration + d.transport.cfg.seekMargin
    elapsed := 0, reversals := 0 }

/-- The order becomes the current one and its motion state is entered (R30, R31, R35 to R37). -/
def beginOrder (o : Order) (motion : MotionState) (seek : Option SeekRun) (speed : Nat) (d : Dev) : Dev :=
  d.setTransport
    { d.transport with
      motion := motion
      stopReason := none
      current := some { order := o, seek := seek, speed := speed, runPhase := false, baseReported := false } }

/-- A creep's speed as read at its start (R36). -/
def creepSpeedOf (d : Dev) : CreepSpeed → Nat
  | .confirm => d.transport.cfg.creepSpeed
  | .probe => d.transport.cfg.probeSpeed

/-- A jog starts at or beyond the limit in its direction (R37). -/
def jogBeyond (d : Dev) : Direction → Bool
  | .forward => decide (upperLimit d ≤ d.metering.counter)
  | .reverse => decide (d.metering.counter ≤ lowerLimit d)

/-- The cause for which an order other than STOP fails at its start, if any (R25, R36, R37). An order that meets a deasserted DRV_READY and
a start at or beyond its limit together fails with DRIVE_NOT_READY (DESIGN CHOICE, log entry 40). -/
def startFailure (d : Dev) (kind : OrderKind) : Option FailCause :=
  if d.inputs.driveReady = false then some .driveNotReady
  else
    match kind with
    | .creep _ => if upperLimit d ≤ d.metering.counter then some .limit else none
    | .jog dir => if jogBeyond d dir then some .limit else none
    | _ => none

/-- An order other than STOP would start: it fails at once, leaving the motion state and any current order as they were, or its
motion begins (R25, R31, R35, R36, R37). -/
def startOrder (o : Order) (d : Dev) : Dev :=
  match startFailure d o.kind with
  | some cause => report (.orderEnded o.owner (.failed cause) false) d
  | none =>
    match o.kind with
    | .seek target cap => beginOrder o .seek (some (seekRun d target cap)) 0 d
    | .scan start speed _ _ _ =>
      report .positioningBegan (beginOrder o .seek (some (seekRun d (start - runUp d speed) none)) speed d)
    | .creep which => beginOrder o .creep none (creepSpeedOf d which) d
    | .jog _ => beginOrder o .jog none d.transport.cfg.jogSpeed d
    | .stop => d

/-! ### STOP -/

/-- The transport enters STOPPING with a reason; the order named, if any, is the one in progress while it brakes. -/
def enterStopping (reason : StopReason) (cur : Option CurrentOrder) (d : Dev) : Dev :=
  d.setTransport { d.transport with motion := .stopping, stopReason := some reason, current := cur }

/-- A STOP order of an owner as the order in progress (R38; DEDUCED, log entry 12). -/
def stopOrder (owner : Owner) : CurrentOrder :=
  { order := { owner := owner, kind := .stop }, seek := none, speed := 0, runPhase := false, baseReported := false }

/-- A STOP order from the grant owner, by motion state (R38). -/
def giveStop (owner : Owner) (d : Dev) : Dev :=
  if d.transport.grant ≠ owner then report (.orderEnded owner (.failed .notOwner) false) d
  else
    match d.transport.motion with
    | .jog | .seek | .creep | .scan => enterStopping .order (some (stopOrder owner)) d
    | .idle | .parked => report (.orderEnded owner .stopped true) d
    | .retensioning =>
      report (.orderEnded owner .stopped true) (d.setTransport { d.transport with held := none })
    | .stopping =>
      if d.transport.stopReason = some .guardStop then d
      else d.setTransport { d.transport with held := none, current := some (stopOrder owner) }
    | .halted => d

/-- STOP given when an order is running or held, or the transport is stopping (R148, R158, R177). -/
def stopIfRunning (owner : Owner) (d : Dev) : Dev :=
  if d.transport.grant = owner ∧ atRest d = false then giveStop owner d else d

/-! ### Giving an order -/

/-- An order other than STOP given now would be held rather than started (R30). -/
def wouldHold (d : Dev) : Bool := d.transport.motion == .retensioning || d.transport.motion == .stopping

/-- A motion order from a block, taken by motion state (R26, R30). -/
def giveOrder (o : Order) (d : Dev) : Dev :=
  if d.transport.grant ≠ o.owner then report (.orderEnded o.owner (.failed .notOwner) false) d
  else
    match o.kind with
    | .stop => giveStop o.owner d
    | _ =>
      match d.transport.motion with
      | .retensioning | .stopping => d.setTransport { d.transport with held := some o }
      | .halted => report (.orderEnded o.owner (.failed .halted) false) d
      | _ => startOrder o d

/-- The transport comes to rest in IDLE with no order in progress (Table 2-1). -/
def becomeIdle (d : Dev) : Dev :=
  setDemand 0 (d.setTransport { d.transport with motion := .idle, stopReason := none, current := none })

/-- A held order, if any, starts (R30, R38, R39). -/
def startHeld (d : Dev) : Dev :=
  match d.transport.held with
  | none => d
  | some o => startOrder o (d.setTransport { d.transport with held := none })

/-- The order in progress ends with an outcome and the transport is IDLE (Table 2-2). -/
def endOrder (outcome : OrderOutcome) (d : Dev) : Dev :=
  match d.transport.current with
  | none => becomeIdle d
  | some c => report (.orderEnded c.order.owner outcome true) (becomeIdle d)

/-- A seek fails: reported at once, and the transport stops with reason FAILURE (R34). -/
def failSeek (cause : FailCause) (d : Dev) : Dev :=
  match d.transport.current with
  | none => d
  | some c => report (.orderEnded c.order.owner (.failed cause) true) (enterStopping .failure none d)

end Sys2Proof.Machine
end

