-- ==== Sys2Proof/Machine/Search.lean ====
section
/-! DEFINITION. The focus search (section 5.3): its beginning, its probes and phases, and its ends. -/

namespace Sys2Proof.Machine

/-! ### The phases -/

/-- The first candidate of a fine round about the best step, lower before upper; none when the offset is used up (R95). -/
def startRound (s : SearchRecord) (f : Nat) : SearchRecord × Option Nat :=
  match s.best with
  | none => (s, none)
  | some (b, x) =>
    let s := { s with phase := .fine, fine := f, roundBest := b, roundScore := x }
    if f = 0 then (s, none)
    else if b - f ≠ b then (s, some (b - f))
    else if min (b + f) Config.maxLensStep ≠ b then (s, some (min (b + f) Config.maxLensStep))
    else (s, none)

/-- The fine phase begins (R95). -/
def startFine (s : SearchRecord) : SearchRecord × Option Nat := startRound s (max 1 (s.coarse / 4))

/-- The downward walk begins at s0 − C clamped to 0; a candidate equal to the step last probed ends it without a probe (R94). -/
def startDown (s : SearchRecord) : SearchRecord × Option Nat :=
  let c := s.startStep - s.coarse
  if s.lastProbed = some c then startFine s else ({ s with phase := .coarseDown }, some c)

/-- The upward walk ends: downward when no upward probe rose, else to the fine phase (R94). -/
def endUp (s : SearchRecord) : SearchRecord × Option Nat := if s.rose then startFine s else startDown s

/-- The next upward candidate from step c (R94). -/
def goUp (s : SearchRecord) (c : Nat) : SearchRecord × Option Nat :=
  let next := min (c + s.coarse) Config.maxLensStep
  if next = c then endUp s else (s, some next)

/-- The next downward candidate from step c (R94). -/
def goDown (s : SearchRecord) (c : Nat) : SearchRecord × Option Nat :=
  if c - s.coarse = c then startFine s else (s, some (c - s.coarse))

/-- A fine round is over: the same offset when it improved, else half of it (R95). -/
def endRound (s : SearchRecord) : SearchRecord × Option Nat :=
  match s.best with
  | none => (s, none)
  | some (_, x) => if s.roundScore < x then startRound s s.fine else startRound s (s.fine / 2)

/-- A probe's score taken into the best step and the phase (R93 to R95): the record after it and the next candidate, or none when
the fine offset is used up. -/
def takeProbe (s : SearchRecord) (x : Nat) : SearchRecord × Option Nat :=
  let c := s.candidate
  let better :=
    match s.best with
    | none => true
    | some (_, b) => decide (b < x)
  let first := s.probes = 0
  let s :=
    { s with
      probes := s.probes + 1, lastScore := some x, lastProbed := some c, window := none
      best := if better then some (c, x) else s.best }
  match s.phase with
  | .coarseUp =>
    if first then goUp s c
    else if better then goUp { s with rose := true } c
    else endUp s
  | .coarseDown => if better then goDown s c else startFine s
  | .fine =>
    let upper := min (s.roundBest + s.fine) Config.maxLensStep
    if c < s.roundBest ∧ upper ≠ s.roundBest then (s, some upper) else endRound s

/-! ### The ends of a search -/

/-- The grant owner on whose behalf a search works. -/
def searchGrant : SearchOwner → Owner
  | .scan => .scan | .service => .service

/-- The search's creep is still running or held. -/
def creepInProgress (d : Dev) : Bool :=
  let isCreep : OrderKind → Bool := fun k =>
    match k with
    | .creep _ => true
    | _ => false
  (match d.transport.current with
   | some c => isCreep c.order.kind
   | none => false)
  || (match d.transport.held with
   | some o => isCreep o.kind
   | none => false)

/-- The arm is disarmed when still in force, and STOP is given for a creep still running (R96, R97). -/
def closeSearchMotion (who : SearchOwner) (d : Dev) : Dev :=
  let d := match d.trigger.arm with
    | some a => if a.mode = .probe then disarm .command false d else d
    | none => d
  if d.transport.grant = searchGrant who ∧ creepInProgress d then giveStop (searchGrant who) d else d

/-- Port at which a search's FOCUS event is raised (R96). -/
def searchPort : SearchOwner → PortId
  | .scan => .capture | .service => .service

/-- The search record discarded and the last focus outcome set, with the FOCUS event (R96, R97). -/
def recordOutcome (who : SearchOwner) (outcome : FocusOutcome) (best : Option (Nat × Nat)) (d : Dev) : Dev :=
  raise (searchPort who) .focus
    (d.setFocus { d.focus with search := none, outcome := outcome, bestScore := best.map (·.2) })

/-- What a FOCUSED or failed search leaves to its run: the track context of R100, or the run focus step (R96; DEDUCED, log entry 14). -/
def leaveToRun (focused : Bool) (best : Option (Nat × Nat)) (closing : Nat) (d : Dev) : Dev :=
  match d.scan.run with
  | none => d
  | some r =>
    match r.focus, best with
    | .track, some (b, x) =>
      if focused then
        d.setFocus
          { d.focus with
            track := some
              { step := b, reference := x, state := .steady, lowCount := 0, lowScore := none, restoreStep := b
                probeOffset := none, moveDue := false } }
      else d
    | .search, _ => d.setFocus { d.focus with runStep := some closing }
    | _, _ => d

/-- A search ends (R96): its arm and creep are closed, the outcome is decided from the best score, and the lens moves to the best
step or back to s0. `lensLost` is the end of R97 for a refused lens move: FOCUS_FAILED with the lens left as it is. -/
def endSearch (lensLost : Bool) (d : Dev) : Dev :=
  match d.focus.search with
  | none => d
  | some s =>
    let d := closeSearchMotion s.requester d
    let focused := !lensLost && (match s.best with
      | some (_, x) => decide (d.focus.cfg.minimumScore ≤ x)
      | none => false)
    let closing := if focused then (match s.best with
      | some (b, _) => b
      | none => s.startStep) else s.startStep
    let d := recordOutcome s.requester (if focused then .focused else .focusFailed) s.best d
    let d := if lensLost then d else (moveRequest closing .search d).2
    match s.requester with
    | .scan => report .searchEnded (leaveToRun focused s.best closing d)
    | .service => releaseGrant .service d

/-- A search is abandoned (R97): the lens is not moved again, and nothing is left to the run. -/
def abandonSearch (d : Dev) : Dev :=
  match d.focus.search with
  | none => d
  | some s =>
    let d := recordOutcome s.requester .abandoned s.best (closeSearchMotion s.requester d)
    match s.requester with
    | .scan => d
    | .service => releaseGrant .service d

/-! ### Probes -/

/-- The window of a probe begins, with the length in force then (R90, R93, Table 5-3). R92 step 1 reads it at the search's start; the
model reads it at each window (DESIGN CHOICE, log entry 34). -/
def beginProbeWindow (d : Dev) : Dev :=
  d.setFocus { d.focus with search := d.focus.search.map fun s => { s with window := some (newWindow d) } }

/-- A probe at a candidate step (R93). -/
def probeAt (c : Nat) (d : Dev) : Dev :=
  let d := d.setFocus { d.focus with search := d.focus.search.map fun s => { s with candidate := c, window := none } }
  match moveRequest c .search d with
  | (.refused, d) => endSearch true d
  | (.atTarget, d) => beginProbeWindow d
  | (.moving, d) => d

/-- The lens has come to rest: a probe that waits for it begins its window (R93). -/
def searchLensIdle (d : Dev) : Dev :=
  match d.focus.search with
  | some s => if s.window.isNone ∧ d.focus.lens.state = .idle ∧ d.focus.lens.step = s.candidate then beginProbeWindow d else d
  | none => d

/-- A search probe's window takes a line result; a full window's score goes into the phase (R90, R93, R96). -/
def searchLine (r : LineResult) (d : Dev) : Dev :=
  match d.focus.search with
  | none => d
  | some s =>
    match s.window, lineCounts r d with
    | some w, some st =>
      let w := w.add st
      if w.full then
        let (s', next) := takeProbe s w.score
        let d := d.setFocus { d.focus with search := some s' }
        match next with
        | none => endSearch false d
        | some c => if Config.probeBudget ≤ s'.probes then endSearch false d else probeAt c d
      else d.setFocus { d.focus with search := some { s with window := some w } }
    | _, _ => d

/-- The start step of a search: the focus step of the entry at the start position when the roll is READY, else the lens step (R92). -/
def searchStartStep (d : Dev) : Nat :=
  let stored := if d.roll.state = .ready then (entryContaining d d.metering.counter).bind (·.2.focusStep) else none
  stored.getD d.focus.lens.step

/-- The pitch of a search's arm (R92). -/
def searchPitchOf (who : SearchOwner) (d : Dev) : Nat :=
  match who, d.scan.run with
  | .scan, some r => r.pitch
  | _, _ => d.focus.cfg.searchPitch

/-- A search begins at the counter's present position (R92). A creep that fails at its start ends it (DEDUCED, log entry 13). -/
def beginSearch (who : SearchOwner) (d : Dev) : Dev :=
  let s0 := searchStartStep d
  let record : SearchRecord :=
    { requester := who, start := d.metering.counter, startStep := s0, coarse := d.focus.cfg.coarseStep, phase := .coarseUp
      best := none, fine := 0, probes := 0, lastScore := none, lastProbed := none, candidate := s0, rose := false
      roundBest := s0, roundScore := 0, window := none }
  let d := d.setFocus { d.focus with search := some record }
  match d.focus.lens.state with
  | .unhomed | .fault | .homing => endSearch true d
  | _ =>
    let failing := !wouldHold d && (startFailure d (.creep .probe)).isSome
    let d := giveOrder { owner := searchGrant who, kind := .creep .probe } d
    if failing then endSearch false d
    else
      probeAt s0 (armTrigger (searchGrant who) .probe d.metering.counter (searchPitchOf who d) none 0 d)

end Sys2Proof.Machine
end

