-- ==== Sys2Proof/Machine/ScanRun.lean ====
section
/-! DEFINITION. The scan run controller's own operations (chapter 8): ends of a run, the preparation and its ways of being cut short,
BASE_REACHED and the start of the frame detector (R109, R122, R149), suspension (R152, R153), what a halt does to a run (R148, R154,
R156), and the pause of tracking (R102). -/

namespace Sys2Proof.Machine

/-! ### Ends of a run -/

/-- The run becomes ENDED (R160): no resume point, the focus controller discards the track context and the run focus step (R102), the
frame detector empties its marks (R109). The cause is the one already written. -/
def endRun (d : Dev) : Dev :=
  let d := modifyRun (fun r => { r with resume := none, boundary := none, prep := .none }) d
  let d := setRunState .ended d
  let d := d.setFocus { d.focus with track := none, runStep := none }
  d.setDetector { d.detector with marks := [], openMark := none, markLost := false }

/-- The run enters ENDING with a cause (R156, R157, R158). -/
def beginEnding (c : RunCause) (d : Dev) : Dev := setRunState .ending (setRunCause c d)

/-- The arm disarmed itself: STOP, and ENDING with a cause (R156, R157). -/
def endAtDisarm (c : RunCause) (d : Dev) : Dev :=
  if runIn d [.preparing, .running, .suspending] then beginEnding c (giveStop .scan d) else d

/-- The SCAN order ended AT_LIMIT (R157): the transport is at rest and the run is ENDED with cause LIMIT. -/
def endAtLimit (d : Dev) : Dev := endRun (setRunCause .limit (releaseGrant .scan (disarm .command false d)))

/-- ENDING is over: the grant is released and the run is ENDED (R156). -/
def finishEnding (d : Dev) : Dev := endRun (releaseGrant .scan d)

/-! ### Tracking paused -/

/-- The expected step of a track state (R101). Before a probe's move is requested there is no offset, and no score counts. -/
def expectedStep (t : TrackContext) : Option Nat :=
  match t.state with
  | .steady => some t.step
  | .probeUp => t.probeOffset.map fun k => min (t.step + k) Config.maxLensStep
  | .probeDown => t.probeOffset.map fun k => t.step - k
  | .goBack => none

/-- RETURN's bookkeeping: the reference becomes X_low, FOCUS_DRIFT is raised, the state becomes STEADY (R101, R102). -/
def finishReturn (t : TrackContext) (d : Dev) : Dev :=
  raise .capture .focusDrift
    (d.setFocus
      { d.focus with track := some { t with state := .steady, reference := t.lowScore.getD t.reference, moveDue := false } })

/-- Tracking goes to TRACK_PAUSED (R102): RETURN completes its bookkeeping, and the restore step becomes the expected step of the saved
state. A probe whose move is still due takes its offset now (DEDUCED, log entry 16). -/
def pauseTrack (d : Dev) : Dev :=
  match d.focus.track with
  | none => d
  | some t =>
    let d := if t.state = .goBack then finishReturn t d else d
    let fix := fun (t : TrackContext) =>
      let t := if t.moveDue then { t with probeOffset := some d.focus.cfg.probeOffset, moveDue := false } else t
      { t with restoreStep := (expectedStep t).getD t.step }
    d.setFocus { d.focus with track := d.focus.track.map fix }

/-! ### Suspension -/

/-- The run becomes SUSPENDED with a cause (R148, R153, R154). -/
def suspendRun (c : RunCause) (permitted : Bool) (d : Dev) : Dev :=
  setRunState .suspended
    (modifyRun (fun r => { r with cause := some c, resumePermitted := permitted, boundary := none, prep := .none }) d)

/-- The resume point kept when present, and S with the run's initial gap state otherwise (R148). -/
def resumeOrBase (r : RunRecord) : RunRecord :=
  { r with resume := some (r.resume.getD { position := r.base, state := r.initialGap }) }

/-- A RUNNING run becomes SUSPENDING with a cause (R152). -/
def beginSuspending (c : RunCause) (d : Dev) : Dev := setRunState .suspending (setRunCause c d)

/-- The suspension completes at a frame close (R153). The last boundary point becomes the resume point before the disarm's correction
moves it, which R18 says gives the same Q − Δ. -/
def completeSuspension (d : Dev) : Dev :=
  let d := modifyRun (fun r => { r with resume := r.boundary, boundary := none }) d
  let d := releaseGrant .scan (giveStop .scan (disarm .command true d))
  match d.scan.run with
  | none => d
  | some r =>
    let c := r.cause.getD .yield
    suspendRun c (c != .pause) d

/-! ### Preparation -/

/-- A preparation fails on a motion failure (R148). -/
def failPreparation (d : Dev) : Dev :=
  suspendRun .fault false (modifyRun resumeOrBase (releaseGrant .scan (disarm .command false d)))

/-- A preparation is abandoned for a yield or a pause (R148). -/
def cutPreparation (c : RunCause) (permitted : Bool) (d : Dev) : Dev :=
  let d := stopIfRunning .scan (disarm .command false (abandonSearch d))
  suspendRun c permitted (modifyRun resumeOrBase (releaseGrant .scan d))

/-- The stop position that a run gives to its arms (R147). -/
def runStopPosition (r : RunRecord) : Option Int :=
  match r.endCondition with
  | .untilPosition e => some e
  | _ => none

/-- The position at which the run's next arm begins: the resume point's, or S (R147). -/
def runBase (r : RunRecord) : Int := (r.resume.map (·.position)).getD r.base

/-- The SCAN order of a preparation (R147). -/
def giveScanOrder (d : Dev) : Dev :=
  match d.scan.run with
  | none => d
  | some r =>
    giveOrder { owner := .scan, kind := .scan (runBase r) r.speed r.pitch r.savedLine (runStopPosition r) }
      (modifyRun (fun r => { r with prep := .scanOrder }) d)

/-- A search is made in this preparation: the run has not been RUNNING, and no earlier preparation has made what the option asks for
(R147). A track context that was lost is not made again (R102). -/
def searchNeeded (r : RunRecord) (d : Dev) : Bool :=
  !r.started
    && ((r.focus == .search && d.focus.runStep.isNone) || (r.focus == .track && d.focus.track.isNone && !r.trackLost))

/-- The grant given to SCAN: the run is PREPARING and its first order is given (R147). -/
def startPreparation (d : Dev) : Dev :=
  let d := setRunState .preparing (modifyRun (fun r => { r with resumePermitted := true }) d)
  match d.scan.run with
  | none => d
  | some r =>
    if searchNeeded r d then
      giveOrder { owner := .scan, kind := .seek r.base none } (modifyRun (fun r => { r with prep := .searchSeek }) d)
    else giveScanOrder d

/-- The lens can take a move (R86). -/
def lensMovable (d : Dev) : Bool := d.focus.lens.state == .idle || d.focus.lens.state == .moving

/-- TRACK_LOST, for the rest of the run: the context is discarded and the FOCUS event raised at the Capture port (R102). -/
def loseTrack (d : Dev) : Dev :=
  raise .capture .focus
    (modifyRun (fun r => { r with trackLost := true }) (d.setFocus { d.focus with track := none, outcome := .trackLost }))

/-- The lens restored at the start of the run-up seek (R102, R103). -/
def restoreLens (d : Dev) : Dev :=
  match d.scan.run with
  | none => d
  | some r =>
    match r.focus with
    | .none => d
    | .search =>
      match r.resume, d.focus.runStep with
      | some _, some st => (moveRequest st .search d).2
      | _, _ => d
    | .track =>
      match r.resume, d.focus.track with
      | some _, some t => if lensMovable d then (moveRequest t.restoreStep .track d).2 else loseTrack d
      | _, _ => d
    | .recallSteps =>
      match (firstEndingBeyond d (runBase r)).bind (·.focusStep) with
      | some st => (moveRequest st .recallScan (d.setFocus { d.focus with runStep := some st })).2
      | none => d

/-! ### BASE_REACHED and the start of the detector -/

/-- The roll's base address (R1). -/
def baseAddress (d : Dev) : Address :=
  match d.roll.record with
  | some r => r.base
  | none => { batch := 0, doc := 0, page := 0 }

/-- The address counters at the first start of a run (R122). -/
def initialCounters (r : RunRecord) (d : Dev) : Address :=
  match lastEntry d with
  | none => baseAddress d
  | some last =>
    match r.startMode with
    | .continue_ => last.address
    | .atFrame 0 => baseAddress d
    | .atFrame (n + 1) => ((entryAt d n).map (·.address)).getD (baseAddress d)
    | .atPosition => ((lastStartingBelow d r.base).map (·.address)).getD (baseAddress d)

/-- The detector started in activity RUN (R109, Table 6-1). A resume keeps the marks and counters; a kept open mark is discarded when
BLIP_IN is at its inactive level (R117). -/
def startDetector (st : ResumeState) (r : RunRecord) (d : Dev) : Dev :=
  let det : Detector := { d.detector with
    activity := .run
    gapState := if st = .unknown then .unknown else .inGap
    previous := if st = .unknown then .imageLike else .gapLike
    openNext := st == ResumeState.frameStart
    gapRun := none
    openFrame := none }
  let blipActive := d.inputs.blipIn == (det.cfg.blipActive == .high)
  d.setDetector
    (if r.started then { det with openMark := if blipActive then det.openMark else none }
     else { det with
       counters := initialCounters r d, marks := [], openMark := none, markLost := false, firstClose := false, sinceClose := 0 })

/-- The detector once BASE_REACHED has started it: when the same count has already ended the arm (R71), the activity returns to IDLE
with the marks treated as at any disarm (R109, R116). -/
def detectorUnderArm (d : Dev) : Dev := if d.trigger.arm.isNone then detectorIdle (truncateOpen d) else d

/-- BASE_REACHED while the run is PREPARING (R149). -/
def runReachesBase (d : Dev) : Dev :=
  match d.scan.run with
  | none => d
  | some r =>
    if r.state = .preparing then
      let st := (r.resume.map (·.state)).getD r.initialGap
      let d := detectorUnderArm (startDetector st r (setRunState .running d))
      modifyRun (fun r => { r with started := true, prep := .none }) d
    else d

/-! ### Reports of the run's motion -/

/-- The end of an order owned by SCAN. An order that failed with HALTED was already taken with the halt (R148, R154). -/
def scanReport (o : OrderOutcome) (d : Dev) : Dev :=
  match d.scan.run with
  | none => d
  | some r =>
    match r.state, r.prep, o with
    | .preparing, _, .failed .halted => d
    | .preparing, .searchSeek, .arrived => beginSearch .scan (modifyRun (fun r => { r with prep := .searching }) d)
    | .preparing, .searchSeek, .failed _ => failPreparation d
    | .preparing, .searching, .atLimit => endSearch false d
    | .preparing, .searching, .failed _ => endSearch false d
    | .preparing, .scanOrder, .atLimit => endAtLimit d
    | .preparing, .scanOrder, .failed _ => failPreparation d
    | .running, _, .atLimit => endAtLimit d
    | .suspending, _, .atLimit => endAtLimit d
    | _, _, _ => d

/-- A search with requester SCAN has handed back its outcome: the preparation goes on to its SCAN order (R147). -/
def searchHandedBack (d : Dev) : Dev :=
  match d.scan.run with
  | none => d
  | some r => if r.state = .preparing ∧ r.prep = .searching then giveScanOrder d else d

/-! ### A halt -/

/-- At a halt while RUNNING or SUSPENDING the last boundary point, when present, becomes the resume point (R154). This is done before the
disarm, whose correction moves it (R18). -/
def haltRecordsBoundary (d : Dev) : Dev :=
  if runIn d [.running, .suspending] then
    modifyRun (fun r => { r with resume := r.boundary.or r.resume, boundary := none }) d
  else d

/-- After a halt while RUNNING or SUSPENDING with neither point present, the resume point is S with the state UNKNOWN (R154). -/
def resumeAfterHalt (r : RunRecord) : RunRecord :=
  { r with resume := some (r.resume.getD { position := r.base, state := .unknown }) }

/-- What a halt does to the run once the arm is disarmed and the grant is NONE (R148, R154, R156). -/
def scanOnHalt (d : Dev) : Dev :=
  match d.scan.run with
  | none => d
  | some r =>
    match r.state with
    | .preparing => suspendRun .fault false (modifyRun resumeOrBase d)
    | .running => pauseTrack (suspendRun .fault false (modifyRun resumeAfterHalt d))
    | .suspending => pauseTrack (suspendRun .fault false (modifyRun resumeAfterHalt d))
    | .ending => endRun d
    | _ => d

/-! ### Runout -/

/-- Runout ends a run that is PREPARING, RUNNING or SUSPENDING (R4, R157); the transport is already stopping. -/
def endAtRunout (d : Dev) : Dev := beginEnding .rollEnd (abandonSearch (disarm .command false d))

end Sys2Proof.Machine
end

