-- ==== Sys2Proof/Machine/Serve.lean ====
section
/-! DEFINITION. The retrieval scheduler's own operations (chapter 9): the keep decision (R29), selection (R169), attempts (R170 to R172),
completion and the hold (R173, R174), failures (R176), hints (R179), what a halt does (R174, R176, R177, R179), and the reports of its
motion orders. -/

namespace Sys2Proof.Machine

/-! ### Recall (R104) -/

/-- A recall for a target entry, if there is one: the report and the lens move (R104). -/
def requestRecall (target : Option Nat) (d : Dev) : RecallReport × Dev :=
  match target.bind (nearestStep d) with
  | none => (.notStored, d)
  | some st => if lensMovable d then (.recalled, (moveRequest st .retrieval d).2) else (.neither, d)

/-- The target entry of a request's recall (R104). -/
def recallTarget (d : Dev) (r : RetrievalRequest) : Option Nat :=
  match r.target with
  | .position x => (entryContaining d x).map (·.1)
  | _ => r.frame

/-! ### Selection (R169) -/

/-- The limit, the class and the elevator apply to the eligible requests of the class chosen. -/
def consideredClass (d : Dev) : RequestClass := if anyUrgent d then .urgent else .normal

/-- The requests considered at a selection. -/
def considered (d : Dev) : List RetrievalRequest :=
  d.retrieval.queue.filter fun r => eligible d r && r.class_ == consideredClass d

/-- Where a request lies. A WAITING request always has a resolved position (R166). -/
def whereLies (d : Dev) (r : RetrievalRequest) : Int := r.position.getD d.metering.counter

/-- A request lies ahead in a direction (R169). -/
def liesAhead (d : Dev) (dir : Direction) (r : RetrievalRequest) : Bool :=
  match dir with
  | .forward => decide (d.metering.counter ≤ whereLies d r)
  | .reverse => decide (whereLies d r ≤ d.metering.counter)

/-- The nearest request to the counter, the earliest by arrival among equals. -/
def nearestRequest (d : Dev) : List RetrievalRequest → Option RetrievalRequest
  | [] => none
  | r :: rest =>
    match nearestRequest d rest with
    | none => some r
    | some s =>
      if (whereLies d r - d.metering.counter).natAbs ≤ (whereLies d s - d.metering.counter).natAbs then some r else some s

/-- The other direction. -/
def Direction.opposite : Direction → Direction
  | .forward => .reverse
  | .reverse => .forward

/-- The request that a selection chooses, if any is eligible (R169). -/
def chooseRequest (d : Dev) : Option RetrievalRequest :=
  let rs := considered d
  match rs.find? fun r => decide (d.retrieval.cfg.bypassLimit ≤ r.bypass) with
  | some r => some r
  | none =>
    let dir := d.transport.lastDirection
    match nearestRequest d (rs.filter (liesAhead d dir)) with
    | some r => some r
    | none => nearestRequest d (rs.filter (liesAhead d dir.opposite))

/-- The chosen request is ACTIVE, and every other considered request has its bypass count raised, 15 staying 15 (R169, R170). -/
def markChosen (chosen : RetrievalRequest) (d : Dev) : Dev :=
  let passed := (considered d).map (·.ticket)
  modifyRequests
    (fun r =>
      if r.ticket = chosen.ticket then { r with state := .active }
      else if passed.contains r.ticket then { r with bypass := min 15 (r.bypass + 1) }
      else r) d

/-! ### Attempts -/

/-- The attempt record replaced. -/
def setAttempt (a : Option Attempt) (d : Dev) : Dev := d.setRetrieval { d.retrieval with attempt := a }

/-- The attempt record rewritten. -/
def modifyAttempt (f : Attempt → Attempt) (d : Dev) : Dev := setAttempt (d.retrieval.attempt.map f) d

/-- A seek for RETRIEVAL. -/
def retrievalSeek (x : Int) (d : Dev) : Dev := giveOrder { owner := .retrieval, kind := .seek x none } d

/-- The entry of an attempt with CONFIRM_EDGE (R171). -/
def attemptEntry (d : Dev) (r : RetrievalRequest) : Option (Nat × IndexEntry) :=
  r.frame.bind fun n => (entryAt d n).map fun e => (n, e)

/-- The selected request's attempt begins (R170, R171). -/
def startAttempt (r : RetrievalRequest) (d : Dev) : Dev :=
  let det := d.detector.cfg
  let roll := d.roll.cfg
  let attempt (phase : AttemptPhase) : Attempt :=
    { subject := .ticket r.ticket, phase := phase, recallReport := .neither, edge := none, correction := 0
      gap := det.minGap, correctionWindow := roll.correctionWindow, matchWindow := roll.matchWindow }
  let d := markChosen r d
  let d :=
    match r.confirmEdge, attemptEntry d r with
    | true, some (_, e) =>
      retrievalSeek (e.start - (2 * det.minGap + roll.correctionWindow : Nat)) (setAttempt (some (attempt .approach)) d)
    | _, _ => retrievalSeek (whereLies d r) (setAttempt (some (attempt .present)) d)
  if r.recallFocus then
    let (rep, d) := requestRecall (recallTarget d r) d
    modifyRequest r.ticket (fun r => { r with holdsLens := true }) (modifyAttempt (fun a => { a with recallReport := rep }) d)
  else d

/-- Selection: an attempt for the chosen request, or the grant released when no request is eligible (R169). -/
def selectNext (d : Dev) : Dev :=
  match chooseRequest d with
  | some r => startAttempt r d
  | none => releaseGrant .retrieval d

/-- The keep decision (R29), made only while RETRIEVAL holds the grant. -/
def keepDecision (d : Dev) : Dev :=
  if d.transport.grant ≠ .retrieval then d
  else if anyUrgent d || (anyEligible d && !scanClaim d) then selectNext d
  else releaseGrant .retrieval d

/-! ### Completion of the active request and the hold -/

/-- The request that is ACTIVE with its attempt. -/
def activeRequest (d : Dev) : Option (Attempt × RetrievalRequest) :=
  match d.retrieval.attempt with
  | none => none
  | some a =>
    match a.subject with
    | .hint _ => none
    | .ticket t => (requestOf d t).map fun r => (a, r)

/-- The flags that a completion of an ACTIVE request carries (Table 9-2). -/
def gatheredFlags (a : Attempt) (r : RetrievalRequest) : CompletionFlags :=
  { edge := a.edge, recallReport := a.recallReport, retried := r.retried }

/-- The ACTIVE request completes and the attempt record becomes absent (R170, R176, R177). -/
def completeActive (result : CompletionResult) (d : Dev) : Dev :=
  match activeRequest d with
  | none => setAttempt none d
  | some (a, r) => setAttempt none (completeRequest r result (gatheredFlags a r) a.correction d)

/-- A hold ends by timeout, RELEASE_HOLD or preemption (R174). -/
def endHold (d : Dev) : Dev := keepDecision (d.setRetrieval { d.retrieval with hold := none })

/-- A hold begins after a DONE completion; a hold time of 0 ends it in that moment (R174). -/
def startHold (c : RequestClass) (d : Dev) : Dev :=
  if d.retrieval.cfg.holdTime = 0 then keepDecision d
  else d.setRetrieval { d.retrieval with hold := some { class_ := c, timer := 0, time := d.retrieval.cfg.holdTime } }

/-- The ACTIVE request completes DONE and its hold begins (R170). -/
def completeDone (d : Dev) : Dev :=
  match activeRequest d with
  | none => d
  | some (_, r) => startHold r.class_ (completeActive .done d)

/-! ### Failures -/

/-- A confirmation's arm is disarmed. -/
def disarmConfirm (d : Dev) : Dev :=
  match d.trigger.arm with
  | some a => if a.owner = .retrieval then disarm .command false d else d
  | none => d

/-- An attempt fails (R176): back to WAITING once, MOTION_FAILED after that. -/
def failAttempt (d : Dev) : Dev :=
  let d := disarmConfirm d
  match activeRequest d with
  | none => d
  | some (_, r) =>
    let d :=
      if r.retried then completeActive .motionFailed d
      else setAttempt none (modifyRequest r.ticket (fun r => { r with state := .waiting, retried := true }) d)
    keepDecision d

/-- A CANCELLED completion at the end of the STOP (R177). -/
def finishCancel (d : Dev) : Dev := keepDecision (completeActive .cancelled d)

/-! ### Presentation and edge confirmation -/

/-- The phase becomes PRESENT with a seek to the resolved position (R171, R172). -/
def presentActive (d : Dev) : Dev :=
  match activeRequest d with
  | none => d
  | some (_, r) => retrievalSeek (whereLies d r) (modifyAttempt (fun a => { a with phase := .present }) d)

/-- The PRESENT seek has arrived (R170). -/
def presentArrived (d : Dev) : Dev :=
  if d.focus.lens.state = .moving then modifyAttempt (fun a => { a with phase := .lensWait }) d else completeDone d

/-- The approach seek has arrived: CONFIRM (R171, R123). -/
def beginConfirm (d : Dev) : Dev :=
  let d := modifyAttempt (fun a => { a with phase := .confirm }) d
  let d := armTrigger .retrieval .probe d.metering.counter d.retrieval.cfg.confirmPitch none 0 d
  let d := d.setDetector
    { d.detector with
      activity := .confirm, gapState := .unknown, previous := .imageLike, openNext := false, gapRun := none, openFrame := none }
  giveOrder { owner := .retrieval, kind := .creep .confirm } d

/-- The attempt gives up its confirmation (R171). -/
def giveUpConfirm (d : Dev) : Dev :=
  presentActive (modifyAttempt (fun a => { a with edge := some .unconfirmed }) (disarmConfirm d))

/-- The measured start of a confirmation (R172). -/
def takeMeasuredStart (m : Int) (d : Dev) : Dev :=
  match activeRequest d with
  | none => d
  | some (a, r) =>
    if a.phase ≠ .confirm then d
    else
      match attemptEntry d r with
      | none => d
      | some (n, e) =>
        let d := disarmConfirm d
        let delta := m - e.start
        let d :=
          if delta.natAbs ≤ a.matchWindow then
            let (correcting, d) := driftReport n delta d
            modifyAttempt
              (fun a =>
                if correcting then { a with edge := some .confirmed, correction := delta }
                else { a with edge := some .mismatch }) d
          else modifyAttempt (fun a => { a with edge := some .unconfirmed }) d
        presentActive d

/-- A line taken in CONFIRM without an opening: beyond e.start + W_m the attempt gives up (R171). -/
def takeConfirmLine (x : Int) (d : Dev) : Dev :=
  match activeRequest d with
  | none => d
  | some (a, r) =>
    if a.phase ≠ .confirm then d
    else
      match attemptEntry d r with
      | none => d
      | some (_, e) => if e.start + a.matchWindow < x then giveUpConfirm d else d

/-! ### Hints (R179) -/

/-- A hint leaves off, served, dropped or abandoned: the keep decision follows. -/
def endHint (d : Dev) : Dev := keepDecision (setAttempt none d)

/-- The grant was given for the hint claim. -/
def serveHint (d : Dev) : Dev :=
  match indexedHint d with
  | none => releaseGrant .retrieval d
  | some n =>
    let a : Attempt :=
      { subject := .hint n, phase := .hintSeek, recallReport := .neither, edge := none, correction := 0, gap := 0
        correctionWindow := 0, matchWindow := 0 }
    let d := d.setRetrieval { d.retrieval with hints := d.retrieval.hints.tail, attempt := some a }
    let d := retrievalSeek (((entryAt d n).map (·.middle)).getD d.metering.counter) d
    (requestRecall (some n) d).2

/-- A hint seek is in progress. -/
def hintSeeking (d : Dev) : Bool :=
  match d.retrieval.attempt with
  | some a => a.phase == .hintSeek
  | none => false

/-- A hint seek is abandoned: STOP, and the keep decision when it is reported. -/
def abandonHint (d : Dev) : Dev := giveStop .retrieval (modifyAttempt (fun a => { a with phase := .hintStop }) d)

/-! ### Reports and halts -/

/-- The end of an order owned by RETRIEVAL; `begun` tells a creep that failed at its start from one ended by runout (R171, R176;
DEDUCED, log entry 19). An order that failed with HALTED was already taken with the halt. -/
def retrievalReport (o : OrderOutcome) (begun : Bool) (d : Dev) : Dev :=
  match d.retrieval.attempt with
  | none => d
  | some a =>
    match a.phase, o with
    | _, .failed .halted => d
    | .hintSeek, .arrived => endHint d
    | .hintSeek, .failed _ => endHint d
    | .hintStop, _ => endHint d
    | .approach, .arrived => beginConfirm d
    | .approach, .failed _ => failAttempt d
    | .confirm, .atLimit => giveUpConfirm d
    | .confirm, .failed .limit => if begun then failAttempt d else giveUpConfirm d
    | .confirm, .failed _ => failAttempt d
    | .present, .arrived => presentArrived d
    | .present, .failed _ => failAttempt d
    | .cancelling, .stopped => finishCancel d
    | _, _ => d

/-- What a halt does to the scheduler once the arm is disarmed and the grant is NONE. -/
def retrievalOnHalt (d : Dev) : Dev :=
  let d := d.setRetrieval { d.retrieval with hold := none }
  match d.retrieval.attempt with
  | none => d
  | some a =>
    match a.phase with
    | .hintSeek | .hintStop => setAttempt none d
    | .cancelling => completeActive .cancelled d
    | _ => failAttempt d

end Sys2Proof.Machine
end

