-- ==== Sys2Proof/Machine/Halt.lean ====
section
/-! DEFINITION. Entry to HALTED as one shared operation (R41), runout (R4), and the chain of reactions that ends every step: reports taken
by their owners, releases, yields, holds, hints, and the grant (R26, R27, R146, R152, R168, R174, R179; DESIGN CHOICE, log entry 7). -/

namespace Sys2Proof.Machine

/-! ### Halt -/

/-- A report of failure with HALTED for an order. -/
def reportHalted (o : Option Order) (d : Dev) : Dev :=
  match o with
  | some o => report (.orderEnded o.owner (.failed .halted) true) d
  | none => d

/-- The transport's own part of a halt (R41): demand, enable, tension, cause, orders, grant, park timer, and the drive frame of the
millisecond (R23). -/
def transportHalted (cause : HaltCause) (t : Transport) : Transport :=
  { t with
    motion := .halted, haltCause := some cause, tension := .release, driveEnable := false, demand := 0
    grant := .nobody, releasePending := false, current := none, held := none, stopReason := none, parkTimer := 0
    tensionedAt := none, frame := some { demand := 0, tension := .release, enable := false } }

/-- A homing goes on through a halt, without the grant (R87). -/
def homingLosesGrant (d : Dev) : Dev :=
  setLens { d.focus.lens with homing := d.focus.lens.homing.map fun h => { h with holdsGrant := false } } d

/-- The transport enters HALTED (R41). In HALTED the first cause stays and nothing happens. -/
def halt (cause : HaltCause) (d : Dev) : Dev :=
  if d.transport.motion = .halted then d
  else
    let current := d.transport.current.map (·.order)
    let held := d.transport.held
    let d := reportHalted held (reportHalted current (d.setTransport (transportHalted cause d.transport)))
    let d := endSearch false (disarm .halted false (haltRecordsBoundary d))
    retrievalOnHalt (scanOnHalt (raiseAll .fault (homingLosesGrant d)))

/-! ### Runout (R4) -/

/-- Runout stops the transport (R4, steps 3 and 4): the order in progress fails with LIMIT, unless it is a STOP that awaits its report or
the run's own order, whose run ends with ROLL_END. A transport that is STOPPING keeps its stop reason and its held order, the SCAN order
of a run in preparation too, which then starts while that run is ENDING (DESIGN CHOICE, log entry 37). -/
def stopForRunout (d : Dev) : Dev :=
  let scanEnds := runIn d [.preparing, .running, .suspending]
  let d :=
    match d.transport.current with
    | some c =>
      if c.order.kind = .stop ∨ (scanEnds ∧ c.order.owner = .scan) then d
      else report (.orderEnded c.order.owner (.failed .limit) true) d
    | none => d
  let d :=
    if movingState d.transport.motion then enterStopping .runout none d
    else
      match d.transport.current with
      | some c => if c.order.kind = .stop then d else d.setTransport { d.transport with current := none }
      | none => d
  if scanEnds then endAtRunout d else d

/-- Runout (R4). The index close of step 5 fails the DEFERRED requests before the scheduler takes the failed order of step 4 (DESIGN
CHOICE, log entry 43). -/
def runout (d : Dev) : Dev :=
  let d := d.setRoll { d.roll with tail := some d.metering.counter }
  let d := stopForRunout (setRollState .runout d)
  if d.index.state = .open_ ∨ d.index.state = .imported then closeIndex .rollEnd d else d

/-! ### Reports -/

/-- The end of an order owned by SERVICE (R28): its outcome, the events, the end of a search, the release of the grant. -/
def serviceReport (o : OrderOutcome) (d : Dev) : Dev :=
  let d := raise .service .motionEnd (d.setTransport { d.transport with serviceOutcome := some o })
  let d := match o with
    | .failed _ => raise .service .fault d
    | _ => d
  let searching : Bool := match d.focus.search with
    | some s => s.requester == SearchOwner.service
    | none => false
  let homing : Bool := match d.focus.lens.homing with
    | some h => h.holdsGrant
    | none => false
  if searching then endSearch false d else if homing then d else releaseGrant .service d

/-- What an operation does on being told that its arm was disarmed (R72): the run ends at its stop position and at the line limit (R71,
R156, R157); the operations that gave a command, and those that a halt or a lost grant ends, have already done their part. -/
def takeDisarm (owner : Owner) (why : DisarmCause) (d : Dev) : Dev :=
  match owner, why with
  | .scan, .stopPosition => endAtDisarm .complete d
  | .scan, .lineLimit => endAtDisarm .limit d
  | _, _ => d

/-- A report taken by the block it is for. A block that is told only how its arm began, or that it was not made, does nothing more
(R69), and POSITIONED changes nothing in the run (section 8.5). -/
def takeReport (r : Report) (d : Dev) : Dev :=
  match r with
  | .orderEnded .scan o _ => scanReport o d
  | .orderEnded .retrieval o begun => retrievalReport o begun d
  | .orderEnded .service o _ => serviceReport o d
  | .orderEnded .nobody _ _ => d
  | .positioningBegan => if runIn d [.preparing] then restoreLens d else d
  | .positioned _ => d
  | .baseReached => runReachesBase d
  | .armNotOwner _ => d
  | .armBegan _ _ => d
  | .disarmed owner why => takeDisarm owner why d
  | .searchEnded => searchHandedBack d
  | .searchSuperseded => abandonSearch d
  | .measuredStart m => takeMeasuredStart m d
  | .confirmLine x => takeConfirmLine x d

/-! ### The chain of reactions -/

/-- A run's reaction to its conditions: the end of ENDING (R156) and the yield (R148, R152). -/
def runReaction (d : Dev) : Option Dev :=
  match d.scan.run with
  | none => none
  | some r =>
    match r.state with
    | .ending => if atRest d then some (finishEnding d) else none
    | .preparing => if yieldDemand d then some (cutPreparation .yield true d) else none
    | .running => if yieldDemand d then some (beginSuspending .yield d) else none
    | _ => none

/-- The scheduler's reaction: a NORMAL hold preempted (R174), an attempt that waits for the lens (R170), a hint seek abandoned (R179),
the newest hint examined and dropped (R179). -/
def retrievalReaction (d : Dev) : Option Dev :=
  let preempted : Bool := match d.retrieval.hold with
    | some h => h.class_ == RequestClass.normal && anyUrgent d
    | none => false
  let lensWait : Bool := match d.retrieval.attempt with
    | some a => a.phase == AttemptPhase.lensWait
    | none => false
  if preempted then some (endHold d)
  else if lensWait && d.focus.lens.state != LensState.moving then some (completeDone d)
  else if hintSeeking d && (anyEligible d || scanClaim d) then some (abandonHint d)
  else if hintConditions d && (indexedHint d).isNone then
    some (d.setRetrieval { d.retrieval with hints := d.retrieval.hints.tail })
  else none

/-- The grant can be given: it is NONE at IDLE, PARKED or RETENSIONING (R27). -/
def grantFree (d : Dev) : Bool :=
  d.transport.grant == .nobody
    && (d.transport.motion == .idle || d.transport.motion == .parked || d.transport.motion == .retensioning)

/-- The grant given to the first claim present, with its owner's first order (R27, R147, R169, R179). -/
def grantReaction (d : Dev) : Option Dev :=
  if !grantFree d then none
  else if anyUrgent d then some (selectNext (giveGrant .retrieval d))
  else if scanClaim d then some (startPreparation (giveGrant .scan d))
  else if retrievalClaim d then some (selectNext (giveGrant .retrieval d))
  else if hintClaim d then some (serveHint (giveGrant .retrieval d))
  else none

/-- One reaction, the first that has its condition in a fixed order (DESIGN CHOICE, log entry 7); `none` when nothing is left to do. -/
def reaction (d : Dev) : Option Dev :=
  match d.inbox with
  | r :: rest => some (takeReport r (d.setInbox rest))
  | [] =>
    if d.transport.releasePending && atRest d then some (dropGrant d)
    else
      match runReaction d with
      | some d' => some d'
      | none =>
        match retrievalReaction d with
        | some d' => some d'
        | none => grantReaction d

/-- Reactions one after another, up to a bound. -/
def settleFor : Nat → Dev → Dev
  | 0, d => d
  | n + 1, d =>
    match reaction d with
    | some d' => settleFor n d'
    | none => d

/-- The three conditions of the park timer (R40). -/
def parkConditions (d : Dev) : Bool :=
  d.transport.motion == .idle && d.transport.grant == .nobody && d.roll.state != .noRoll

/-- The park timer returns to 0 when its conditions cease to hold (R40). -/
def stopParkTimer (d : Dev) : Dev :=
  if parkConditions d then d else d.setTransport { d.transport with parkTimer := 0 }

/-- Everything that an event brings about in the same step. -/
def settle (d : Dev) : Dev := stopParkTimer (settleFor Config.cascadeBound d)

end Sys2Proof.Machine
end

