-- ==== Sys2Proof/Machine/GuardUnit.lean ====
section
/-! DEFINITION. The guard unit (chapter 3): the guard stop condition and the suspect source, the start of a slot and its waits, the sensor
bus and its transactions, samples and trips, faults, due times, and the disable of a slot. -/

namespace Sys2Proof.Machine

/-! ### The two outputs (R60, R61) -/

/-- A slot counts as tripped: TRIPPED or FAULTED. -/
def countsTripped (s : GuardSlot) : Bool := s.trip == .tripped || s.state == .faulted

/-- The guard stop condition of the slots and the combine mode (R60). -/
def stopConditionOf (g : Guard) : Bool :=
  let stops := g.slots.filter fun s => s.record.action == SlotAction.stop
  let alone := stops.filter fun s => !s.record.vote
  let voting := stops.filter fun s => s.record.vote
  let enabledVoting := voting.filter fun s => s.state != SlotState.off
  alone.any countsTripped
    || (match g.combineMode with
        | .any => voting.any countsTripped
        | .all => !enabledVoting.isEmpty && enabledVoting.all countsTripped)

/-- The suspect source (R61). -/
def suspectSource (g : Guard) : Bool :=
  g.slots.any fun s => (s.record.action == .stop || s.record.action == .mark) && countsTripped s

/-- What the transport does when the guard stop condition becomes true (R43). -/
def guardStopBegins (d : Dev) : Dev :=
  match d.transport.motion with
  | .jog | .seek | .creep | .scan => enterStopping .guardStop d.transport.current d
  | .stopping => d.setTransport { d.transport with stopReason := some .guardStop }
  | .idle | .parked | .retensioning => halt .guardStop d
  | .halted => d

/-- The condition and the source recomputed; a change of the condition goes to the transport (R60, R61). -/
def recomputeGuard (d : Dev) : Dev :=
  let now := stopConditionOf d.guard
  let before := d.guard.stopCondition
  let d := d.setGuard
    { d.guard with stopCondition := now, suspectLatch := d.guard.suspectLatch || suspectSource d.guard }
  if now && !before then guardStopBegins d else d

/-- A frame opens: the suspect latch is cleared, and set again at once while the source is true (R61, R112). -/
def openClearsSuspect (d : Dev) : Dev := d.setGuard { d.guard with suspectLatch := suspectSource d.guard }

/-- SENS_EN of a slot (Table 3-2). -/
def sensorEnable (s : GuardSlot) : Bool :=
  match s.state with
  | .off => false
  | .faulted => false
  | .init => true
  | .settle => true
  | .polling => s.record.powerMode == .always || s.pollInProgress

/-! ### The sensor bus (R55, R56) -/

/-- One slot rewritten. -/
def modifySlot (n : Fin 4) (f : GuardSlot → GuardSlot) (d : Dev) : Dev := d.setGuard (d.guard.put n (f (d.guard.get n)))

/-- The address byte with its direction: the 7-bit address above the direction bit, write 0 and read 1 (R56; PRESUMED, log entry 29). -/
def addressByte (address : Nat) (read : Bool) : Byte := BitVec.ofNat 8 (2 * address + read.toNat)

/-- The data phase of a sample read: each data byte is acknowledged but the last (R56). -/
def dataPhase (t : DataType) : List BusSymbol :=
  match t with
  | .u8 => [.read false]
  | .u16 => [.read true, .read false]
  | .s16 => [.read true, .read false]

/-- The form of an attempt, from START to STOP: a script pair write or a sample read (R52, R56). -/
def attemptForm (g : Guard) (n : Fin 4) (use : BusUse) : List BusSymbol :=
  let r := (g.get n).record
  match use with
  | .pair i =>
    .start :: .send (addressByte r.busAddress false) :: (Memory.load g.script (r.scriptStart + 2 * i) 2).map .send ++ [.stop]
  | .sample =>
    [.start, .send (addressByte r.busAddress false), .send (BitVec.ofNat 8 r.valueRegister), .repeatedStart
      , .send (addressByte r.busAddress true)] ++ dataPhase r.dataType ++ [.stop]

/-- The bytes that the controller sends in a form. -/
def formSends : List BusSymbol → List Byte
  | [] => []
  | .send b :: rest => b :: formSends rest
  | _ :: rest => formSends rest

/-- How many data bytes the controller reads in a form. -/
def formReads : List BusSymbol → Nat
  | [] => 0
  | .read _ :: rest => formReads rest + 1
  | _ :: rest => formReads rest

/-- The bytes that the controller sends in the attempt on the bus. -/
def BusTransaction.sends (t : BusTransaction) : List Byte := formSends t.form

/-- An attempt begins from START, at the bus speed in force (R56, R65). -/
def beginAttempt (n : Fin 4) (use : BusUse) (d : Dev) : Dev :=
  d.setGuard
    { d.guard with
      bus := some
        { slot := n, use := use, form := attemptForm d.guard n use, speed := d.guard.busSpeed, begun := d.time
          discarded := false } }

/-- A transaction begins with its first attempt (R55). -/
def beginTransaction (n : Fin 4) (use : BusUse) (d : Dev) : Dev :=
  beginAttempt n use (modifySlot n (fun s => { s with attempts := 0, wants := none }) d)

/-- A slot requests the bus (R55). DESIGN CHOICE (log entry 47): requests that fall due in one millisecond arrive in the order in which
their commands are sent, so the first is served at once on an idle bus, whatever its slot number. -/
def requestBus (n : Fin 4) (use : BusUse) (d : Dev) : Dev :=
  if d.guard.bus.isNone ∧ d.guard.slots.all (fun s => s.wants.isNone) then beginTransaction n use d
  else modifySlot n (fun s => { s with wants := some use }) d

/-- The waiting slot with the lowest number. -/
def lowestWaiting (g : Guard) : Option (Fin 4 × BusUse) :=
  [(0 : Fin 4), 1, 2, 3].findSome? fun n => (g.get n).wants.map fun u => (n, u)

/-- A transaction is over: the bus is IDLE and passes to the waiting slot with the lowest number (R55). -/
def passBus (d : Dev) : Dev :=
  let d := d.setGuard { d.guard with bus := none }
  match lowestWaiting d.guard with
  | some (n, u) => beginTransaction n u d
  | none => d

/-! ### The states of a slot -/

/-- INIT is entered: SENS_EN asserted and the pre-init wait begun (R52). -/
def enterInit (n : Fin 4) (d : Dev) : Dev :=
  modifySlot n (fun s => { s with state := .init, waitEnd := some (d.time + s.record.preInitWait) }) d

/-- A slot's fields at its start (R51); a PERIODIC slot's first due time is the start, and the next one period later (R54). DESIGN
CHOICE (log entry 46): an ALWAYS slot's next due time is absent until the end of its first SETTLE (`enterPolling`). -/
def startedSlot (now : Nat) (s : GuardSlot) : GuardSlot :=
  { s with
    trip := .clear, runCount := 0, lastSample := none, attempts := 0, origin := now, pollInProgress := true, wants := none
    nextDue := if s.record.powerMode = .periodic then some (now + s.record.period) else none }

/-- A slot is started (R51), without the recomputation that a start from FAULTED brings. -/
def startSlot (n : Fin 4) (d : Dev) : Dev := enterInit n (modifySlot n (startedSlot d.time) d)

/-- The post-init wait has passed: POLLING, and the sample read is requested; an ALWAYS slot's first due time is this moment, and its
next due time one period later (R53, R54). -/
def enterPolling (n : Fin 4) (d : Dev) : Dev :=
  requestBus n .sample
    (modifySlot n
      (fun s =>
        { s with
          state := .polling, waitEnd := none
          nextDue := if s.record.powerMode = .always then some (d.time + s.record.period) else s.nextDue }) d)

/-- SETTLE is entered; a post-init wait of 0 ends in the moment it begins (R53). -/
def enterSettle (n : Fin 4) (d : Dev) : Dev :=
  let w := (d.guard.get n).record.postInitWait
  if w = 0 then enterPolling n d
  else modifySlot n (fun s => { s with state := .settle, waitEnd := some (d.time + w) }) d

/-- The pre-init wait has passed: the first pair, or SETTLE when there is none (R52). -/
def preInitOver (n : Fin 4) (d : Dev) : Dev :=
  let d := modifySlot n (fun s => { s with waitEnd := none }) d
  if (d.guard.get n).record.pairCount = 0 then enterSettle n d else requestBus n (.pair 0) d

/-- A due time (R54): a poll begins, or an overrun. -/
def dueTime (n : Fin 4) (due : Nat) (d : Dev) : Dev :=
  let s := d.guard.get n
  let d := modifySlot n (fun s => { s with nextDue := some (due + s.record.period) }) d
  if s.pollInProgress then d
  else
    let d := modifySlot n (fun s => { s with pollInProgress := true }) d
    match s.record.powerMode with
    | .periodic => enterInit n d
    | .always => requestBus n .sample d

/-! ### Samples (R58, R59) -/

/-- The value of a sample from its bytes (R58). -/
def sampleValue (t : DataType) (swap : Bool) (b0 b1 : Byte) : Int :=
  let word := if swap then 256 * b0.toNat + b1.toNat else b0.toNat + 256 * b1.toNat
  match t with
  | .u8 => b0.toNat
  | .u16 => word
  | .s16 => if 32768 ≤ word then (word : Int) - 65536 else word

/-- A 16-bit threshold pattern read in a data type (R49). -/
def thresholdValue (t : DataType) (pattern : Nat) : Int :=
  match t with
  | .s16 => if 32768 ≤ pattern then (pattern : Int) - 65536 else pattern
  | _ => pattern

/-- A sample is trip-like (R59). -/
def tripLike (r : SlotRecord) (v : Int) : Bool :=
  let low := thresholdValue r.dataType r.underPattern
  let high := thresholdValue r.dataType r.overPattern
  match r.area with
  | .outside => decide (high ≤ v ∨ v ≤ low)
  | .inside => decide (low < v ∧ v < high)

/-- The trip status with its run count after a sample (R59). -/
def debounce (s : GuardSlot) (trip : Bool) : TripStatus × Nat :=
  let disagrees := trip == (s.trip == .clear)
  let count := if disagrees then s.runCount + 1 else 0
  if s.record.debounce ≤ count then (if s.trip = .clear then .tripped else .clear, 0) else (s.trip, count)

/-- A sample taken by its slot (R58, R59). -/
def takeSample (n : Fin 4) (v : Int) (d : Dev) : Dev :=
  let s := d.guard.get n
  let (trip, count) := debounce s (tripLike s.record v)
  let d := modifySlot n (fun s => { s with lastSample := some v, trip := trip, runCount := count }) d
  if trip = s.trip then d else recomputeGuard (raise .service .guardEvent d)

/-! ### The ends of an attempt -/

/-- The slot goes to FAULTED (R57). DESIGN CHOICE (log entry 48): with no transaction in flight its attempt count is 0. -/
def faultSlot (n : Fin 4) (d : Dev) : Dev :=
  let d := modifySlot n
    (fun s =>
      { s with
        state := .faulted, nextDue := none, trip := .clear, runCount := 0, pollInProgress := false, attempts := 0
        waitEnd := none, wants := none }) d
  recomputeGuard (passBus (raise .service .guardEvent d))

/-- An attempt has failed: a new one at once while attempts remain, else FAULTED (R57). The attempt count is the number of attempts of the
transaction that have failed (DESIGN CHOICE, log entry 48). -/
def attemptFailed (t : BusTransaction) (d : Dev) : Dev :=
  if t.discarded then passBus d
  else
    let s := d.guard.get t.slot
    if s.attempts + 1 < 1 + s.record.retries then
      beginAttempt t.slot t.use (modifySlot t.slot (fun s => { s with attempts := s.attempts + 1 }) d)
    else faultSlot t.slot d

/-- An attempt has succeeded with the data bytes read: the next pair, SETTLE, or a sample (R52, R53, R54, R58). What the slot requests
next joins the waiting set before the bus is passed on: the next pair, or the sample read of a slot whose post-init wait is 0 (DESIGN
CHOICE, log entry 22). The attempt count is 0 as soon as the transaction is over (DESIGN CHOICE, log entry 48). -/
def attemptSucceeded (t : BusTransaction) (data : List Byte) (d : Dev) : Dev :=
  if t.discarded then passBus d
  else
    let r := (d.guard.get t.slot).record
    let d := modifySlot t.slot (fun s => { s with attempts := 0 }) d
    match t.use with
    | .pair i => passBus (if i + 1 < r.pairCount then requestBus t.slot (.pair (i + 1)) d else enterSettle t.slot d)
    | .sample =>
      passBus (takeSample t.slot (sampleValue r.dataType r.byteSwap (data.getD 0 0) (data.getD 1 0))
        (modifySlot t.slot (fun s => { s with pollInProgress := false }) d))

/-! ### Disable (R50) -/

/-- A slot goes to OFF at once (R50). DESIGN CHOICE (log entry 48): its attempt count becomes 0, also with a discarded attempt still on
the bus. -/
def disableSlot (n : Fin 4) (d : Dev) : Dev :=
  if (d.guard.get n).state = .off then modifySlot n (fun s => { s with record := { s.record with enabled := false } }) d
  else
    let d := modifySlot n
      (fun s =>
        { s with
          record := { s.record with enabled := false }
          state := .off, trip := .clear, runCount := 0, nextDue := none, pollInProgress := false, attempts := 0
          waitEnd := none, wants := none }) d
    let d := d.setGuard
      { d.guard with bus := d.guard.bus.map fun t => if t.slot = n then { t with discarded := true } else t }
    recomputeGuard d

end Sys2Proof.Machine
end

