-- ==== Sys2Proof/Machine/Records.lean ====
section
/-! DEFINITION. The records that cross a port and the codes of the named values in them (sections 11.2, 11.4, 11.5, 11.6). -/

namespace Sys2Proof.Machine

/-! ### Codes sent (Table 11-4) -/

def resultCode : Result → Nat
  | .ok => 0 | .accepted => 1 | .denied => 2 | .badLength => 3 | .badValue => 4 | .state => 5 | .full => 6 | .notFound => 7
  | .owned => 8 | .wrongRoll => 9 | .unknown => 10

def rollStateCode : RollState → Nat
  | .noRoll => 0 | .threaded => 1 | .ready => 2 | .runout => 3

def motionStateCode : MotionState → Nat
  | .idle => 0 | .parked => 1 | .retensioning => 2 | .jog => 3 | .seek => 4 | .creep => 5 | .scan => 6 | .stopping => 7
  | .halted => 8

def failCauseCode : FailCause → Nat
  | .timeout => 4 | .hunting => 5 | .limit => 6 | .halted => 7 | .driveNotReady => 8 | .notOwner => 9

def outcomeCode : OrderOutcome → Nat
  | .arrived => 1 | .stopped => 2 | .atLimit => 3 | .failed c => failCauseCode c

def haltCauseCode : HaltCause → Nat
  | .drive => 10 | .encoder => 11 | .guardStop => 12 | .filmLost => 13 | .halt => 14 | .reset => 15

/-- The cause field of R22: the halt cause while HALTED, and the Service order outcome in every other state. -/
def motionCauseCode (t : Transport) : Nat :=
  match t.motion, t.haltCause, t.serviceOutcome with
  | .halted, some c, _ => haltCauseCode c
  | .halted, none, _ => 0
  | _, _, some o => outcomeCode o
  | _, _, none => 0

def ownerCode : Owner → Nat
  | .nobody => 0 | .scan => 1 | .retrieval => 2 | .service => 3

def runStateCode : Option RunState → Nat
  | none => 0
  | some .queued => 1 | some .preparing => 2 | some .running => 3 | some .suspending => 4 | some .suspended => 5
  | some .ending => 6 | some .ended => 7

def runCauseCode : RunCause → Nat
  | .yield => 0 | .backlog => 1 | .pause => 2 | .fault => 3 | .complete => 4 | .rollEnd => 5 | .limit => 6 | .aborted => 7
  | .rollReleased => 8

def indexStateCode : IndexState → Nat
  | .empty => 0 | .open_ => 1 | .imported => 2 | .closed => 3

def closeCauseCode : CloseCause → Nat
  | .full => 0 | .rollEnd => 1 | .request => 2

def lensStateCode : LensState → Nat
  | .unhomed => 0 | .homing => 1 | .idle => 2 | .moving => 3 | .fault => 4

def focusOutcomeCode : FocusOutcome → Nat
  | .none => 0 | .focused => 1 | .focusFailed => 2 | .abandoned => 3 | .trackLost => 4

def slotStateCode : SlotState → Nat
  | .off => 0 | .init => 1 | .settle => 2 | .polling => 3 | .faulted => 4

def tripCode : TripStatus → Nat
  | .clear => 0 | .tripped => 1

def dataTypeCode : DataType → Nat
  | .u16 => 0 | .s16 => 1 | .u8 => 2

def powerModeCode : PowerMode → Nat
  | .periodic => 0 | .always => 1

def areaCode : Area → Nat
  | .outside => 0 | .inside => 1

def slotActionCode : SlotAction → Nat
  | .stop => 0 | .mark => 1 | .note => 2

def noticeKindCode : NoticeKind → Nat
  | .frame => 0 | .truncated => 1

def matchKindCode : MatchKind → Nat
  | .appended => 0 | .verified => 1 | .mismatch => 2 | .unmatched => 3 | .unindexed => 4 | .notAppended => 5

def completionResultCode : CompletionResult → Nat
  | .done => 0 | .notFound => 1 | .expired => 2 | .cancelled => 3 | .motionFailed => 4 | .rollReleased => 5

def combineModeCode : CombineMode → Nat
  | .any => 0 | .all => 1

def blipLevelCode : BlipLevel → Nat
  | .high => 0 | .low => 1

/-! ### Records (section 11.4) -/

/-- An absent field is sent as the all-ones value of its width (R195). -/
def optBytes (n : Nat) : Option Nat → List Byte
  | some v => leBytes n v
  | none => leBytes n (256 ^ n - 1)

/-- The 2 bytes of focus step and mark level: step in bits 11:0, level in bits 13:12, bit 14 for an absent step. -/
def packedStep (step : Option Nat) (level : Nat) : List Byte :=
  leBytes 2
    (match step with
     | some st => st + 4096 * level
     | none => 16384 + 4096 * level)

/-- An address as batch, doc and page. -/
def addressBytes (a : Address) : List Byte := leBytes 2 a.batch ++ leBytes 2 a.doc ++ leBytes 2 a.page

/-- The index entry: 28 bytes. -/
def entryBytes (n : Nat) (e : IndexEntry) : List Byte :=
  leBytes 2 n ++ leSigned 4 e.start ++ leBytes 3 e.length ++ addressBytes e.address ++ packedStep e.focusStep e.markLevel
    ++ leBytes 2 (frameFlagBits e.flags) ++ optBytes 1 e.run ++ optBytes 4 e.firstLine ++ optBytes 4 e.lastLine

/-- The frame notice: 30 bytes. -/
def noticeBytes (n : Notice) : List Byte :=
  leBytes 1 n.run ++ leBytes 1 (noticeKindCode n.kind) ++ optBytes 2 n.frame ++ leBytes 4 n.firstLine ++ leBytes 4 n.lastLine
    ++ leSigned 4 n.start ++ leBytes 3 n.length ++ addressBytes n.address ++ packedStep n.focusStep n.markLevel
    ++ leBytes 2 (frameFlagBits n.flags) ++ leBytes 1 (matchKindCode n.matchKind)

/-- The completion record: 13 bytes. -/
def completionBytes (c : Completion) : List Byte :=
  leBytes 1 c.ticket ++ leBytes 1 (completionResultCode c.result) ++ leBytes 1 (completionFlagBits c.flags) ++ optBytes 2 c.frame
    ++ leSigned 4 c.position ++ leSigned 2 c.correction ++ leBytes 2 c.lensStep

/-- The guard slot record: 23 bytes. -/
def slotRecordBytes (r : SlotRecord) : List Byte :=
  leBytes 1 r.enabled.toNat ++ leBytes 1 r.busAddress ++ leBytes 1 r.valueRegister ++ leBytes 1 (dataTypeCode r.dataType)
    ++ leBytes 1 r.byteSwap.toNat ++ leBytes 1 (powerModeCode r.powerMode) ++ leBytes 2 r.period ++ leBytes 1 r.scriptStart
    ++ leBytes 1 r.pairCount ++ leBytes 2 r.preInitWait ++ leBytes 2 r.postInitWait ++ leBytes 1 r.retries
    ++ leBytes 2 r.underPattern ++ leBytes 2 r.overPattern ++ leBytes 1 (areaCode r.area) ++ leBytes 1 r.debounce
    ++ leBytes 1 (slotActionCode r.action) ++ leBytes 1 r.vote.toNat

/-- The last sample in SLOT_READ: its 16-bit pattern in a 4-byte field, all ones when absent. -/
def lastSampleBytes : Option Int → List Byte
  | some v => leSigned 2 v ++ leBytes 2 0
  | none => leBytes 4 (256 ^ 4 - 1)

/-- The answer of SLOT_READ (Table 11-2). -/
def slotReadBytes (n : Fin 4) (s : GuardSlot) : List Byte :=
  leBytes 1 n.val ++ slotRecordBytes s.record ++ leBytes 1 (slotStateCode s.state) ++ leBytes 1 (tripCode s.trip)
    ++ leBytes 1 s.runCount ++ lastSampleBytes s.lastSample

/-- A slot's byte of the STATUS record: the state in bits 3:0, the trip status in bit 4. -/
def slotStatusByte (s : GuardSlot) : List Byte := leBytes 1 (slotStateCode s.state + 16 * tripCode s.trip)

/-- The STATUS record: 31 bytes (R191). -/
def statusRecord (d : Dev) : List Byte :=
  leBytes 1 (rollStateCode d.roll.state) ++ leBytes 1 d.roll.datum.toNat ++ leSigned 4 d.metering.counter
    ++ leSigned 2 d.roll.lastCorrection
    ++ leBytes 1 (motionStateCode d.transport.motion) ++ leBytes 1 (motionCauseCode d.transport)
    ++ leBytes 1 (ownerCode d.transport.grant)
    ++ leBytes 1 (runStateCode (runState d)) ++ optBytes 1 ((d.scan.run.bind (·.cause)).map runCauseCode)
    ++ leBytes 1 (indexStateCode d.index.state) ++ optBytes 1 (d.index.closeCause.map closeCauseCode)
    ++ leBytes 2 d.index.entries.length
    ++ leBytes 1 d.retrieval.queue.length ++ leBytes 1 d.retrieval.completions.length
    ++ leBytes 1 (lensStateCode d.focus.lens.state) ++ leBytes 2 d.focus.lens.step
    ++ leBytes 1 (focusOutcomeCode d.focus.outcome) ++ optBytes 4 d.focus.bestScore
    ++ slotStatusByte d.guard.slot0 ++ slotStatusByte d.guard.slot1 ++ slotStatusByte d.guard.slot2
    ++ slotStatusByte d.guard.slot3

/-! ### Configuration values (section 11.6) -/

/-- The stored value of a roll context item. -/
def rollValue (c : RollConfig) : RollItem → Nat
  | .spliceOffset => c.spliceOffset | .correctionWindow => c.correctionWindow | .matchWindow => c.matchWindow

/-- The stored value of a transport item. -/
def transportValue (c : TransportConfig) : TransportItem → Nat
  | .acceleration => c.acceleration | .seekMaximum => c.seekMaximum | .seekMargin => c.seekMargin
  | .arrivalWindow => c.arrivalWindow | .spliceZone => c.spliceZone | .spliceSpeed => c.spliceSpeed
  | .runUpMargin => c.runUpMargin | .creepSpeed => c.creepSpeed | .probeSpeed => c.probeSpeed | .jogSpeed => c.jogSpeed
  | .tensionSettle => c.tensionSettle | .parkTimeout => c.parkTimeout

/-- The stored value of a focus item. -/
def focusValue (c : FocusConfig) : FocusItem → Nat
  | .stepRate => c.stepRate | .lensSettle => c.lensSettle | .focusWindow => c.focusWindow | .coarseStep => c.coarseStep
  | .searchTravel => c.searchTravel | .minimumScore => c.minimumScore | .searchPitch => c.searchPitch
  | .trackThreshold => c.trackThreshold | .probeOffset => c.probeOffset

/-- The stored value of a detector item, a blip active level as its code. -/
def detectorValue (c : DetectorConfig) : DetectorItem → Nat
  | .enterNeg => c.enterNeg | .leaveNeg => c.leaveNeg | .enterPos => c.enterPos | .leavePos => c.leavePos
  | .minGap => c.minGap | .maxFrame => c.maxFrame | .blipOffset => c.blipOffset | .blipActive => blipLevelCode c.blipActive
  | .l1Min => c.l1Min | .l2Min => c.l2Min | .l3Min => c.l3Min | .maxMark => c.maxMark

/-- The stored value of a retrieval item. -/
def retrievalValue (c : RetrievalConfig) : RetrievalItem → Nat
  | .holdTime => c.holdTime | .deferralTimeout => c.deferralTimeout | .bypassLimit => c.bypassLimit
  | .confirmPitch => c.confirmPitch

/-- A tap map entry as sent: its group, or FFh for DEAD. -/
def tapByte : TapEntry → Byte
  | some g => BitVec.ofNat 8 g.val
  | none => 0xFF

/-- The stored value of an item in its width (Table 11-5). -/
def configBytes (d : Dev) (c : ConfigItem) : List Byte :=
  match c with
  | .roll i => leBytes (configItemWidth c) (rollValue d.roll.cfg i)
  | .transport i => leBytes (configItemWidth c) (transportValue d.transport.cfg i)
  | .busSpeed => leBytes 2 d.guard.busSpeed
  | .combineMode => leBytes 1 (combineModeCode d.guard.combineMode)
  | .lineRate => leBytes 4 d.lines.maxRate
  | .tapMap =>
    let m := d.lines.tapMap
    [tapByte m.e0, tapByte m.e1, tapByte m.e2, tapByte m.e3, tapByte m.e4, tapByte m.e5, tapByte m.e6, tapByte m.e7]
  | .stride => leBytes 1 d.lines.stride
  | .focus i => leBytes (configItemWidth c) (focusValue d.focus.cfg i)
  | .detector i => leBytes (configItemWidth c) (detectorValue d.detector.cfg i)
  | .retrieval i => leBytes (configItemWidth c) (retrievalValue d.retrieval.cfg i)

/-- An item with its stored value, as CONFIG_READ and a taken CONFIG_WRITE answer it (R190). -/
def configAnswer (d : Dev) (c : ConfigItem) : List Byte := BitVec.ofNat 8 (configItemId c) :: configBytes d c

end Sys2Proof.Machine
end

