-- ==== Sys2Proof/Machine/Reset.lean ====
section
/-! DEFINITION. The two resets as operations on the device: pin reset (R194 and the first columns of the reset tables) and the taking
effect of SOFT_RESET (R193 and their second columns). -/

namespace Sys2Proof.Machine

/-- The device right after the release of RESET_N, with the levels sampled then (R20, R194). -/
def pinReset (l : ReleaseLevels) : Dev :=
  { Dev.reset with
    roll := { Dev.reset.roll with filmPresent := l.filmPresent }
    metering := { Dev.reset.metering with phaseA := l.encA, phaseB := l.encB }
    inputs := { driveFault := l.driveFault, driveReady := l.driveReady, lensHome := l.lensHome, blipIn := l.blipIn } }

/-- The roll context at SOFT_RESET (R21, Table 1-5). -/
def softResetRoll (r : RollContext) : RollContext :=
  let kept := r.record.isSome && r.filmPresent
  { r with
    record := if kept then r.record else none, state := if kept then .threaded else .noRoll, datum := false, tail := none
    splices := [], pendingCorrection := none, lastCorrection := 0 }

/-- The transport at SOFT_RESET (R47, Table 2-6). -/
def softResetTransport (t : Transport) : Transport :=
  { transportHalted .reset t with lastDirection := .forward, serviceOutcome := none }

/-- A slot at SOFT_RESET: restarted when it was not OFF (R67, R51). -/
def softResetSlot (now : Nat) (s : GuardSlot) : GuardSlot :=
  if s.state = .off then { s with wants := none }
  else { startedSlot now s with state := .init, waitEnd := some (now + s.record.preInitWait) }

/-- The guard unit at SOFT_RESET (R67, Table 3-5). -/
def softResetGuard (now : Nat) (g : Guard) : Guard :=
  { g with
    slot0 := softResetSlot now g.slot0, slot1 := softResetSlot now g.slot1, slot2 := softResetSlot now g.slot2
    slot3 := softResetSlot now g.slot3, bus := g.bus.map fun t => { t with discarded := true }
    stopCondition := false, suspectLatch := false }

/-- The lens at SOFT_RESET (R107, Table 5-4); LENS_DIR keeps its level, of which neither says anything (DESIGN CHOICE, log entry 35). -/
def softResetLens (l : Lens) : Lens :=
  let lost := l.state == .moving || l.state == .homing
  { l with
    state := if lost then .unhomed else l.state, step := if lost then 0 else l.step, move := none, homing := none
    serviceWatch := false }

/-- The focus controller at SOFT_RESET (R107, Table 5-4). -/
def softResetFocus (f : Focus) : Focus :=
  { f with
    lens := softResetLens f.lens, search := none, track := none, runStep := none, frameLens := none, frameWindow := none
    outcome := .none, bestScore := none }

/-- A port at SOFT_RESET (R193, Table 10-5): the mask is kept, the reset indication set. -/
def softResetPort (p : Port) : Port := { p with state := .idle, response := none, flags := 0, resetIndication := true }

/-- SOFT_RESET takes effect (R193): each block takes the state that its chapter gives. -/
def softReset (d : Dev) : Dev :=
  { d with
    roll := softResetRoll d.roll
    transport := softResetTransport d.transport
    guard := softResetGuard d.time d.guard
    trigger := { d.trigger with arm := none, lineCounter := 0 }
    lines := { d.lines with expected := none, last := none }
    focus := softResetFocus d.focus
    detector := { Dev.reset.detector with cfg := d.detector.cfg }
    index := Dev.reset.index
    scan := Dev.reset.scan
    retrieval := { Dev.reset.retrieval with cfg := d.retrieval.cfg }
    ports :=
      { capture := softResetPort d.ports.capture, request := softResetPort d.ports.request
        service := softResetPort d.ports.service, softResetPending := false }
    inbox := [] }

end Sys2Proof.Machine
end

