-- ==== Sys2Proof/Machine/PortUnit.lean ====
section
/-! DEFINITION. The port unit (chapter 10): a transaction's MISO bytes (R182, R185), the checks on a request frame (R184, R186), the answer of
the owning block, and FETCH (R185, R193). -/

namespace Sys2Proof.Machine

/-- What the owning block makes of a request: the device, the result, the payload of the answer. -/
structure Answer where
  dev : Dev
  result : Result
  payload : List Byte
  deriving DecidableEq, Repr

/-- A block's handling of a request, from its payload. -/
abbrev Handler := List Byte → Dev → Answer

/-- A refusal: no state changes and no payload is carried (R184). -/
def refuse (r : Result) (d : Dev) : Answer := { dev := d, result := r, payload := [] }

/-- A request taken and answered, after everything that it brings about. -/
def taken (r : Result) (payload : List Byte) (d : Dev) : Answer := { dev := settle d, result := r, payload := payload }

/-- An answer read from state, which changes nothing or only what the answer removes. -/
def answered (payload : List Byte) (d : Dev) : Answer := { dev := d, result := .ok, payload := payload }

/-- One port replaced. -/
def setPort (id : PortId) (p : Port) (d : Dev) : Dev := d.setPorts (d.ports.put id p)

/-- The MISO bytes of a transaction of 1 + n bytes: the status byte latched at its start, the bytes due, then FFh (R182, R185). -/
def misoBytes (id : PortId) (p : Port) (n : Nat) (due : List Byte) : List Byte :=
  statusByte id p :: (due.take n ++ List.replicate (n - due.length) 0xFF)

/-- The MISO bytes of a transaction recorded (DESIGN CHOICE, log entry 26). -/
def shiftOut (id : PortId) (mosi due : List Byte) (d : Dev) : Dev :=
  let p := d.ports.get id
  setPort id { p with miso := misoBytes id p mosi.length due } d

/-- The port becomes READY with a pending response (R184). -/
def respond (id : PortId) (tag : Byte) (result : Result) (payload : List Byte) (d : Dev) : Dev :=
  setPort id { d.ports.get id with state := .ready, response := some { tag := tag, result := result, payload := payload } } d

/-- The port becomes BUSY: a request goes to its owning block (R184). -/
def becomeBusy (id : PortId) (d : Dev) : Dev := setPort id { d.ports.get id with state := .busy } d

/-- The payload of a request frame: as many bytes as the length byte gives, from the stored bytes (R182, R184). -/
def framePayload (mosi : List Byte) (len : Byte) : List Byte := (((mosi.take (Config.storedBytes - 1)).drop 2)).take len.toNat

/-- A frame passes the length check (R184). -/
def frameLengthOk (mosi : List Byte) (len : Byte) : Bool :=
  decide (len.toNat ≤ Config.maxPayload) && decide ((framePayload mosi len).length = len.toNat)

/-- A transaction with a request frame (R182, R184, R186): at an IDLE port a frame that passes its checks makes the port BUSY while the
handler of the owning block runs, and READY with its answer; at a BUSY or READY port it is ignored. A code that names no request is
`none`. The step is whole, so the port is READY at its end (DESIGN CHOICE, log entry 4). -/
def takeFrame (req : Option Request) (id : PortId) (mosi : List Byte) (h : Handler) (d : Dev) : Dev :=
  let state := (d.ports.get id).state
  let d := shiftOut id mosi [] d
  match mosi, state with
  | tag :: len :: _, .idle =>
    if !frameLengthOk mosi len then respond id tag .badLength [] d
    else
      match req with
      | none => respond id tag .unknown [] d
      | some r =>
        if !permitted r id then respond id tag .denied [] d
        else
          let a := h (framePayload mosi len) (becomeBusy id d)
          respond id tag a.result a.payload a.dev
  | _, _ => d

/-- The response bytes of a READY port: tag, result, length, payload (section 11.2). -/
def responseBytes (r : Response) : List Byte :=
  r.tag :: BitVec.ofNat 8 (resultCode r.result) :: BitVec.ofNat 8 r.payload.length :: r.payload

/-- FETCH (R185): a READY port shifts its response out and becomes IDLE when the transaction has at least 3 whole bytes; at the Service
port a waiting SOFT_RESET then takes effect (R193). -/
def takeFetch (id : PortId) (mosi : List Byte) (d : Dev) : Dev :=
  let p := d.ports.get id
  match p.state, p.response with
  | .ready, some r =>
    let d := shiftOut id mosi (responseBytes r) d
    if mosi.length < 2 then d
    else
      let d := setPort id { d.ports.get id with state := .idle, response := none } d
      if id = .service ∧ d.ports.softResetPending then softReset d else d
  | _, _ => shiftOut id mosi [] d

/-- A payload of at least n bytes goes to the handler; a shorter one is answered BAD_LENGTH and changes no state (R184).
Bytes beyond the fields are ignored (DEDUCED, log entry 21). -/
def needBytes (n : Nat) (h : Handler) : Handler := fun p d => if p.length < n then refuse .badLength d else h p d

end Sys2Proof.Machine
end

