-- ==== Sys2Proof/Machine/PortRequests.lean ====
section
/-! DEFINITION. The resets and the requests of the ports themselves (chapter 10): PIN_RESET, SOFT_RESET, a frame of unknown code, STATUS,
IDENTIFY, FETCH, ACK_EVENTS, EVENT_MASK. -/

namespace Sys2Proof.Machine

/-- A command as its effect on the device; the queue of waiting commands is left as it is. -/
def onDev (f : Dev → Dev) (s : State) : Host.Outcome State Fault Refusal := .next (s.setDev (f s.dev))

/-- PIN_RESET (R194). -/
def execPinReset (levels : ReleaseLevels) (s : State) : Host.Outcome State Fault Refusal := onDev (fun _ => pinReset levels) s

/-- SOFT_RESET is answered OK and waits for its response to be fetched (R193). -/
def answerSoftReset : Handler := fun _ d => answered [] (d.setPorts { d.ports with softResetPending := true })

/-- SOFT_RESET (R193). -/
def execSoftReset (port : PortId) (mosi : List Byte) (s : State) : Host.Outcome State Fault Refusal :=
  onDev (takeFrame (some .softReset) port mosi answerSoftReset) s

/-- A frame whose code names no request (R184). -/
def execUnknownCodeFrame (port : PortId) (_code : Byte) (mosi : List Byte) (s : State) : Host.Outcome State Fault Refusal :=
  onDev (takeFrame none port mosi (fun _ d => refuse .unknown d)) s

/-- STATUS is answered with one record and changes no state (R191). -/
def answerStatus : Handler := fun _ d => answered (statusRecord d) d

/-- STATUS (R191). -/
def execStatusRequest (port : PortId) (mosi : List Byte) (s : State) : Host.Outcome State Fault Refusal :=
  onDev (takeFrame (some .status) port mosi answerStatus) s

/-- Vendor code, part number, revision letter (R192). -/
def identification : List Byte := leBytes 2 Config.vendorCode ++ leBytes 2 Config.partNumber ++ leBytes 1 Config.revisionLetter

/-- IDENTIFY (R192). -/
def answerIdentify : Handler := fun _ d => answered identification d

/-- IDENTIFY (R192). -/
def execIdentify (port : PortId) (mosi : List Byte) (s : State) : Host.Outcome State Fault Refusal :=
  onDev (takeFrame (some .identify) port mosi answerIdentify) s

/-- FETCH (R185, R193). -/
def execFetch (port : PortId) (mosi : List Byte) (s : State) : Host.Outcome State Fault Refusal := onDev (takeFetch port mosi) s

/-- The level events of a port whose condition holds (R187). -/
def levelEvents (id : PortId) (d : Dev) : BitVec 16 :=
  match id with
  | .capture => if d.scan.notices.isEmpty then 0 else eventBit .notice
  | .request => if d.retrieval.completions.isEmpty then 0 else eventBit .done
  | .service => 0

/-- The flags left by an acknowledgement of a set: named flags cleared, level flags whose condition holds set again (R188). -/
def flagsAfterAck (flags named level : BitVec 16) : BitVec 16 := (flags &&& ~~~named) ||| (named &&& level)

/-- ACK_EVENTS (R188). -/
def answerAckEvents (id : PortId) : Handler := needBytes 2 fun p d =>
  let port := d.ports.get id
  let flags := flagsAfterAck port.flags (BitVec.ofNat 16 (natAt p 0 2)) (levelEvents id d)
  answered (leBytes 2 flags.toNat) (setPort id { port with flags := flags, resetIndication := false } d)

/-- ACK_EVENTS (R188). -/
def execAckEvents (port : PortId) (mosi : List Byte) (s : State) : Host.Outcome State Fault Refusal :=
  onDev (takeFrame (some .ackEvents) port mosi (answerAckEvents port)) s

/-- EVENT_MASK: the set restricted to the port's kinds (R188). -/
def answerEventMask (id : PortId) : Handler := needBytes 2 fun p d =>
  let mask := BitVec.ofNat 16 (natAt p 0 2) &&& portKinds id
  answered (leBytes 2 mask.toNat) (setPort id { d.ports.get id with mask := mask } d)

/-- EVENT_MASK (R188). -/
def execEventMask (port : PortId) (mosi : List Byte) (s : State) : Host.Outcome State Fault Refusal :=
  onDev (takeFrame (some .eventMask) port mosi (answerEventMask port)) s

end Sys2Proof.Machine
end

