-- ==== Sys2Proof/Machine/IndexRequests.lean ====
section
/-! DEFINITION. The requests of the frame index (chapter 7): INDEX_READ, INDEX_FIND, the import, INDEX_CLOSE, INDEX_REOPEN. -/

namespace Sys2Proof.Machine

/-- Entries with consecutive frame numbers, as bytes. -/
def entriesBytes : Nat → List IndexEntry → List Byte
  | _, [] => []
  | n, e :: rest => entryBytes n e ++ entriesBytes (n + 1) rest

/-- INDEX_READ (R138). -/
def answerIndexRead : Handler := needBytes 3 fun p d =>
  let n := natAt p 0 2
  let c := natAt p 2 1
  if c = 0 ∨ 2 < c then refuse .badValue d
  else if d.index.entries.length ≤ n then refuse .notFound d
  else
    answered
      (leBytes 1 (indexStateCode d.index.state) ++ leBytes 2 d.index.entries.length
        ++ entriesBytes n ((d.index.entries.drop n).take c)) d

/-- INDEX_READ (R138). -/
def execIndexRead (port : PortId) (mosi : List Byte) (s : State) : Host.Outcome State Fault Refusal :=
  onDev (takeFrame (some .indexRead) port mosi answerIndexRead) s

/-- INDEX_FIND (R139). -/
def answerIndexFind : Handler := needBytes 6 fun p d =>
  match findAddress d { batch := natAt p 0 2, doc := natAt p 2 2, page := natAt p 4 2 } with
  | some (n, e) => answered (entryBytes n e) d
  | none => refuse .notFound d

/-- INDEX_FIND (R139). -/
def execIndexFind (port : PortId) (mosi : List Byte) (s : State) : Host.Outcome State Fault Refusal :=
  onDev (takeFrame (some .indexFind) port mosi answerIndexFind) s

/-- The identifier given is that of the roll record (R1). -/
def rollMatches (d : Dev) (ident : Nat) : Bool :=
  match d.roll.record with
  | some r => r.ident == ident
  | none => false

/-- INDEX_IMPORT_BEGIN (R134). -/
def answerImportBegin : Handler := needBytes 6 fun p d =>
  let declared := natAt p 4 2
  if !rollMatches d (natAt p 0 4) then refuse .wrongRoll d
  else if (d.roll.state ≠ .threaded ∧ d.roll.state ≠ .ready) ∨ d.index.state ≠ .empty
      ∨ (d.scan.run.isSome ∧ runIn d [.ended] = false) then refuse .state d
  else if declared = 0 ∨ Config.indexCapacity < declared then refuse .badValue d
  else answered [] (d.setIndex { d.index with session := some { declared := declared, received := [] } })

/-- INDEX_IMPORT_BEGIN (R134). -/
def execIndexImportBegin (port : PortId) (mosi : List Byte) (s : State) : Host.Outcome State Fault Refusal :=
  onDev (takeFrame (some .indexImportBegin) port mosi answerImportBegin) s

/-- An entry passes the checks of R135 against the entries received before it. -/
def importEntryOk (declared : Nat) (received : List IndexEntry) (e : ImportedEntry) : Bool :=
  decide (e.frame = received.length ∧ received.length < declared)
    && decide (1 ≤ e.entry.length ∧ e.entry.length ≤ 1000000 ∧ e.entry.stop ≤ Config.maxPosition)
    && packedOk e.packed
    && match received.getLast? with
       | none => true
       | some prev => decide (prev.stop < e.entry.start) && !addressBelow e.entry.address prev.address

/-- Entries checked in the order carried: the entries received after them, or the number of the one that fails (R135). -/
def takeImported (declared : Nat) : List IndexEntry → List ImportedEntry → Sum Nat (List IndexEntry)
  | received, [] => .inr received
  | received, e :: rest =>
    if importEntryOk declared received e then takeImported declared (received ++ [e.entry]) rest else .inl e.frame

/-- The import is aborted: the session is discarded and the failing frame number answered (R135, R136). -/
def abortImport (failing : Nat) (d : Dev) : Answer :=
  { dev := d.setIndex { d.index with session := none }, result := .badValue, payload := leBytes 2 failing }

/-- The entries of an INDEX_IMPORT_ENTRY, 19 bytes each after the count. -/
def carriedEntries (p : List Byte) : Nat → List ImportedEntry
  | 1 => [importedEntryOf (p.drop 1)]
  | 2 => [importedEntryOf (p.drop 1), importedEntryOf (p.drop 20)]
  | _ => []

/-- INDEX_IMPORT_ENTRY (R135). -/
def answerImportEntry : Handler := needBytes 1 fun p d =>
  let c := natAt p 0 1
  if (c = 1 ∨ c = 2) ∧ p.length < 1 + 19 * c then refuse .badLength d
  else
    match d.index.session with
    | none => refuse .state d
    | some session =>
      if c = 0 ∨ 2 < c then abortImport session.received.length d
      else
        match takeImported session.declared session.received (carriedEntries p c) with
        | .inl failing => abortImport failing d
        | .inr received =>
          answered (leBytes 2 received.length)
            (d.setIndex { d.index with session := some { session with received := received } })

/-- INDEX_IMPORT_ENTRY (R135). -/
def execIndexImportEntry (port : PortId) (mosi : List Byte) (s : State) : Host.Outcome State Fault Refusal :=
  onDev (takeFrame (some .indexImportEntry) port mosi answerImportEntry) s

/-- The received entries become the table (R136). -/
def finishImport (entries : List IndexEntry) (d : Dev) : Dev :=
  let d := setIndexState .imported none (d.setIndex { d.index with entries := entries, session := none })
  let d := resolveDeferred d
  if entries.length = Config.indexCapacity then closeIndex .full d else d

/-- INDEX_IMPORT_END (R136). -/
def answerImportEnd : Handler := fun _ d =>
  match d.index.session with
  | none => refuse .state d
  | some session =>
    if session.received.length < session.declared then abortImport session.received.length d
    else taken .ok (leBytes 2 session.received.length) (finishImport session.received d)

/-- INDEX_IMPORT_END (R136). -/
def execIndexImportEnd (port : PortId) (mosi : List Byte) (s : State) : Host.Outcome State Fault Refusal :=
  onDev (takeFrame (some .indexImportEnd) port mosi answerImportEnd) s

/-- INDEX_CLOSE (R132). -/
def answerIndexClose : Handler := fun _ d =>
  match d.index.state with
  | .empty => refuse .state d
  | .closed => answered [] d
  | _ => taken .ok [] (closeIndex .request d)

/-- INDEX_CLOSE (R132). -/
def execIndexClose (port : PortId) (mosi : List Byte) (s : State) : Host.Outcome State Fault Refusal :=
  onDev (takeFrame (some .indexClose) port mosi answerIndexClose) s

/-- INDEX_REOPEN (R133). -/
def answerIndexReopen : Handler := fun _ d =>
  if d.index.state ≠ .closed ∨ d.roll.state = .runout ∨ d.index.entries.length = Config.indexCapacity then refuse .state d
  else answered [] (setIndexState .open_ none d)

/-- INDEX_REOPEN (R133). -/
def execIndexReopen (port : PortId) (mosi : List Byte) (s : State) : Host.Outcome State Fault Refusal :=
  onDev (takeFrame (some .indexReopen) port mosi answerIndexReopen) s

end Sys2Proof.Machine
end

