-- ==== Sys2Proof/Machine/ScanRequests.lean ====
section
/-! DEFINITION. The requests of the Capture port (chapter 8): SCAN_START, SCAN_PAUSE, SCAN_RESUME, SCAN_ABORT, NOTICES_READ. -/

namespace Sys2Proof.Machine

/-- The line-rate clamp (R74). -/
def clampSpeed (rate v pitch : Nat) : Nat := if rate * pitch < v * 256000 then rate * pitch / 256000 else v

/-- A base within the soft limits, with its initial gap state (R12, R144). -/
def baseInLimits (d : Dev) (x : Int) (st : ResumeState) : Sum Result (Int × ResumeState) :=
  if withinLimits d x then .inr (x, st) else .inl .badValue

/-- The base S and the initial gap state of a start mode, or the result that refuses it (R144, Table 8-3). -/
def scanBase (d : Dev) (q : ScanRequest) (m : StartMode) : Sum Result (Int × ResumeState) :=
  match m with
  | .atPosition => baseInLimits d (leInt q.startParam) .unknown
  | .atFrame n =>
    match entryAt d n with
    | none => .inl .notFound
    | some e => baseInLimits d (e.start - (2 * d.detector.cfg.minGap : Nat)) .unknown
  | .continue_ =>
    match lastEntry d with
    | some e => baseInLimits d e.stop .inGap
    | none => baseInLimits d d.metering.counter .unknown

/-- The end condition is in its range (R144, step 2). -/
def endConditionOk : EndCondition → Bool
  | .frameCount k => decide (1 ≤ k ∧ k ≤ 8192)
  | _ => true

/-- UNTIL_POSITION: E within the soft limits and above S (R144, step 4). -/
def endPositionOk (d : Dev) (base : Int) : EndCondition → Bool
  | .untilPosition e => withinLimits d e && decide (base < e)
  | _ => true

/-- The run number after one (R142). -/
def nextRunNumber (n : Nat) : Nat := if 254 ≤ n then 1 else n + 1

/-- The new record of a taken SCAN_START (R144). -/
def newRun (d : Dev) (m : StartMode) (base : Int) (st : ResumeState) (e : EndCondition) (speed pitch : Nat) (f : FocusOption)
    (y : YieldPolicy) : RunRecord where
  number := d.scan.runCounter
  startMode := m
  base := base
  initialGap := st
  endCondition := e
  speed := speed
  pitch := pitch
  focus := f
  policy := y
  state := .queued
  savedLine := 0
  framesClosed := 0
  started := false
  boundary := none
  resume := none
  resumePermitted := true
  cause := none
  prep := .none
  trackLost := false

/-- The record of a taken SCAN_START put in place: the counter moves on and RUN is raised (R142, R143, R144). -/
def queueRun (r : RunRecord) (d : Dev) : Dev :=
  raise .capture .run (d.setScan { d.scan with run := some r, runCounter := nextRunNumber d.scan.runCounter })

/-- Step 1 of R144. DESIGN CHOICE (log entry 49): a focus code that Table 11-4 does not list counts as an option other than NONE here, so
an UNHOMED or FAULT lens refuses it with STATE before step 2 could answer BAD_VALUE. -/
def scanStartState (d : Dev) (q : ScanRequest) : Bool :=
  (d.scan.run.isNone || runIn d [.ended]) && d.roll.state == .ready && d.index.session.isNone
    && !(q.focusCode != 0 && (d.focus.lens.state == .unhomed || d.focus.lens.state == .fault))

/-- SCAN_START (R144). -/
def answerScanStart : Handler := needBytes 16 fun p d =>
  let q := scanRequestOf p
  if !scanStartState d q then refuse .state d
  else
    match startModeOf q, endConditionOf q, focusOptionOf q.focusCode, yieldPolicyOf q.policyCode with
    | some m, some e, some f, some y =>
      if q.speed = 0 ∨ 1000 < q.speed ∨ q.pitch < 256 ∨ endConditionOk e = false then refuse .badValue d
      else
        match scanBase d q m with
        | .inl r => refuse r d
        | .inr (base, st) =>
          let speed := clampSpeed d.lines.maxRate q.speed q.pitch
          if endPositionOk d base e = false ∨ speed = 0 then refuse .badValue d
          else
            let r := newRun d m base st e speed q.pitch f y
            taken .accepted (leBytes 1 r.number ++ leBytes 2 speed ++ leSigned 4 base) (queueRun r d)
    | _, _, _, _ => refuse .badValue d

/-- SCAN_START (R144). -/
def execScanStart (port : PortId) (mosi : List Byte) (s : State) : Host.Outcome State Fault Refusal :=
  onDev (takeFrame (some .scanStart) port mosi answerScanStart) s

/-- SCAN_PAUSE in SUSPENDED (R155). -/
def pauseSuspended (r : RunRecord) (d : Dev) : Dev :=
  if r.cause = some .pause ∨ r.cause = some .fault then d
  else modifyRun (fun r => { r with cause := some .pause, resumePermitted := false }) d

/-- SCAN_PAUSE (R155). -/
def answerScanPause : Handler := fun _ d =>
  match d.scan.run with
  | none => refuse .state d
  | some r =>
    match r.state with
    | .queued => taken .ok [] (suspendRun .pause false d)
    | .preparing => taken .ok [] (cutPreparation .pause false d)
    | .running => taken .ok [] (beginSuspending .pause d)
    | .suspending => taken .ok [] (setRunCause .pause d)
    | .suspended => taken .ok [] (pauseSuspended r d)
    | .ending => refuse .state d
    | .ended => refuse .state d

/-- SCAN_PAUSE (R155). -/
def execScanPause (port : PortId) (mosi : List Byte) (s : State) : Host.Outcome State Fault Refusal :=
  onDev (takeFrame (some .scanPause) port mosi answerScanPause) s

/-- SCAN_RESUME (R159). -/
def answerScanResume : Handler := fun _ d =>
  match d.scan.run with
  | none => refuse .state d
  | some r =>
    if r.state ≠ .suspended then refuse .state d
    else if r.cause = some .pause ∨ r.cause = some .fault then
      if d.transport.motion = .halted ∨ d.roll.state ≠ .ready then refuse .state d
      else taken .ok [] (modifyRun (fun r => { r with resumePermitted := true }) d)
    else answered [] d

/-- SCAN_RESUME (R159). -/
def execScanResume (port : PortId) (mosi : List Byte) (s : State) : Host.Outcome State Fault Refusal :=
  onDev (takeFrame (some .scanResume) port mosi answerScanResume) s

/-- An abort of a run that is PREPARING, RUNNING or SUSPENDING (R158). -/
def abortActive (d : Dev) : Dev := beginEnding .aborted (stopIfRunning .scan (abandonSearch (disarm .command false d)))

/-- SCAN_ABORT (R158). -/
def answerScanAbort : Handler := fun _ d =>
  match d.scan.run with
  | none => refuse .state d
  | some r =>
    match r.state with
    | .queued => taken .ok [] (endRun (setRunCause .aborted d))
    | .suspended => taken .ok [] (endRun (setRunCause .aborted d))
    | .preparing => taken .ok [] (abortActive d)
    | .running => taken .ok [] (abortActive d)
    | .suspending => taken .ok [] (abortActive d)
    | .ending => answered [] d
    | .ended => refuse .state d

/-- SCAN_ABORT (R158). -/
def execScanAbort (port : PortId) (mosi : List Byte) (s : State) : Host.Outcome State Fault Refusal :=
  onDev (takeFrame (some .scanAbort) port mosi answerScanAbort) s

/-- NOTICES_READ (R151). -/
def answerNoticesRead : Handler := fun _ d =>
  match d.scan.notices with
  | [] => refuse .notFound d
  | n :: rest =>
    taken .ok (leBytes 1 rest.length ++ noticeBytes n)
      (d.setScan { d.scan with notices := rest, backlog := d.scan.backlog && decide (Config.backlogClear < rest.length) })

/-- NOTICES_READ (R151). -/
def execNoticesRead (port : PortId) (mosi : List Byte) (s : State) : Host.Outcome State Fault Refusal :=
  onDev (takeFrame (some .noticesRead) port mosi answerNoticesRead) s

end Sys2Proof.Machine
end

