-- ==== Sys2Proof/Machine/RetrievalRequests.lean ====
section
/-! DEFINITION. The requests of the Request port (chapter 9): RETRIEVE, CANCEL, HINT, RELEASE_HOLD, COMPLETIONS_READ. -/

namespace Sys2Proof.Machine

/-- The target and options of a RETRIEVE are admitted (R164, step 2). -/
def targetOk (d : Dev) (target : Target) (confirmEdge : Bool) : Bool :=
  match target with
  | .frame n => decide (n ≤ 8191)
  | .address _ => true
  | .position x => !confirmEdge && withinLimits d x

/-- The queue and the completion list leave no room (R164, step 3). -/
def queueFull (d : Dev) : Bool :=
  d.retrieval.queue.length == Config.queueCapacity
    || d.retrieval.queue.length + d.retrieval.completions.length == Config.outstandingCapacity

/-- A new request record (R164). -/
def newRequest (ticket : Nat) (target : Target) (c : RequestClass) (confirmEdge recallFocus : Bool) : RetrievalRequest where
  ticket := ticket
  target := target
  class_ := c
  confirmEdge := confirmEdge
  recallFocus := recallFocus
  state := .deferred
  position := none
  frame := none
  bypass := 0
  retried := false
  age := 0
  holdsLens := false

/-- The record joins the queue under a ticket and is resolved at once (R164, R165, R166). -/
def admitRequest (r : RetrievalRequest) (d : Dev) : Dev :=
  let d' := d.setRetrieval
    { d.retrieval with queue := d.retrieval.queue ++ [resolveRecord d r], ticketCounter := nextTicket r.ticket }
  if (resolveTarget d r.target).isNone ∧ d.index.state = .closed then completeIdle .notFound r d' else d'

/-- RETRIEVE (R164). -/
def answerRetrieve : Handler := needBytes 12 fun p d =>
  if !rollMatches d (natAt p 0 4) then refuse .wrongRoll d
  else
    match targetOf (natAt p 4 1) p, requestClassOf (natAt p 11 1) with
    | some target, some c =>
      let options := optionsOf p
      if !targetOk d target options.1 then refuse .badValue d
      else if queueFull d then refuse .full d
      else
        let ticket := freshTicket d
        taken .accepted (leBytes 1 ticket) (admitRequest (newRequest ticket target c options.1 options.2) d)
    | _, _ => refuse .badValue d

/-- RETRIEVE (R164). -/
def execRetrieve (port : PortId) (mosi : List Byte) (s : State) : Host.Outcome State Fault Refusal :=
  onDev (takeFrame (some .retrieve) port mosi answerRetrieve) s

/-- The ACTIVE request is cancelled, unless it is CANCELLING already (R177). -/
def cancelActive (d : Dev) : Dev :=
  let cancelling : Bool := match d.retrieval.attempt with
    | some a => a.phase == AttemptPhase.cancelling
    | none => false
  if cancelling then d
  else giveStop .retrieval (modifyAttempt (fun a => { a with phase := .cancelling }) (disarmConfirm d))

/-- CANCEL (R177). -/
def answerCancel : Handler := needBytes 1 fun p d =>
  match requestOf d (natAt p 0 1) with
  | none => refuse .notFound d
  | some r =>
    match r.state with
    | .deferred => taken .ok [] (completeIdle .cancelled r d)
    | .waiting => taken .ok [] (completeIdle .cancelled r d)
    | .active => taken .ok [] (cancelActive d)

/-- CANCEL (R177). -/
def execCancel (port : PortId) (mosi : List Byte) (s : State) : Host.Outcome State Fault Refusal :=
  onDev (takeFrame (some .cancel) port mosi answerCancel) s

/-- A frame number at the newest place of the hint list, once, and at most 4 (R178). -/
def addHint (n : Nat) (hints : List Nat) : List Nat := (n :: hints.filter (· ≠ n)).take Config.hintCapacity

/-- HINT (R178). -/
def answerHint : Handler := needBytes 2 fun p d =>
  taken .ok [] (d.setRetrieval { d.retrieval with hints := addHint (natAt p 0 2) d.retrieval.hints })

/-- HINT (R178). -/
def execHint (port : PortId) (mosi : List Byte) (s : State) : Host.Outcome State Fault Refusal :=
  onDev (takeFrame (some .hint) port mosi answerHint) s

/-- RELEASE_HOLD (R175). -/
def answerReleaseHold : Handler := fun _ d =>
  match d.retrieval.hold with
  | some _ => taken .ok [] (endHold d)
  | none => answered [] d

/-- RELEASE_HOLD (R175). -/
def execReleaseHold (port : PortId) (mosi : List Byte) (s : State) : Host.Outcome State Fault Refusal :=
  onDev (takeFrame (some .releaseHold) port mosi answerReleaseHold) s

/-- COMPLETIONS_READ (R173). -/
def answerCompletionsRead : Handler := fun _ d =>
  let cs := d.retrieval.completions
  if cs.isEmpty then refuse .notFound d
  else
    answered (leBytes 1 (cs.drop 4).length ++ (cs.take 4).flatMap completionBytes)
      (d.setRetrieval { d.retrieval with completions := cs.drop 4 })

/-- COMPLETIONS_READ (R173). -/
def execCompletionsRead (port : PortId) (mosi : List Byte) (s : State) : Host.Outcome State Fault Refusal :=
  onDev (takeFrame (some .completionsRead) port mosi answerCompletionsRead) s

end Sys2Proof.Machine
end

