-- ==== Sys2Proof/Machine/RollRequests.lean ====
section
/-! DEFINITION. The roll requests of the Service port (chapter 1): DECLARE_ROLL, RELEASE_ROLL, SET_DATUM. -/

namespace Sys2Proof.Machine

/-- The base address of a DECLARE_ROLL: 0, 0, 0 when absent (R2). -/
def declaredBase (p : List Byte) : Address :=
  if p.length < 14 then { batch := 0, doc := 0, page := 0 }
  else { batch := natAt p 8 2, doc := natAt p 10 2, page := natAt p 12 2 }

/-- A roll declared (R2): the record, THREADED, and the maximum frame length at three times the pitch. -/
def declareRoll (r : RollRecord) (d : Dev) : Dev :=
  let d := d.setRoll
    { d.roll with record := some r, tail := none, splices := [], pendingCorrection := none, lastCorrection := 0 }
  setRollState .threaded
    (d.setDetector { d.detector with cfg := { d.detector.cfg with maxFrame := 3 * r.pitch } })

/-- DECLARE_ROLL (R2). -/
def answerDeclareRoll : Handler := needBytes 8 fun p d =>
  if 8 < p.length ∧ p.length < 14 then refuse .badLength d
  else if d.roll.state ≠ .noRoll ∨ d.roll.filmPresent = false then refuse .state d
  else
    let ident := natAt p 0 4
    let pitch := natAt p 5 2
    let tolerance := natAt p 7 1
    match polarityOf (natAt p 4 1) with
    | none => refuse .badValue d
    | some polarity =>
      if ident = 0 ∨ pitch < 1000 ∨ 60000 < pitch ∨ tolerance < 1 ∨ 50 < tolerance then refuse .badValue d
      else
        taken .ok []
          (declareRoll { ident := ident, polarity := polarity, pitch := pitch, tolerance := tolerance, base := declaredBase p } d)

/-- DECLARE_ROLL (R2). -/
def execDeclareRoll (port : PortId) (mosi : List Byte) (s : State) : Host.Outcome State Fault Refusal :=
  onDev (takeFrame (some .declareRoll) port mosi answerDeclareRoll) s

/-- The flags and the correction with which a request completes ROLL_RELEASED: those of its attempt when it is ACTIVE (Table 9-2). -/
def releaseFlags (d : Dev) (r : RetrievalRequest) : CompletionFlags × Int :=
  match r.state, d.retrieval.attempt with
  | .active, some a => (gatheredFlags a r, a.correction)
  | _, _ => ({ CompletionFlags.clear with retried := r.retried }, 0)

/-- Every request of a queue completes ROLL_RELEASED, in order of arrival (R8). -/
def releaseRequests : List RetrievalRequest → Dev → Dev
  | [], d => d
  | r :: rest, d =>
    let f := releaseFlags d r
    releaseRequests rest (completeRequest r .rollReleased f.1 f.2 d)

/-- The clearing of a taken RELEASE_ROLL, in its order (R8). -/
def releaseRoll (d : Dev) : Dev :=
  let d := if runIn d [.suspended] then endRun (setRunCause .rollReleased d) else d
  let d := releaseRequests d.retrieval.queue d
  let d := releaseGrant .retrieval (d.setRetrieval { d.retrieval with hold := none, attempt := none, hints := [] })
  let d := setIndexState .empty none (d.setIndex { d.index with entries := [], session := none })
  setRollState .noRoll (d.setRoll { d.roll with splices := [], record := none, tail := none })

/-- The motion states in which RELEASE_ROLL is refused (R7). -/
def releaseBlockedByMotion : MotionState → Bool
  | .jog | .seek | .creep | .scan | .stopping | .retensioning => true
  | _ => false

/-- RELEASE_ROLL (R7, R8). -/
def answerReleaseRoll : Handler := fun _ d =>
  if releaseBlockedByMotion d.transport.motion ∨ runIn d [.queued, .preparing, .running, .suspending, .ending] then
    refuse .state d
  else if d.roll.state = .noRoll then answered [] d
  else taken .ok [] (releaseRoll d)

/-- RELEASE_ROLL (R7, R8). -/
def execReleaseRoll (port : PortId) (mosi : List Byte) (s : State) : Host.Outcome State Fault Refusal :=
  onDev (takeFrame (some .releaseRoll) port mosi answerReleaseRoll) s

/-- The datum set (R11): the held positions move when a datum existed, the counter becomes v, THREADED becomes READY. -/
def setDatum (v : Int) (d : Dev) : Dev :=
  let d := if d.roll.datum then shiftDatum (v - d.metering.counter) d else d
  let d := d.setMetering { d.metering with counter := v }
  setRollState (if d.roll.state = .threaded then .ready else d.roll.state) d

/-- The datum value of a SET_DATUM: 0 when absent (R11). -/
def datumValue (p : List Byte) : Int := if p.length < 4 then 0 else intAt p 0 4

/-- SET_DATUM (R11). -/
def answerSetDatum : Handler := fun p d =>
  if 0 < p.length ∧ p.length < 4 then refuse .badLength d
  else if d.roll.state = .noRoll ∨ (d.transport.motion ≠ .idle ∧ d.transport.motion ≠ .parked)
      ∨ d.transport.grant ≠ .nobody then refuse .state d
  else if datumValue p < -2000000 ∨ 80000000 < datumValue p then refuse .badValue d
  else taken .ok [] (setDatum (datumValue p) d)

/-- SET_DATUM (R11). -/
def execSetDatum (port : PortId) (mosi : List Byte) (s : State) : Host.Outcome State Fault Refusal :=
  onDev (takeFrame (some .setDatum) port mosi answerSetDatum) s

end Sys2Proof.Machine
end

