-- ==== Sys2Proof/Machine/MotionRequests.lean ====
section
/-! DEFINITION. The motion requests of the Service port (chapter 2): JOG, SERVICE_SEEK, STOP, HALT, CLEAR_FAULT. -/

namespace Sys2Proof.Machine

/-- The grant and motion-state checks of the Service requests that need the grant (R28): the result that refuses, if any. -/
def serviceRefusal (d : Dev) : Option Result :=
  if d.transport.grant ≠ .nobody then some .owned
  else if d.transport.motion ≠ .idle ∧ d.transport.motion ≠ .parked then some .state
  else none

/-- A Service order taken: the grant becomes SERVICE and the order is given (R28). -/
def serviceOrder (k : OrderKind) (d : Dev) : Dev := giveOrder { owner := .service, kind := k } (giveGrant .service d)

/-- JOG (R28). -/
def answerJog : Handler := needBytes 1 fun p d =>
  match serviceRefusal d, directionOf (natAt p 0 1) with
  | some r, _ => refuse r d
  | none, none => refuse .badValue d
  | none, some dir => taken .accepted [] (serviceOrder (.jog dir) d)

/-- JOG (R28, R37). -/
def execJog (port : PortId) (mosi : List Byte) (s : State) : Host.Outcome State Fault Refusal :=
  onDev (takeFrame (some .jog) port mosi answerJog) s

/-- The cap of a SERVICE_SEEK, when it carries one (Table 11-2). -/
def seekCap (p : List Byte) : Option Nat := if p.length < 6 then none else some (natAt p 4 2)

/-- A cap of 0 or above 5,000 (R28). -/
def capOutOfRange : Option Nat → Bool
  | some c => c == 0 || decide (5000 < c)
  | none => false

/-- SERVICE_SEEK (R28). -/
def answerServiceSeek : Handler := needBytes 4 fun p d =>
  if p.length = 5 then refuse .badLength d
  else
    match serviceRefusal d with
    | some r => refuse r d
    | none =>
      if withinLimits d (intAt p 0 4) = false ∨ capOutOfRange (seekCap p) then refuse .badValue d
      else taken .accepted [] (serviceOrder (.seek (intAt p 0 4) (seekCap p)) d)

/-- SERVICE_SEEK (R28, R31). -/
def execServiceSeek (port : PortId) (mosi : List Byte) (s : State) : Host.Outcome State Fault Refusal :=
  onDev (takeFrame (some .serviceSeek) port mosi answerServiceSeek) s

/-- STOP of the Service port while SERVICE holds the grant: a search with requester SERVICE ends with its creep (R28, R96). -/
def serviceStop (d : Dev) : Dev :=
  let searching : Bool := match d.focus.search with
    | some s => s.requester == SearchOwner.service
    | none => false
  let d := giveStop .service d
  if searching then endSearch false d else d

/-- STOP (R28). -/
def answerStop : Handler := fun _ d =>
  match d.transport.grant with
  | .service => taken .ok [] (serviceStop d)
  | .nobody => answered [] d
  | .scan => refuse .owned d
  | .retrieval => refuse .owned d

/-- STOP (R28, R38). -/
def execStop (port : PortId) (mosi : List Byte) (s : State) : Host.Outcome State Fault Refusal :=
  onDev (takeFrame (some .stop) port mosi answerStop) s

/-- HALT (R42). -/
def answerHalt : Handler := fun _ d => taken .ok [] (halt .halt d)

/-- HALT (R42). -/
def execHalt (port : PortId) (mosi : List Byte) (s : State) : Host.Outcome State Fault Refusal :=
  onDev (takeFrame (some .halt) port mosi answerHalt) s

/-- The conditions under which a halt cannot be cleared (R44). -/
def faultRemains (d : Dev) : Bool :=
  d.inputs.driveFault || d.guard.stopCondition
    || (!d.roll.filmPresent && (d.transport.haltCause == some .filmLost || d.roll.state == .threaded))
    || d.metering.unsettled

/-- HALTED left for IDLE (R44): the drive enable stays off and the tension mode RELEASE. -/
def leaveHalted (d : Dev) : Dev := d.setTransport { d.transport with motion := .idle, haltCause := none }

/-- CLEAR_FAULT (R44). -/
def answerClearFault : Handler := fun _ d =>
  if d.transport.motion ≠ .halted then answered [] d
  else if faultRemains d then refuse .state d
  else taken .ok [] (leaveHalted d)

/-- CLEAR_FAULT (R44). -/
def execClearFault (port : PortId) (mosi : List Byte) (s : State) : Host.Outcome State Fault Refusal :=
  onDev (takeFrame (some .clearFault) port mosi answerClearFault) s

end Sys2Proof.Machine
end

