-- ==== Sys2Proof/Machine/LensRequests.lean ====
section
/-! DEFINITION. The lens requests of the Service port (chapter 5): LENS_HOME, LENS_MOVE, FOCUS_SEARCH; and the end of a homing (R87). -/

namespace Sys2Proof.Machine

/-- A homing ends in a lens state: SERVICE releases the grant that it still holds, and FOCUS is raised (R87). -/
def homingEnds (st : LensState) (d : Dev) : Dev :=
  let held : Bool := match d.focus.lens.homing with
    | some h => h.holdsGrant
    | none => false
  let d := raise .service .focus (setLens { d.focus.lens with state := st, homing := none } d)
  if held then releaseGrant .service d else d

/-- The switch is seen: step 0 and the settle time, which ends at once when it is 0 (R87; DEDUCED, log entry 23). -/
def homeSwitchSeen (h : Homing) (d : Dev) : Dev :=
  let d := homingSeen h d
  if d.focus.cfg.lensSettle = 0 then homingEnds .idle d else d

/-- A homing begins (R87); the switch may be asserted already. -/
def startHoming (d : Dev) : Dev :=
  let h : Homing := { issued := 0, elapsed := 0, rate := d.focus.cfg.stepRate, settledAt := none, holdsGrant := true }
  let d := noteLensMoved (setLens { d.focus.lens with state := .homing, homing := some h } d)
  if d.inputs.lensHome then homeSwitchSeen h d else d

/-- LENS_HOME (R28, R87). -/
def answerLensHome : Handler := fun _ d =>
  match serviceRefusal d with
  | some r => refuse r d
  | none =>
    if d.focus.lens.state = .homing ∨ d.focus.lens.state = .moving then refuse .state d
    else taken .accepted [] (startHoming (giveGrant .service d))

/-- LENS_HOME (R87). -/
def execLensHome (port : PortId) (mosi : List Byte) (s : State) : Host.Outcome State Fault Refusal :=
  onDev (takeFrame (some .lensHome) port mosi answerLensHome) s

/-- The cases in which LENS_MOVE is refused (R88). -/
def lensMoveBlocked (d : Dev) : Bool :=
  d.focus.lens.state != .idle || focusActivity d == .search || focusActivity d == .track
    || runIn d [.preparing, .running, .suspending] || lensHeld d

/-- A LENS_MOVE taken: FOCUS follows when the lens comes to rest, at once when it is at the target already (R86, R88; DESIGN CHOICE, log
entry 30). -/
def serviceMove (target : Nat) (d : Dev) : Dev :=
  match moveRequest target .service d with
  | (.moving, d) => setLens { d.focus.lens with serviceWatch := true } d
  | (_, d) => raise .service .focus d

/-- LENS_MOVE (R88). -/
def answerLensMove : Handler := needBytes 2 fun p d =>
  if lensMoveBlocked d then refuse .state d
  else if Config.maxLensStep < natAt p 0 2 then refuse .badValue d
  else taken .accepted [] (serviceMove (natAt p 0 2) d)

/-- LENS_MOVE (R88). -/
def execLensMove (port : PortId) (mosi : List Byte) (s : State) : Host.Outcome State Fault Refusal :=
  onDev (takeFrame (some .lensMove) port mosi answerLensMove) s

/-- The lens and run states in which FOCUS_SEARCH is refused (R98). -/
def focusSearchBlocked (d : Dev) : Bool :=
  d.roll.state == .noRoll || d.focus.lens.state != .idle || runIn d [.preparing, .running, .suspending]

/-- FOCUS_SEARCH (R28, R98). -/
def answerFocusSearch : Handler := fun _ d =>
  match serviceRefusal d with
  | some r => refuse r d
  | none =>
    if focusSearchBlocked d then refuse .state d
    else taken .accepted [] (beginSearch .service (giveGrant .service d))

/-- FOCUS_SEARCH (R98). -/
def execFocusSearch (port : PortId) (mosi : List Byte) (s : State) : Host.Outcome State Fault Refusal :=
  onDev (takeFrame (some .focusSearch) port mosi answerFocusSearch) s

end Sys2Proof.Machine
end

