-- ==== Sys2Proof/Machine/GuardRequests.lean ====
section
/-! DEFINITION. The guard requests of the Service port (chapter 3): SLOT_CONFIG with enabled yes and no, SLOT_RESTART, SLOT_READ,
SCRIPT_WRITE, SCRIPT_READ. -/

namespace Sys2Proof.Machine

/-- A slot started with a record (R49, R51); leaving OFF or FAULTED recomputes the two outputs (R60, R61). -/
def startWith (n : Fin 4) (r : SlotRecord) (d : Dev) : Dev :=
  recomputeGuard (startSlot n (modifySlot n (fun s => { s with record := r }) d))

/-- SLOT_CONFIG: by its enabled field it enables (R49) or disables (R50) a slot; other codes of the field are in no set (DEDUCED, log
entry 20). -/
def answerSlotConfig : Handler := needBytes 24 fun p d =>
  match slotOf (natAt p 0 1), yesNoOf (natAt p 1 1) with
  | some n, some true =>
    if (d.guard.get n).state ≠ .off then refuse .state d
    else
      match slotRecordOf (p.drop 1) with
      | some r => taken .ok [] (startWith n r d)
      | none => refuse .badValue d
  | some n, some false => taken .ok [] (disableSlot n d)
  | _, _ => refuse .badValue d

/-- SLOT_CONFIG with enabled yes (R49). -/
def execSlotConfigEnable (port : PortId) (mosi : List Byte) (s : State) : Host.Outcome State Fault Refusal :=
  onDev (takeFrame (some .slotConfig) port mosi answerSlotConfig) s

/-- SLOT_CONFIG with enabled no (R50). -/
def execSlotConfigDisable (port : PortId) (mosi : List Byte) (s : State) : Host.Outcome State Fault Refusal :=
  onDev (takeFrame (some .slotConfig) port mosi answerSlotConfig) s

/-- SLOT_RESTART (R62). -/
def answerSlotRestart : Handler := needBytes 1 fun p d =>
  match slotOf (natAt p 0 1) with
  | none => refuse .badValue d
  | some n =>
    if (d.guard.get n).state = .faulted then taken .ok [] (recomputeGuard (startSlot n d)) else refuse .state d

/-- SLOT_RESTART (R62). -/
def execSlotRestart (port : PortId) (mosi : List Byte) (s : State) : Host.Outcome State Fault Refusal :=
  onDev (takeFrame (some .slotRestart) port mosi answerSlotRestart) s

/-- SLOT_READ (R63). -/
def answerSlotRead : Handler := needBytes 1 fun p d =>
  match slotOf (natAt p 0 1) with
  | none => refuse .badValue d
  | some n => answered (slotReadBytes n (d.guard.get n)) d

/-- SLOT_READ (R63). -/
def execSlotRead (port : PortId) (mosi : List Byte) (s : State) : Host.Outcome State Fault Refusal :=
  onDev (takeFrame (some .slotRead) port mosi answerSlotRead) s

/-- A count of script bytes in its range (R64). -/
def scriptCountOk (c : Nat) : Bool := decide (1 ≤ c ∧ c ≤ Config.scriptChunk)

/-- SCRIPT_WRITE (R64). -/
def answerScriptWrite : Handler := needBytes 2 fun p d =>
  let c := natAt p 1 1
  if scriptCountOk c ∧ p.length < 2 + c then refuse .badLength d
  else if d.guard.slots.any (fun s => s.state == SlotState.init) then refuse .state d
  else if scriptCountOk c = false then refuse .badValue d
  else answered [] (d.setGuard { d.guard with script := Memory.store d.guard.script (natAt p 0 1) ((p.drop 2).take c) })

/-- SCRIPT_WRITE (R64). -/
def execScriptWrite (port : PortId) (mosi : List Byte) (s : State) : Host.Outcome State Fault Refusal :=
  onDev (takeFrame (some .scriptWrite) port mosi answerScriptWrite) s

/-- SCRIPT_READ (R64). -/
def answerScriptRead : Handler := needBytes 2 fun p d =>
  let c := natAt p 1 1
  if scriptCountOk c then answered (Memory.load d.guard.script (natAt p 0 1) c) d else refuse .badValue d

/-- SCRIPT_READ (R64). -/
def execScriptRead (port : PortId) (mosi : List Byte) (s : State) : Host.Outcome State Fault Refusal :=
  onDev (takeFrame (some .scriptRead) port mosi answerScriptRead) s

end Sys2Proof.Machine
end

