-- ==== Sys2Proof/Machine/LineStatistics.lean ====
section
/-! DEFINITION. The line statistics unit (section 4.5): the arranged line (R79), the level (R79), the focus half-sums (R80). -/

namespace Sys2Proof.Machine

/-- The entries of the tap map in order (R77). -/
def TapMap.toList (m : TapMap) : List TapEntry := [m.e0, m.e1, m.e2, m.e3, m.e4, m.e5, m.e6, m.e7]

/-- The arranged line: 64 places, each with its live pixel, or `none` where the entry is DEAD (R79). -/
def arrange (raw : List Byte) (m : TapMap) : List (Option Nat) :=
  m.toList.flatMap fun e =>
    match e with
    | some g => ((raw.drop (8 * g.val)).take 8).map fun b => some b.toNat
    | none => List.replicate 8 none

/-- The live pixels of an arranged line. -/
def livePixels (x : List (Option Nat)) : List Nat := x.filterMap id

/-- The level: floor(D / n) over the live pixels (R79). -/
def lineLevel (x : List (Option Nat)) : Nat := (livePixels x).sum / (livePixels x).length

/-- One difference term; a term with a pixel that is not live is left out (R80). -/
def focusTerm (p : Option Nat × Option Nat) : Nat :=
  match p with
  | (some a, some b) => (a - b) + (b - a)
  | _ => 0

/-- The difference terms |x[i] − x[i + s]| in order of i (R80). -/
def focusTerms (x : List (Option Nat)) (s : Nat) : List Nat := (x.zip (x.drop s)).map focusTerm

/-- A half is saturated when a live pixel among the places that it reads is 255, also where all its terms are left out, so that R80's two
sentences on such a half meet (R80; DESIGN CHOICE, log entry 33). -/
def saturatedPlaces (x : List (Option Nat)) : Bool := x.any fun p => p == some 255

/-- The statistics of a complete segment (R79, R80). -/
def lineStats (raw : List Byte) (m : TapMap) (s : Nat) : LineStats :=
  let x := arrange raw m
  let terms := focusTerms x s
  let satLow := saturatedPlaces (x.take (32 + s))
  let satHigh := saturatedPlaces (x.drop 32)
  let low := if satLow then 0 else (terms.take 32).sum
  let high := if satHigh then 0 else (terms.drop 32).sum
  { level := lineLevel x, focusLow := low, focusHigh := high, saturatedLow := satLow, saturatedHigh := satHigh
    focusSum := low + high, counted := !(satLow && satHigh) }

end Sys2Proof.Machine
end

