-- ==== Sys2Proof/Machine/ConfigRequests.lean ====
section
/-! DEFINITION. CONFIG_WRITE, by the block that owns the item (R19, R45, R65, R77, R78, R82, R105, R124, R180, R190), and CONFIG_READ. -/

namespace Sys2Proof.Machine

/-- The MOSI bytes of a CONFIG_WRITE: tag, length, item identifier, value. -/
def configFrame (tag len : Byte) (item : Nat) (value : List Byte) : List Byte := tag :: len :: BitVec.ofNat 8 item :: value

/-- A CONFIG_WRITE of an item: the value in the item's width goes to the owning block (R190). -/
def writeItem (c : ConfigItem) (h : List Byte → Dev → Answer) : Handler :=
  needBytes (1 + configItemWidth c) fun p d => h ((p.drop 1).take (configItemWidth c)) d

/-- A taken write, answered with the identifier and the value as stored (R190). -/
def stored (c : ConfigItem) (d : Dev) : Answer := answered (configAnswer d c) d

/-! ### Roll context (R19) -/

/-- The range of a roll context item (Table 1-3). -/
def rollRange : RollItem → Nat × Nat
  | .spliceOffset => (0, 500000) | .correctionWindow => (0, 2000) | .matchWindow => (100, 20000)

/-- A roll context item written. -/
def setRollItem (i : RollItem) (v : Nat) (c : RollConfig) : RollConfig :=
  match i with
  | .spliceOffset => { c with spliceOffset := v }
  | .correctionWindow => { c with correctionWindow := v }
  | .matchWindow => { c with matchWindow := v }

/-- A pending correction larger in magnitude than W_c is discarded (R17, R19). -/
def discardLargePending (d : Dev) : Dev :=
  match d.roll.pendingCorrection with
  | some delta =>
    if d.roll.cfg.correctionWindow < delta.natAbs then d.setRoll { d.roll with pendingCorrection := none } else d
  | none => d

/-- CONFIG_WRITE of a roll context item (R19). -/
def answerRollItem (i : RollItem) : Handler := writeItem (.roll i) fun v d =>
  let x := clampNat (rollRange i).1 (rollRange i).2 (leNat v)
  let cfg := setRollItem i x d.roll.cfg
  if cfg.matchWindow < cfg.correctionWindow then refuse .badValue d
  else
    let d := d.setRoll { d.roll with cfg := cfg }
    stored (.roll i) (if i = .correctionWindow then discardLargePending d else d)

/-- CONFIG_WRITE_ROLL_ITEM (R19). -/
def execConfigWriteRollItem (port : PortId) (tag len : Byte) (item : RollItem) (value : List Byte) (s : State) :
    Host.Outcome State Fault Refusal :=
  onDev (takeFrame (some .configWrite) port (configFrame tag len (rollItemId item) value) (answerRollItem item)) s

/-! ### Transport (R45) -/

/-- The range of a transport item (Table 2-5). -/
def transportRange : TransportItem → Nat × Nat
  | .acceleration => (1, 20) | .seekMaximum => (100, 5000) | .seekMargin => (100, 60000) | .arrivalWindow => (5, 500)
  | .spliceZone => (0, 200000) | .spliceSpeed => (10, 1000) | .runUpMargin => (0, 50000) | .creepSpeed => (1, 50)
  | .probeSpeed => (1, 100) | .jogSpeed => (1, 500) | .tensionSettle => (0, 5000) | .parkTimeout => (0, 3600)

/-- A transport item written. -/
def setTransportItem (i : TransportItem) (v : Nat) (c : TransportConfig) : TransportConfig :=
  match i with
  | .acceleration => { c with acceleration := v }
  | .seekMaximum => { c with seekMaximum := v }
  | .seekMargin => { c with seekMargin := v }
  | .arrivalWindow => { c with arrivalWindow := v }
  | .spliceZone => { c with spliceZone := v }
  | .spliceSpeed => { c with spliceSpeed := v }
  | .runUpMargin => { c with runUpMargin := v }
  | .creepSpeed => { c with creepSpeed := v }
  | .probeSpeed => { c with probeSpeed := v }
  | .jogSpeed => { c with jogSpeed := v }
  | .tensionSettle => { c with tensionSettle := v }
  | .parkTimeout => { c with parkTimeout := v }

/-- CONFIG_WRITE of a transport item (R45). -/
def answerTransportItem (i : TransportItem) : Handler := writeItem (.transport i) fun v d =>
  if i = .acceleration ∧ d.transport.motion ≠ .idle ∧ d.transport.motion ≠ .parked then refuse .state d
  else
    let x := clampNat (transportRange i).1 (transportRange i).2 (leNat v)
    stored (.transport i) (d.setTransport { d.transport with cfg := setTransportItem i x d.transport.cfg })

/-- CONFIG_WRITE_TRANSPORT_ITEM (R45). -/
def execConfigWriteTransportItem (port : PortId) (tag len : Byte) (item : TransportItem) (value : List Byte) (s : State) :
    Host.Outcome State Fault Refusal :=
  onDev (takeFrame (some .configWrite) port (configFrame tag len (transportItemId item) value) (answerTransportItem item)) s

/-! ### Guard unit (R65) -/

/-- CONFIG_WRITE of the sensor bus speed (R65). -/
def answerBusSpeed : Handler := writeItem .busSpeed fun v d =>
  if leNat v ≠ 100 ∧ leNat v ≠ 400 then refuse .badValue d
  else stored .busSpeed (d.setGuard { d.guard with busSpeed := leNat v })

/-- CONFIG_WRITE_BUS_SPEED (R65). -/
def execConfigWriteBusSpeed (port : PortId) (tag len : Byte) (value : List Byte) (s : State) : Host.Outcome State Fault Refusal :=
  onDev (takeFrame (some .configWrite) port (configFrame tag len (configItemId .busSpeed) value) answerBusSpeed) s

/-- CONFIG_WRITE of the combine mode: the guard stop condition is recomputed at once (R65). -/
def answerCombineMode : Handler := writeItem .combineMode fun v d =>
  match combineModeOf (leNat v) with
  | none => refuse .badValue d
  | some m => stored .combineMode (settle (recomputeGuard (d.setGuard { d.guard with combineMode := m })))

/-- CONFIG_WRITE_COMBINE_MODE (R65). -/
def execConfigWriteCombineMode (port : PortId) (tag len : Byte) (value : List Byte) (s : State) :
    Host.Outcome State Fault Refusal :=
  onDev (takeFrame (some .configWrite) port (configFrame tag len (configItemId .combineMode) value) answerCombineMode) s

/-! ### Trigger and statistics (R77, R78, R82) -/

/-- CONFIG_WRITE of the maximum line rate (R82). -/
def answerLineRate : Handler := writeItem .lineRate fun v d =>
  stored .lineRate (d.setLines { d.lines with maxRate := clampNat 1000 100000 (leNat v) })

/-- CONFIG_WRITE_LINE_RATE (R82). -/
def execConfigWriteLineRate (port : PortId) (tag len : Byte) (value : List Byte) (s : State) : Host.Outcome State Fault Refusal :=
  onDev (takeFrame (some .configWrite) port (configFrame tag len (configItemId .lineRate) value) answerLineRate) s

/-- A run that holds the locks on the map, the stride and the gap thresholds (R78, R124, R143). -/
def runHoldsLock (d : Dev) : Bool := runIn d [.queued, .preparing, .running, .suspending, .suspended]

/-- The lock of R78 on the tap map and the stride. -/
def statisticsLock (d : Dev) : Bool :=
  runHoldsLock d || (match d.trigger.arm with
    | some a => a.mode == .probe
    | none => false)

/-- The tap map that eight bytes carry; none when an entry is neither a group nor DEAD, or every entry is DEAD (R77). -/
def tapMapOf (v : List Byte) : Option TapMap :=
  match v.mapM tapEntryOf with
  | some [a, b, c, e, f, g, h, i] =>
    let m : TapMap := { e0 := a, e1 := b, e2 := c, e3 := e, e4 := f, e5 := g, e6 := h, e7 := i }
    if m.toList.all (·.isNone) then none else some m
  | _ => none

/-- CONFIG_WRITE of the tap map (R77). -/
def answerTapMap : Handler := writeItem .tapMap fun v d =>
  if statisticsLock d then refuse .state d
  else
    match tapMapOf v with
    | some m => stored .tapMap (d.setLines { d.lines with tapMap := m })
    | none => refuse .badValue d

/-- CONFIG_WRITE_TAP_MAP (R77). -/
def execConfigWriteTapMap (port : PortId) (tag len : Byte) (value : List Byte) (s : State) : Host.Outcome State Fault Refusal :=
  onDev (takeFrame (some .configWrite) port (configFrame tag len (configItemId .tapMap) value) answerTapMap) s

/-- CONFIG_WRITE of the stride (R78). -/
def answerStride : Handler := writeItem .stride fun v d =>
  if statisticsLock d then refuse .state d
  else if leNat v < 1 ∨ 4 < leNat v then refuse .badValue d
  else stored .stride (d.setLines { d.lines with stride := leNat v })

/-- CONFIG_WRITE_STRIDE (R78). -/
def execConfigWriteStride (port : PortId) (tag len : Byte) (value : List Byte) (s : State) : Host.Outcome State Fault Refusal :=
  onDev (takeFrame (some .configWrite) port (configFrame tag len (configItemId .stride) value) answerStride) s

/-! ### Focus (R105) -/

/-- The range of a focus item (Table 5-3). -/
def focusRange : FocusItem → Nat × Nat
  | .stepRate => (100, 20000) | .lensSettle => (0, 500) | .focusWindow => (16, 1024) | .coarseStep => (8, 256)
  | .searchTravel => (1000, 200000) | .minimumScore => (0, 65535) | .searchPitch => (256, 65535) | .trackThreshold => (50, 99)
  | .probeOffset => (1, 64)

/-- A focus item written. -/
def setFocusItem (i : FocusItem) (v : Nat) (c : FocusConfig) : FocusConfig :=
  match i with
  | .stepRate => { c with stepRate := v }
  | .lensSettle => { c with lensSettle := v }
  | .focusWindow => { c with focusWindow := v }
  | .coarseStep => { c with coarseStep := v }
  | .searchTravel => { c with searchTravel := v }
  | .minimumScore => { c with minimumScore := v }
  | .searchPitch => { c with searchPitch := v }
  | .trackThreshold => { c with trackThreshold := v }
  | .probeOffset => { c with probeOffset := v }

/-- CONFIG_WRITE of a focus item (R105). -/
def answerFocusItem (i : FocusItem) : Handler := writeItem (.focus i) fun v d =>
  let x := clampNat (focusRange i).1 (focusRange i).2 (leNat v)
  stored (.focus i) (d.setFocus { d.focus with cfg := setFocusItem i x d.focus.cfg })

/-- CONFIG_WRITE_FOCUS_ITEM (R105). -/
def execConfigWriteFocusItem (port : PortId) (tag len : Byte) (item : FocusItem) (value : List Byte) (s : State) :
    Host.Outcome State Fault Refusal :=
  onDev (takeFrame (some .configWrite) port (configFrame tag len (focusItemId item) value) (answerFocusItem item)) s

/-! ### Frame detector (R124) -/

/-- The lock on a detector item (Table 6-5). -/
def detectorLocked (i : DetectorItem) (d : Dev) : Bool :=
  match i with
  | .enterNeg | .leaveNeg | .enterPos | .leavePos | .minGap => runHoldsLock d || d.detector.activity == .confirm
  | .maxFrame => false
  | .blipOffset | .blipActive | .l1Min | .l2Min | .l3Min | .maxMark => runIn d [.running, .suspending]

/-- A detector item written, clamped where R124 clamps it; none where its value is refused. -/
def setDetectorItem (i : DetectorItem) (v : Nat) (c : DetectorConfig) : Option DetectorConfig :=
  match i with
  | .enterNeg => if c.leaveNeg ≤ v ∧ v ≤ 255 then some { c with enterNeg := v } else none
  | .leaveNeg => if v ≤ c.enterNeg ∧ v ≤ 255 then some { c with leaveNeg := v } else none
  | .enterPos => if v ≤ c.leavePos ∧ v ≤ 255 then some { c with enterPos := v } else none
  | .leavePos => if c.enterPos ≤ v ∧ v ≤ 255 then some { c with leavePos := v } else none
  | .minGap => some { c with minGap := clampNat 50 20000 v }
  | .maxFrame => some { c with maxFrame := clampNat 1000 400000 v }
  | .blipOffset => some { c with blipOffset := clampNat 0 50000 v }
  | .blipActive => (blipLevelOf v).map fun l => { c with blipActive := l }
  | .l1Min => if 1 ≤ v ∧ v ≤ 50000 ∧ v < c.l2Min then some { c with l1Min := v } else none
  | .l2Min => if 1 ≤ v ∧ v ≤ 50000 ∧ c.l1Min < v ∧ v < c.l3Min then some { c with l2Min := v } else none
  | .l3Min => if 1 ≤ v ∧ v ≤ 50000 ∧ c.l2Min < v ∧ v ≤ c.maxMark then some { c with l3Min := v } else none
  | .maxMark => if 1 ≤ v ∧ v ≤ 50000 ∧ c.l3Min ≤ v then some { c with maxMark := v } else none

/-- CONFIG_WRITE of a detector item (R124). -/
def answerDetectorItem (i : DetectorItem) : Handler := writeItem (.detector i) fun v d =>
  if detectorLocked i d then refuse .state d
  else
    match setDetectorItem i (leNat v) d.detector.cfg with
    | some cfg => stored (.detector i) (d.setDetector { d.detector with cfg := cfg })
    | none => refuse .badValue d

/-- CONFIG_WRITE_DETECTOR_ITEM (R124). -/
def execConfigWriteDetectorItem (port : PortId) (tag len : Byte) (item : DetectorItem) (value : List Byte) (s : State) :
    Host.Outcome State Fault Refusal :=
  onDev (takeFrame (some .configWrite) port (configFrame tag len (detectorItemId item) value) (answerDetectorItem item)) s

/-! ### Retrieval scheduler (R180) -/

/-- The range of a retrieval item (Table 9-4). -/
def retrievalRange : RetrievalItem → Nat × Nat
  | .holdTime => (0, 60000) | .deferralTimeout => (0, 3600) | .bypassLimit => (1, 15) | .confirmPitch => (256, 65535)

/-- A retrieval item written. -/
def setRetrievalItem (i : RetrievalItem) (v : Nat) (c : RetrievalConfig) : RetrievalConfig :=
  match i with
  | .holdTime => { c with holdTime := v }
  | .deferralTimeout => { c with deferralTimeout := v }
  | .bypassLimit => { c with bypassLimit := v }
  | .confirmPitch => { c with confirmPitch := v }

/-- CONFIG_WRITE of a retrieval item (R180). -/
def answerRetrievalItem (i : RetrievalItem) : Handler := writeItem (.retrieval i) fun v d =>
  let x := clampNat (retrievalRange i).1 (retrievalRange i).2 (leNat v)
  stored (.retrieval i) (d.setRetrieval { d.retrieval with cfg := setRetrievalItem i x d.retrieval.cfg })

/-- CONFIG_WRITE_RETRIEVAL_ITEM (R180). -/
def execConfigWriteRetrievalItem (port : PortId) (tag len : Byte) (item : RetrievalItem) (value : List Byte) (s : State) :
    Host.Outcome State Fault Refusal :=
  onDev (takeFrame (some .configWrite) port (configFrame tag len (retrievalItemId item) value) (answerRetrievalItem item)) s

/-! ### Unknown items and reads (R190) -/

/-- An identifier that names no item (R190). -/
def answerUnknownItem : Handler := needBytes 1 fun _ d => refuse .badValue d

/-- The MOSI bytes of a CONFIG_WRITE frame with the identifier of no item, or with none (section 11.4). -/
def unknownItemFrame (tag len : Byte) (item : Option Byte) (value : List Byte) : List Byte := tag :: len :: (item.toList ++ value)

/-- CONFIG_WRITE_UNKNOWN_ITEM (R190). -/
def execConfigWriteUnknownItem (port : PortId) (tag len : Byte) (item : Option Byte) (value : List Byte) (s : State) :
    Host.Outcome State Fault Refusal :=
  onDev (takeFrame (some .configWrite) port (unknownItemFrame tag len item value) answerUnknownItem) s

/-- CONFIG_READ (R190). -/
def answerConfigRead : Handler := needBytes 1 fun p d =>
  match configItemOf (p.headD 0) with
  | some c => stored c d
  | none => refuse .badValue d

/-- CONFIG_READ (R190). -/
def execConfigRead (port : PortId) (mosi : List Byte) (s : State) : Host.Outcome State Fault Refusal :=
  onDev (takeFrame (some .configRead) port mosi answerConfigRead) s

end Sys2Proof.Machine
end

