-- ==== Sys2Proof/Machine/Detect.lean ====
section
/-! DEFINITION. What a line result brings about: classification, gaps, openings and closes (chapter 6), match and append (R128 to R131), the
scan run controller at a close (R150), tracking and scan recall (R100, R101, R103); and what an encoder count brings about (R9, R35,
R70, R73, R76, R96). -/

namespace Sys2Proof.Machine

/-! ### Tracking and scan recall -/

/-- A score counts in the cycle when the frame's held step is the expected step (R101). -/
def countedScore (t : TrackContext) (score held : Option Nat) : Option Nat :=
  match score, held, expectedStep t with
  | some x, some h, some e => if h = e then some x else none
  | _, _, _ => none

/-- The probe that a track state enters: its move is due and its offset not yet read (R101). -/
def dueProbe (t : TrackContext) (st : TrackState) : TrackContext := { t with state := st, moveDue := true, probeOffset := none }

/-- A frame's score and flags taken into the track cycle (R101). -/
def trackCycle (threshold : Nat) (t : TrackContext) (score held : Option Nat) (splice : Bool) : TrackContext :=
  let counted := countedScore t score held
  match t.state with
  | .steady =>
    if splice then dueProbe { t with lowCount := 0, lowScore := some (counted.getD t.reference) } .probeUp
    else
      match counted with
      | none => t
      | some x =>
        if t.reference * threshold ≤ 100 * x then { t with lowCount := 0 }
        else if 2 ≤ t.lowCount + 1 then dueProbe { t with lowCount := 0, lowScore := some x } .probeUp
        else { t with lowCount := t.lowCount + 1, lowScore := some x }
  | .probeUp =>
    match counted with
    | none => t
    | some x =>
      if t.lowScore.getD 0 < x then { t with step := (expectedStep t).getD t.step, reference := x, state := .steady }
      else dueProbe t .probeDown
  | .probeDown =>
    match counted with
    | none => t
    | some x =>
      if t.lowScore.getD 0 < x then { t with step := (expectedStep t).getD t.step, reference := x, state := .steady }
      else dueProbe t .goBack
  | .goBack => t

/-- The move of the track state made at a gap acceptance (R101). -/
def trackMove (t : TrackContext) (d : Dev) : Dev :=
  let k := d.focus.cfg.probeOffset
  let probe (target : Nat) : Dev :=
    match moveRequest target .track d with
    | (.refused, d) => d
    | (_, d) => d.setFocus { d.focus with track := some { t with probeOffset := some k, moveDue := false } }
  match t.state with
  | .steady => d
  | .probeUp => probe (min (t.step + k) Config.maxLensStep)
  | .probeDown => probe (t.step - k)
  | .goBack => finishReturn t (moveRequest t.step .track d).2

/-- Where the lens is or is going. -/
def lensGoal (d : Dev) : Nat :=
  match d.focus.lens.move with
  | some m => m.target
  | none => d.focus.lens.step

/-- The move of option RECALL at a gap acceptance (R103). -/
def recallMove (x : Int) (d : Dev) : Dev :=
  match (firstStartingBeyond d x).bind (·.focusStep) with
  | some st => if st = lensGoal d then d else (moveRequest st .recallScan d).2
  | none => d

/-- A gap acceptance as the focus controller takes it, while the run is RUNNING or SUSPENDING (R101, R103). -/
def gapAccepted (x : Int) (d : Dev) : Dev :=
  if runIn d [.running, .suspending] then
    match d.scan.run.map RunRecord.focus, d.focus.track with
    | some .track, some t => if t.moveDue then trackMove t d else d
    | some .recallSteps, _ => recallMove x d
    | _, _ => d
  else d

/-- A frame's score at its close (R100). -/
def frameScore (w : Option FrameWindow) : Option Nat :=
  match w with
  | none => none
  | some w =>
    match w.score with
    | some x => some x
    | none => if w.window.length ≤ 2 * w.window.count then some w.window.score else none

/-- A frame opens: the lens facts, and the frame window while tracking (R99, R100). -/
def focusOpening (d : Dev) : Dev :=
  let lens := d.focus.lens.state
  let window :=
    if focusActivity d = .track ∧ lens = .idle then some { window := newWindow d, score := none } else none
  d.setFocus { d.focus with frameLens := some { stateAtOpening := lens, moved := false }, frameWindow := window }

/-- A line of the open frame toward its window (R90, R100). -/
def frameLine (r : LineResult) (d : Dev) : Dev :=
  match d.detector.openFrame, d.focus.frameWindow, lineCounts r d with
  | some _, some w, some st =>
    if w.score.isSome then d
    else
      let win := w.window.add st
      d.setFocus { d.focus with frameWindow := some { window := win, score := if win.full then some win.score else none } }
  | _, _, _ => d

/-! ### Classification and gap runs (R110, R111) -/

/-- The class of a line (R110). -/
def classify (p : Polarity) (c : DetectorConfig) (previous : LineClass) (level : Option Nat) : LineClass :=
  match level with
  | none => previous
  | some l =>
    match p with
    | .negative =>
      if c.enterNeg ≤ l ∨ (c.leaveNeg ≤ l ∧ previous = .gapLike) then .gapLike else .imageLike
    | .positive =>
      if l ≤ c.enterPos ∨ (l ≤ c.leavePos ∧ previous = .gapLike) then .gapLike else .imageLike

/-- A gap run is accepted at a line at position p (R111). -/
def gapReached (g : GapRun) (p : Int) (pitch minGap : Nat) : Bool :=
  decide (256 * (p - g.position) + (pitch : Int) ≥ 256 * (minGap : Int))

/-! ### Marks and addresses at a close (R120, R121) -/

/-- The marks attached at a close (R120). -/
def attachedMarks (marks : List Mark) (firstClose : Bool) (start stop_ : Int) : List Mark :=
  marks.filter fun m => decide (m.position < stop_) && (firstClose || decide (start ≤ m.position))

/-- The highest level among marks, 0 when none is levelled (R120). -/
def markLevel : List Mark → Nat
  | [] => 0
  | m :: rest => max (m.level.getD 0) (markLevel rest)

/-- The address counters advanced by a mark level, and whether they were held (R121). -/
def advanceAddress (a : Address) (level : Nat) : Address × Bool :=
  match level with
  | 0 => (a, false)
  | 1 => if a.page = 65535 then (a, true) else ({ a with page := a.page + 1 }, false)
  | 2 => if a.doc = 65535 then (a, true) else ({ a with doc := a.doc + 1, page := 1 }, false)
  | _ => if a.batch = 65535 then (a, true) else ({ batch := a.batch + 1, doc := 1, page := 1 }, false)

/-! ### The index at a close (R128 to R131) -/

/-- The append of a closed frame (R130, R131). -/
def appendFrame (run : Nat) (f : ClosedFrame) (d : Dev) : IndexAnswer × Dev :=
  let n := d.index.entries.length
  let d := setIndexState .open_ none (d.setIndex { d.index with entries := d.index.entries ++ [appendedEntry run f] })
  let d := resolveDeferred d
  let d := if runIn d [.running] && yieldDemand d then beginSuspending .yield d else d
  let d := if d.index.entries.length = Config.indexCapacity then closeIndex .full d else d
  ({ kind := .appended, frame := some n, address := none }, d)

/-- A closed frame handed to the index: matched, or placed and perhaps appended (R128, R129, R130). -/
def indexTakes (run : Nat) (f : ClosedFrame) (d : Dev) : IndexAnswer × Dev :=
  match matchEntry d f.start f.length with
  | some (n, e) =>
    let (correcting, d) := driftReport n (f.start - e.start) d
    ({ kind := if correcting then .verified else .mismatch, frame := some n, address := some e.address }, d)
  | none =>
    if !beyondIndex d f.start then ({ kind := .unmatched, frame := none, address := none }, d)
    else if d.index.state = .closed then ({ kind := .unindexed, frame := none, address := none }, d)
    else if appendAddressOk d f then appendFrame run f d
    else ({ kind := .notAppended, frame := none, address := (lastEntry d).map (·.address) }, d)

/-! ### The scan run controller at a close (R150) -/

/-- The address that a FRAME notice carries: the matched entry's for VERIFIED and MISMATCH, the frame's own otherwise (Table 8-4). -/
def noticeAddress (f : ClosedFrame) (a : IndexAnswer) : Address :=
  match a.kind with
  | .verified => a.address.getD f.address
  | .mismatch => a.address.getD f.address
  | _ => f.address

/-- The FRAME notice of a close (Table 8-4). -/
def frameNotice (run : Nat) (f : ClosedFrame) (a : IndexAnswer) : Notice where
  run := run
  kind := .frame
  frame := a.frame
  firstLine := f.firstLine
  lastLine := f.lastLine
  start := f.start
  length := f.length
  address := noticeAddress f a
  markLevel := f.markLevel
  focusStep := f.focusStep
  flags := f.flags
  matchKind := a.kind

/-- The run ends at a frame count (R156). -/
def endAtCount (d : Dev) : Dev := beginEnding .complete (giveStop .scan (disarm .command true d))

/-- The scan run controller takes a close (R150). -/
def scanTakesClose (f : ClosedFrame) (a : IndexAnswer) (d : Dev) : Dev :=
  match d.scan.run with
  | none => d
  | some r =>
    let before := d.scan.backlog
    let d := pushNotice (frameNotice r.number f a) (setGate false d)
    let closed := r.framesClosed + 1
    let d := modifyRun
      (fun r => { r with framesClosed := closed, boundary := some { position := f.boundary, state := f.resumeState } }) d
    let counted : Bool := match r.endCondition with
      | .frameCount k => decide (k ≤ closed)
      | _ => false
    if counted then endAtCount d
    else if runIn d [.suspending] then completeSuspension d
    else if runIn d [.running] && d.scan.backlog && !before then beginSuspending .backlog d
    else d

/-! ### Close (R113, R114) -/

/-- The flags of a close (Table 6-3). -/
def closeFlags (f : OpenFrame) (length : Nat) (forced : Bool) (attached : List Mark) (held moving : Bool) (d : Dev) : FrameFlags :=
  let level := markLevel attached
  { short := d.roll.record.any fun r => shortFrame r length
    long := forced || d.roll.record.any fun r => longFrame r length
    forced := forced
    splice := spliceInSpan d.roll.splices f.start length
    suspect := d.guard.suspectLatch
    multiMark := decide (2 ≤ (attached.filter fun m => m.level.isSome).length)
    unmarked := level == 0
    markLost := d.detector.markLost
    markFault := attached.any fun m => m.level.isNone
    monitorGap := f.monitorGap
    focusMoving := moving
    addrHeld := held }

/-- An open frame closes (R113, R114): `stop_` is its end, `lastLine` its last line, `q` and `st` the boundary point, `x` the position
of the line at which it closes. -/
def closeFrame (forced : Bool) (f : OpenFrame) (stop_ : Int) (lastLine : Nat) (q : Int) (st : ResumeState) (x : Int) (d : Dev) :
    Dev :=
  let run := (d.scan.run.map (·.number)).getD 0
  let tracking := focusActivity d == .track
  let score := frameScore d.focus.frameWindow
  let facts := frameLensFacts d
  let length := (stop_ - f.start).toNat
  let attached := attachedMarks d.detector.marks d.detector.firstClose f.start stop_
  let level := markLevel attached
  let (address, held) := advanceAddress d.detector.counters level
  let flags := closeFlags f length forced attached held facts.1 d
  let d := d.setDetector
    { d.detector with
      gapState := .inGap, gapRun := none, openFrame := none, openNext := forced
      marks := d.detector.marks.filter fun m => !decide (m.position < stop_)
      counters := address, markLost := false }
  let d := d.setFocus { d.focus with frameLens := none, frameWindow := none }
  let frame : ClosedFrame :=
    { start := f.start, length := length, firstLine := f.firstLine, lastLine := lastLine, address := address, markLevel := level
      focusStep := facts.2, flags := flags, boundary := q, resumeState := st }
  let (answer, d) := indexTakes run frame d
  let d := match answer.address with
    | some a => d.setDetector { d.detector with counters := a }
    | none => d
  let d := scanTakesClose frame answer d
  let d := d.setDetector { d.detector with firstClose := true, sinceClose := 0 }
  let d := match tracking, d.focus.track with
    | true, some t =>
      d.setFocus { d.focus with track := some (trackCycle d.focus.cfg.trackThreshold t score facts.2 flags.splice) }
    | _, _ => d
  let d := if forced then d else gapAccepted x d
  if runIn d [.suspended] then pauseTrack d else d

/-! ### Lines in RUN (R112, R113, R114) -/

/-- The line number of a result; lines taken in RUN are SCAN lines and have one. -/
def resultLine (r : LineResult) : Nat := r.trigger.line.getD 0

/-- A frame opens in RUN (R112). -/
def openFrame (r : LineResult) (d : Dev) : Dev :=
  let n := resultLine r
  let x := r.trigger.position
  let d := d.setDetector
    { d.detector with
      gapState := .inFrame, previous := .imageLike, openNext := false, gapRun := none
      openFrame := some { start := x, firstLine := n, monitorGap := r.stats.isNone, lastLine := n, lastPosition := x } }
  setGate true (focusOpening (openClearsSuspect d))

/-- The open-frame record with one more line taken (R108, R115). -/
def OpenFrame.take (f : OpenFrame) (r : LineResult) : OpenFrame :=
  { f with
    lastLine := resultLine r, lastPosition := r.trigger.position, monitorGap := f.monitorGap || r.stats.isNone }

/-- The position at which the present arm places the line after a result's (R114). -/
def lineAfter (a : Arm) (r : LineResult) : Int := armPosition a (r.trigger.index + 1)

/-- A line taken in RUN under an arm (R110 to R114). A forcing line belongs to the frame that it closes, and so counts toward its window
first (R100, R114). -/
def runLine (a : Arm) (r : LineResult) (d : Dev) : Dev :=
  let det := d.detector
  let x := r.trigger.position
  if det.openNext then openFrame r d
  else
    let polarity := (d.roll.record.map (·.polarity)).getD .negative
    let cls := classify polarity det.cfg det.previous (r.stats.map (·.level))
    let gap : Option GapRun :=
      match cls with
      | .imageLike => none
      | .gapLike => some (det.gapRun.getD { position := x, line := resultLine r })
    let accepted : Bool := match gap with
      | some g => gapReached g x a.pitch det.cfg.minGap
      | none => false
    let frame := det.openFrame.map fun f => f.take r
    let d := d.setDetector { det with previous := cls, gapRun := gap, openFrame := frame }
    match det.gapState, frame with
    | .inFrame, some f =>
      match accepted, gap with
      | true, some g => closeFrame false f g.position (g.line - 1) x .inGap x d
      | _, _ =>
        if (det.cfg.maxFrame : Int) ≤ x - f.start then
          closeFrame true f x f.lastLine (lineAfter a r) .frameStart x (frameLine r d)
        else d
    | .inFrame, none => d
    | .inGap, _ =>
      if cls = .imageLike then openFrame r d
      else if accepted then gapAccepted x (d.setDetector { d.detector with gapRun := none })
      else d
    | .unknown, _ =>
      if accepted then gapAccepted x (d.setDetector { d.detector with gapState := .inGap, gapRun := none }) else d

/-! ### Lines in CONFIRM (R123) -/

/-- A line taken in CONFIRM under an arm: the first opening is reported as the measured start, any other line as taken. -/
def confirmLine (a : Arm) (r : LineResult) (d : Dev) : Dev :=
  let det := d.detector
  let x := r.trigger.position
  let polarity := (d.roll.record.map (·.polarity)).getD .negative
  let cls := classify polarity det.cfg det.previous (r.stats.map (·.level))
  if det.gapState = .inGap ∧ cls = .imageLike then
    report (.measuredStart x) (detectorIdle (d.setDetector { det with previous := cls }))
  else
    let gap : Option GapRun :=
      match cls with
      | .imageLike => none
      | .gapLike => some (det.gapRun.getD { position := x, line := resultLine r })
    let accepted : Bool := match gap with
      | some g => gapReached g x a.pitch det.cfg.minGap
      | none => false
    let det := { det with
      previous := cls
      gapRun := if accepted then none else gap
      gapState := if accepted then .inGap else det.gapState }
    report (.confirmLine x) (d.setDetector det)

/-- A line result as the frame detector takes it (R108). -/
def detectorTakes (r : LineResult) (d : Dev) : Dev :=
  match d.detector.activity, d.trigger.arm with
  | .run, some a => runLine a r d
  | .confirm, some a => confirmLine a r d
  | _, _ => d

/-- A line result handed on: to the frame detector, then to the focus controller (R81; DESIGN CHOICE, log entry 9). -/
def handResult (r : LineResult) (d : Dev) : Dev :=
  let d := detectorTakes r (d.setLines { d.lines with last := some r })
  frameLine r (searchLine r d)

/-! ### Segments (R75) -/

/-- A monitor-bus byte received with MON_VALID asserted (R75). -/
def receiveByte (b : Byte) (d : Dev) : Dev :=
  match d.lines.expected with
  | none => d
  | some seg =>
    let bytes := seg.bytes ++ [b]
    if Config.segmentBytes ≤ bytes.length then
      let stats := lineStats bytes d.lines.tapMap d.lines.stride
      handResult { trigger := seg.trigger, stats := some stats } (d.setLines { d.lines with expected := none })
    else d.setLines { d.lines with expected := some { seg with bytes := bytes } }

/-! ### Encoder counts -/

/-- BASE_REACHED, when the counter first reaches the start of a scan order in its run phase (R35). -/
def checkBase (d : Dev) : Dev :=
  match d.transport.current with
  | none => d
  | some c =>
    match c.order.kind with
    | .scan start _ _ _ _ =>
      if c.runPhase ∧ c.baseReported = false ∧ start ≤ d.metering.counter then
        report .baseReached (d.setTransport { d.transport with current := some { c with baseReported := true } })
      else d
    | _ => d

/-- A trigger emitted by a count: a segment not complete at that moment is missing (R70, R76). -/
def emitAtCount (a : Arm) (d : Dev) : Dev :=
  let missing := d.lines.expected
  let d := emitTrigger a d
  match missing with
  | some seg => handResult { trigger := seg.trigger, stats := none } d
  | none => d

/-- The generator at a forward count (R70, R71, R73). -/
def generatorCount (d : Dev) : Dev :=
  match d.trigger.arm with
  | none => d
  | some a =>
    let stopped : Bool := match a.stopAt with
      | some e => decide (e ≤ d.metering.counter)
      | none => false
    if stopped then disarm .stopPosition false d
    else if nextPosition a ≤ d.metering.counter then
      if a.mode = .scan ∧ d.trigger.lineCounter = Config.lineLimit then disarm .lineLimit false d
      else emitAtCount a d
    else d

/-- The travel limit of a search, at each count (R96). -/
def searchTravelCheck (d : Dev) : Dev :=
  match d.focus.search with
  | some s => if (d.focus.cfg.searchTravel : Int) ≤ d.metering.counter - s.start then endSearch false d else d
  | none => d

/-- One count of the encoder (R9): saturation at the signed 32-bit extremes, then what the count brings about, in an order of the model
(DESIGN CHOICE, log entry 8). -/
def count (dir : Direction) (d : Dev) : Dev :=
  match dir with
  | .forward =>
    let d := d.setMetering { d.metering with counter := saturate (d.metering.counter + 1) }
    searchTravelCheck (generatorCount (checkBase d))
  | .reverse => searchTravelCheck (d.setMetering { d.metering with counter := saturate (d.metering.counter - 1) })

end Sys2Proof.Machine
end

