-- ==== Sys2Proof/Machine/Profile.lean ====
section
/-! DEFINITION. The motion profile of one millisecond (R32, R33, R35 to R38), and the millisecond's timers (R40, R86, R87, R167, R174). -/

namespace Sys2Proof.Machine

/-! ### Speeds -/

/-- The present speed u, the magnitude of the last demand (R32). -/
def speedOf (d : Dev) : Nat := d.transport.demand.natAbs

/-- A speed in a direction as a demand. -/
def signedSpeed (dir : Direction) (u : Nat) : Int :=
  match dir with
  | .forward => u
  | .reverse => -(u : Int)

/-- The crawl speed u_min = min(a, w) (R32). -/
def crawlSpeed (d : Dev) : Nat := min d.transport.cfg.acceleration d.transport.cfg.arrivalWindow

/-- One millisecond of braking at a (R32, R38). -/
def braked (d : Dev) : Nat := speedOf d - min d.transport.cfg.acceleration (speedOf d)

/-! ### Splice zones (R33) -/

/-- The counter lies within Z of a splice list entry. -/
def insideZone (d : Dev) : Bool :=
  d.transport.cfg.spliceZone != 0
    && d.roll.splices.any fun x => decide ((d.metering.counter - x).natAbs ≤ d.transport.cfg.spliceZone)

/-- The distance to the near edge of a zone that lies ahead in a direction. -/
def zoneAhead (d : Dev) (dir : Direction) (x : Int) : Option Nat :=
  let p := d.metering.counter
  let z := d.transport.cfg.spliceZone
  let edge : Int := match dir with
    | .forward => x - z - p
    | .reverse => p - (x + z)
  if 0 < edge then some edge.toNat else none

/-- The least of some distances. -/
def leastOf : List Nat → Option Nat
  | [] => none
  | x :: rest =>
    match leastOf rest with
    | some y => some (min x y)
    | none => some x

/-- Deceleration for the nearest zone ahead is due (R33). -/
def slowForZone (d : Dev) (dir : Direction) : Bool :=
  let a := d.transport.cfg.acceleration
  let v := d.transport.cfg.spliceSpeed
  let u := speedOf d
  d.transport.cfg.spliceZone != 0 && decide (v < u)
    && match leastOf (d.roll.splices.filterMap (zoneAhead d dir)) with
       | some z => decide ((z : Int) - u ≤ (brakingDistance a u : Int) - brakingDistance a v)
       | none => false

/-- Cruising toward a cap with the splice-zone rule (R32 case 4, R33). -/
def cruise (d : Dev) (dir : Direction) (cap : Nat) : Nat :=
  let a := d.transport.cfg.acceleration
  let v := d.transport.cfg.spliceSpeed
  let u := speedOf d
  let cap := if insideZone d then min cap v else cap
  if insideZone d ∧ cap < u then max (u - a) cap
  else if slowForZone d dir then max (u - a) v
  else if u < cap then min (u + a) cap
  else if cap < u then max (u - a) cap
  else u

/-! ### Seeks (R32, R34) -/

/-- The travel direction of a seek: that of the demand, or of the target at rest (R32). -/
def seekDirection (d : Dev) (gap : Int) : Direction :=
  match motionDirection d with
  | some dir => dir
  | none => if gap < 0 then .reverse else .forward

/-- The film moves away from the target (R32 case 1). -/
def movingAway (d : Dev) (gap : Int) : Bool :=
  decide ((0 < d.transport.demand ∧ gap < 0) ∨ (d.transport.demand < 0 ∧ 0 < gap))

/-- The counter lies beyond a soft limit in the travel direction (R34). -/
def beyondLimit (d : Dev) (dir : Direction) : Bool :=
  match dir with
  | .forward => decide (upperLimit d < d.metering.counter)
  | .reverse => decide (d.metering.counter < lowerLimit d)

/-- The current order's seek replaced. -/
def setSeek (s : SeekRun) (d : Dev) : Dev :=
  d.setTransport { d.transport with current := d.transport.current.map fun c => { c with seek := some s } }

/-- A scan order's positioning has arrived: POSITIONED is reported, and the run phase begins with its arm (R35). -/
def positioned (c : CurrentOrder) (start : Int) (pitch line : Nat) (stopAt : Option Int) (d : Dev) : Dev :=
  let d := setDemand 0
    (d.setTransport
      { d.transport with motion := .scan, current := some { c with seek := none, runPhase := true } })
  checkBase (armTrigger c.order.owner .scan start pitch stopAt line (report (.positioned c.order.owner) d))

/-- A seek, or a scan order's positioning, has arrived (R34, R35). -/
def seekArrived (c : CurrentOrder) (d : Dev) : Dev :=
  match c.order.kind with
  | .scan start _ pitch line stopAt => positioned c start pitch line stopAt d
  | _ => endOrder .arrived d

/-- One millisecond of a seek (R32, R34; DEDUCED, log entry 11). -/
def seekStep (c : CurrentOrder) (s : SeekRun) (d : Dev) : Dev :=
  let a := d.transport.cfg.acceleration
  let w := d.transport.cfg.arrivalWindow
  let u := speedOf d
  let gap := s.target - d.metering.counter
  let dir := seekDirection d gap
  let s := { s with elapsed := s.elapsed + 1 }
  let away := movingAway d gap
  if !away && decide (gap.natAbs ≤ w ∧ u ≤ crawlSpeed d) then seekArrived c (setSeek s d)
  else if beyondLimit d dir then failSeek .limit (setSeek s d)
  else if away then
    let s := if braked d = 0 then { s with reversals := s.reversals + 1 } else s
    setDemand (signedSpeed dir (braked d)) (setSeek s d)
  else if (gap.natAbs : Int) - u ≤ brakingDistance a u then
    setDemand (signedSpeed dir (max (u - a) (crawlSpeed d))) (setSeek s d)
  else setDemand (signedSpeed dir (cruise d dir s.cap)) (setSeek s d)

/-! ### Jog, creep and the run phase of a scan (R35, R36, R37) -/

/-- The distance from the counter to the soft limit in a direction. -/
def toLimit (d : Dev) (dir : Direction) : Int :=
  match dir with
  | .forward => upperLimit d - d.metering.counter
  | .reverse => d.metering.counter - lowerLimit d

/-- One millisecond of motion in a direction toward a speed (R30, R33, R37). Braking at the limit goes before the splice-zone rule, also
where u_min lies above v_z: R33 states an order for a seek only (DESIGN CHOICE, log entry 32). -/
def runStep (dir : Direction) (speed : Nat) (d : Dev) : Dev :=
  let a := d.transport.cfg.acceleration
  let u := speedOf d
  let against : Bool := match motionDirection d with
    | some m => m != dir
    | none => false
  if against then setDemand (signedSpeed (match dir with
    | .forward => .reverse
    | .reverse => .forward) (braked d)) d
  else if toLimit d dir ≤ d.transport.cfg.arrivalWindow ∧ u ≤ crawlSpeed d then endOrder .atLimit d
  else if toLimit d dir - u ≤ brakingDistance a u then setDemand (signedSpeed dir (max (u - a) (crawlSpeed d))) d
  else setDemand (signedSpeed dir (cruise d dir speed)) d

/-! ### STOPPING (R38, R43) -/

/-- The braking speed has reached 0: HALTED for stop reason GUARD, else IDLE, with STOPPED for a STOP order and the start of a held
order (R30, R38, R43). -/
def stopEnds (d : Dev) : Dev :=
  if d.transport.stopReason = some .guardStop then halt .guardStop (setDemand 0 d)
  else
    match d.transport.current with
    | some c => startHeld (if c.order.kind = .stop then endOrder .stopped d else becomeIdle d)
    | none => startHeld (becomeIdle d)

/-- One millisecond of STOPPING (R38). -/
def stoppingStep (d : Dev) : Dev :=
  if braked d = 0 then stopEnds d
  else
    match motionDirection d with
    | some dir => setDemand (signedSpeed dir (braked d)) d
    | none => d

/-- The motion profile of one millisecond, by motion state (Table 2-1). -/
def profile (d : Dev) : Dev :=
  match d.transport.motion, d.transport.current with
  | .seek, some c =>
    match c.seek with
    | some s => seekStep c s d
    | none => d
  | .jog, some c =>
    match c.order.kind with
    | .jog dir => runStep dir c.speed d
    | _ => d
  | .creep, some c => runStep .forward c.speed d
  | .scan, some c => runStep .forward c.speed d
  | .stopping, _ => stoppingStep d
  | _, _ => d

/-! ### The timers of one millisecond -/

/-- Time counted for a lens move while FRAME_GATE is deasserted and steps remain (R86). -/
def moveTick (gate : Bool) (m : MoveRecord) : MoveRecord :=
  if gate ∨ m.settledAt.isSome then m else { m with elapsed := m.elapsed + 1 }

/-- Time counted for a homing while FRAME_GATE is deasserted and it is stepping (R87). -/
def homingTick (gate : Bool) (h : Homing) : Homing :=
  if gate ∨ h.settledAt.isSome then h else { h with elapsed := h.elapsed + 1 }

/-- The deferral age of a DEFERRED request rises by one (R167). -/
def ageTick (r : RetrievalRequest) : RetrievalRequest := if r.state = .deferred then { r with age := r.age + 1 } else r

/-- The timers that count one millisecond: the timebase, the park timer, the lens, the hold, the deferral ages. -/
def tickTimers (d : Dev) : Dev :=
  let d := d.setTime (d.time + 1)
  let d := if parkConditions d then d.setTransport { d.transport with parkTimer := d.transport.parkTimer + 1 } else stopParkTimer d
  let d := setLens
    { d.focus.lens with
      move := d.focus.lens.move.map (moveTick d.scan.gate), homing := d.focus.lens.homing.map (homingTick d.scan.gate) } d
  d.setRetrieval
    { d.retrieval with
      queue := d.retrieval.queue.map ageTick
      hold := d.retrieval.hold.map fun h => { h with timer := h.timer + 1 } }

/-- The inputs sampled at a millisecond (R24, R25, R87). -/
def samplePins (pins : PinSample) (d : Dev) : Dev :=
  d.setInputs { d.inputs with driveFault := pins.driveFault, driveReady := pins.driveReady, lensHome := pins.lensHome }

/-- One millisecond of the timebase (DEDUCED, log entry 2): the samples, the timers, the drive fault or the profile, what follows, and the drive
frame (R23, R24, R32). -/
def millisecond (pins : PinSample) (d : Dev) : Dev :=
  let d := tickTimers (samplePins pins d)
  let d := if d.inputs.driveFault then halt .drive d else profile d
  sendFrame (settle d)

end Sys2Proof.Machine
end

