-- ==== Sys2Proof/Machine/FieldEvents.lean ====
section
/-! DEFINITION. The events of the field side: the film-present input (R3 to R6), the encoder (R9, R10), the splice sensor (R14), the drive
fault (R24), the sensor bus (R57), the monitor bus (R75), the blip sensor (R117 to R119). -/

namespace Sys2Proof.Machine

/-! ### Film present -/

/-- Film lost (R5): the halt, then THREADED with the datum flag clear. -/
def filmLost (d : Dev) : Dev := setRollState .threaded (halt .filmLost d)

/-- A taken change of the sensed film-present level (R3 to R6). -/
def filmChange (level : Bool) (d : Dev) : Dev :=
  let d := d.setRoll { d.roll with filmPresent := level }
  match level, d.roll.state, motionDirection d with
  | false, .ready, some .forward => runout d
  | false, .ready, _ => filmLost d
  | false, .threaded, _ => filmLost d
  | true, .runout, some .reverse => setRollState .ready d
  | _, _, _ => d

/-- Two consecutive samples of the film-present input: a change is taken when both show a level other than the sensed one (R3;
DEDUCED, log entry 6). -/
def filmSamples (s1 s2 : Bool) (d : Dev) : Dev :=
  if s1 = s2 ∧ s1 ≠ d.roll.filmPresent then settle (filmChange s1 d) else d

/-- FILM_PRESENT_CHANGE (R3). -/
def execFilmPresentChange (sample1 sample2 : Bool) (s : State) : Host.Outcome State Fault Refusal :=
  onDev (filmSamples sample1 sample2) s

/-! ### Encoder -/

/-- The place of a phase in the forward cycle (R9). -/
def phaseIndex (a b : Bool) : Nat :=
  match a, b with
  | false, false => 0
  | true, false => 1
  | true, true => 2
  | false, true => 3

/-- An encoder fault (R10). -/
def encoderFault (d : Dev) : Dev :=
  let d := halt .encoder d
  let d := if d.roll.state = .ready ∨ d.roll.state = .runout then setRollState .threaded d else d
  d.setMetering { d.metering with unsettled := true, settledAt := d.time + Config.unsettledTime }

/-- A sampled phase (R9, R10): the next in the cycle counts forward, the previous counts in reverse, the opposite is illegal. -/
def phaseChange (a b : Bool) (d : Dev) : Dev :=
  let turn := (phaseIndex a b + 4 - phaseIndex d.metering.phaseA d.metering.phaseB) % 4
  let d := d.setMetering { d.metering with phaseA := a, phaseB := b }
  match turn with
  | 0 => d
  | 1 => settle (count .forward d)
  | 2 => settle (encoderFault d)
  | _ => settle (count .reverse d)

/-- ENCODER_PHASE_CHANGE (R9, R10). -/
def execEncoderPhaseChange (encA encB : Bool) (s : State) : Host.Outcome State Fault Refusal := onDev (phaseChange encA encB) s

/-- The encoder has settled when its time has come (R10). -/
def unsettledExpiry (d : Dev) : Dev :=
  if d.metering.settledAt ≤ d.time then d.setMetering { d.metering with unsettled := false } else d

/-- ENCODER_UNSETTLED_EXPIRY (R10). -/
def execEncoderUnsettledExpiry (s : State) : Host.Outcome State Fault Refusal := onDev unsettledExpiry s

/-! ### Splices -/

/-- A splice pulse (R14). -/
def splicePulse (d : Dev) : Dev :=
  if d.roll.state ≠ .noRoll ∧ motionDirection d = some .forward then
    offerSplice (min Config.maxPosition (d.metering.counter + d.roll.cfg.spliceOffset)) d
  else d

/-- SPLICE_PULSE (R14, R15). -/
def execSplicePulse (s : State) : Host.Outcome State Fault Refusal := onDev splicePulse s

/-! ### Drive fault -/

/-- A millisecond sample shows DRV_FAULT_N asserted (R24). -/
def driveFaultSample (d : Dev) : Dev := settle (halt .drive (d.setInputs { d.inputs with driveFault := true }))

/-- DRIVE_FAULT (R24). -/
def execDriveFault (s : State) : Host.Outcome State Fault Refusal := onDev driveFaultSample s

/-! ### Sensor bus -/

/-- The attempt on the bus ends (R56, R57). A success carries as many data bytes as the form reads; another count fits no attempt and
changes nothing (DESIGN CHOICE, log entry 27). -/
def attemptEnd (o : BusOutcome) (d : Dev) : Dev :=
  match d.guard.bus with
  | none => d
  | some t =>
    match o with
    | .acknowledged data => if data.length = formReads t.form then settle (attemptSucceeded t data d) else d
    | .notAcknowledged => settle (attemptFailed t d)

/-- BUS_ATTEMPT_END (R57). -/
def execBusAttemptEnd (outcome : BusOutcome) (s : State) : Host.Outcome State Fault Refusal := onDev (attemptEnd outcome) s

/-- SENS_SCL held low for more than 25 ms: the attempt fails (R57). No hold is that long before the attempt has lasted 25 ms (DEDUCED,
log entry 39). -/
def sclHeld (d : Dev) : Dev :=
  match d.guard.bus with
  | none => d
  | some t => if t.begun + Config.sclHoldLimit ≤ d.time then settle (attemptFailed t d) else d

/-- SCL_HOLD_TIMEOUT (R57). -/
def execSclHoldTimeout (s : State) : Host.Outcome State Fault Refusal := onDev sclHeld s

/-! ### Monitor bus -/

/-- SEGMENT_COMPLETE: the byte that completes a segment (R75). -/
def execSegmentComplete (byte : Byte) (s : State) : Host.Outcome State Fault Refusal := onDev (fun d => settle (receiveByte byte d)) s

/-- MONITOR_BYTE_RECEIVED: a byte short of completing a segment (R75). -/
def execMonitorByteReceived (byte : Byte) (s : State) : Host.Outcome State Fault Refusal :=
  onDev (fun d => settle (receiveByte byte d)) s

/-! ### Blip marks -/

/-- A completed mark of a length: ignored, levelled or faulted (R118). -/
def markOf (c : DetectorConfig) (length : Int) : Option (Option Nat) :=
  if length < c.l1Min then none
  else if length < c.l2Min then some (some 1)
  else if length < c.l3Min then some (some 2)
  else if length ≤ c.maxMark then some (some 3)
  else some none

/-- A mark inserted after every mark at or below its position (R119). -/
def insertMark (m : Mark) : List Mark → List Mark
  | [] => [m]
  | y :: rest => if m.position < y.position then m :: y :: rest else y :: insertMark m rest

/-- A mark offered to the pending list (R119). -/
def offerMark (m : Mark) (d : Dev) : Dev :=
  if Config.markCapacity ≤ d.detector.marks.length then d.setDetector { d.detector with markLost := true }
  else
    d.setDetector
      { d.detector with marks := insertMark m d.detector.marks, sinceClose := d.detector.sinceClose + 1 }

/-- The position of an edge at the blip sensor, carried to the gate (R117). -/
def blipPosition (d : Dev) : Int := d.metering.counter + d.detector.cfg.blipOffset

/-- BLIP_IN driven to its active or its inactive level. -/
def setBlip (active : Bool) (d : Dev) : Dev :=
  d.setInputs { d.inputs with blipIn := active == (d.detector.cfg.blipActive == .high) }

/-- A start edge (R117). -/
def blipStart (d : Dev) : Dev :=
  let d := setBlip true d
  if runIn d [.running, .suspending] then d.setDetector { d.detector with openMark := some (blipPosition d) } else d

/-- BLIP_START_EDGE (R117). -/
def execBlipStartEdge (s : State) : Host.Outcome State Fault Refusal := onDev blipStart s

/-- An end edge (R117, R118). -/
def blipEnd (d : Dev) : Dev :=
  let d := setBlip false d
  if runIn d [.running, .suspending] then
    match d.detector.openMark with
    | none => d
    | some x =>
      let length := blipPosition d - x
      let d := d.setDetector { d.detector with openMark := none }
      if length ≤ 0 then d
      else
        match markOf d.detector.cfg length with
        | some level => offerMark { position := x, level := level } d
        | none => d
  else d

/-- BLIP_END_EDGE (R117, R118, R119). -/
def execBlipEndEdge (s : State) : Host.Outcome State Fault Refusal := onDev blipEnd s

end Sys2Proof.Machine
end

