-- ==== Sys2Proof/Machine/TimeEvents.lean ====
section
/-! DEFINITION. The time-driven commands: the millisecond, and each expiry, which takes effect exactly when its condition holds and changes
nothing otherwise (DESIGN CHOICE, log entry 3). -/

namespace Sys2Proof.Machine

/-- PROFILE_STEP: one millisecond (R23, R24, R32; DEDUCED, log entry 2). -/
def execProfileStep (pins : PinSample) (s : State) : Host.Outcome State Fault Refusal := onDev (millisecond pins) s

/-- The running seek, while the motion state is SEEK. -/
def runningSeek (d : Dev) : Option SeekRun :=
  if d.transport.motion = .seek then d.transport.current.bind (·.seek) else none

/-- A seek past its time limit (R34). -/
def seekTimeout (d : Dev) : Dev :=
  match runningSeek d with
  | some k => if k.limit ≤ k.elapsed then settle (failSeek .timeout d) else d
  | none => d

/-- SEEK_TIMEOUT (R34). -/
def execSeekTimeout (s : State) : Host.Outcome State Fault Refusal := onDev seekTimeout s

/-- A seek that has reversed four times (R34). -/
def huntingSeek (d : Dev) : Dev :=
  match runningSeek d with
  | some k => if 4 ≤ k.reversals then settle (failSeek .hunting d) else d
  | none => d

/-- HUNTING (R34). -/
def execHunting (s : State) : Host.Outcome State Fault Refusal := onDev huntingSeek s

/-- Re-tensioning over: IDLE, and a held order starts (R39). -/
def endRetensioning (d : Dev) : Dev :=
  startHeld (d.setTransport { d.transport with motion := .idle, tensionedAt := none })

/-- The settle time of re-tensioning has passed (R39). -/
def retensioned (d : Dev) : Dev :=
  match d.transport.motion, d.transport.tensionedAt with
  | .retensioning, some t => if t ≤ d.time then settle (endRetensioning d) else d
  | _, _ => d

/-- RETENSIONING_END (R39). -/
def execRetensioningEnd (s : State) : Host.Outcome State Fault Refusal := onDev retensioned s

/-- The park timer has reached the park timeout (R40). -/
def parkDue (d : Dev) : Bool :=
  parkConditions d && d.transport.cfg.parkTimeout != 0 && decide (d.transport.cfg.parkTimeout * 1000 ≤ d.transport.parkTimer)

/-- The transport parks (R40). -/
def park (d : Dev) : Dev :=
  if parkDue d then
    raise .service .park (d.setTransport { d.transport with motion := .parked, tension := .release, parkTimer := 0 })
  else d

/-- PARK_TIMEOUT (R40). -/
def execParkTimeout (s : State) : Host.Outcome State Fault Refusal := onDev park s

/-- A slot's due time, when it has come (R54). -/
def slotDue (n : Fin 4) (d : Dev) : Dev :=
  match (d.guard.get n).nextDue with
  | some t => if t ≤ d.time then dueTime n t d else d
  | none => d

/-- SLOT_DUE_TIME (R54). -/
def execSlotDueTime (slot : Fin 4) (s : State) : Host.Outcome State Fault Refusal := onDev (slotDue slot) s

/-- The end of a slot's pre-init wait, when it has come (R52). -/
def preInitDue (n : Fin 4) (d : Dev) : Dev :=
  let s := d.guard.get n
  match s.state, s.waitEnd with
  | .init, some t => if t ≤ d.time then preInitOver n d else d
  | _, _ => d

/-- PRE_INIT_WAIT_END (R52). -/
def execPreInitWaitEnd (slot : Fin 4) (s : State) : Host.Outcome State Fault Refusal := onDev (preInitDue slot) s

/-- The end of a slot's post-init wait, when it has come (R53). -/
def postInitDue (n : Fin 4) (d : Dev) : Dev :=
  let s := d.guard.get n
  match s.state, s.waitEnd with
  | .settle, some t => if t ≤ d.time then enterPolling n d else d
  | _, _ => d

/-- POST_INIT_WAIT_END (R53). -/
def execPostInitWaitEnd (slot : Fin 4) (s : State) : Host.Outcome State Fault Refusal := onDev (postInitDue slot) s

/-- A lens step of a move, when it is due and the gate does not withhold it (R86). -/
def lensStep (d : Dev) : Dev :=
  match d.focus.lens.state, d.focus.lens.move with
  | .moving, some m =>
    if d.scan.gate = false ∧ m.settledAt = none ∧ stepDue m.issued m.elapsed m.rate then
      settle (searchLensIdle (issueStep m d))
    else d
  | _, _ => d

/-- LENS_STEP_DUE (R86). -/
def execLensStepDue (s : State) : Host.Outcome State Fault Refusal := onDev lensStep s

/-- The settle time of a move or of a homing has passed (R86, R87). -/
def lensSettled (d : Dev) : Dev :=
  match d.focus.lens.state with
  | .moving =>
    match d.focus.lens.move.bind (·.settledAt) with
    | some t => if t ≤ d.time then settle (searchLensIdle (lensRest d)) else d
    | none => d
  | .homing =>
    match d.focus.lens.homing.bind (·.settledAt) with
    | some t => if t ≤ d.time then settle (homingEnds .idle d) else d
    | none => d
  | _ => d

/-- LENS_SETTLE_END (R86, R87). -/
def execLensSettleEnd (s : State) : Host.Outcome State Fault Refusal := onDev lensSettled s

/-- One homing step toward decreasing steps; the lens step keeps its value (R85, R87). -/
def issueHomingStep (h : Homing) (d : Dev) : Dev :=
  setLens
    { d.focus.lens with
      homing := some { h with issued := h.issued + 1 }, dirHigh := false, pulses := d.focus.lens.pulses + 1 } d

/-- A homing step, when it is due: the switch is sampled before it (R87). -/
def homingStepDue (switch : Bool) (d : Dev) : Dev :=
  let d := d.setInputs { d.inputs with lensHome := switch }
  match d.focus.lens.state, d.focus.lens.homing with
  | .homing, some h =>
    if d.scan.gate = false ∧ h.settledAt = none ∧ h.issued < Config.homingLimit ∧ stepDue h.issued h.elapsed h.rate then
      if switch then settle (homeSwitchSeen h d) else issueHomingStep h d
    else d
  | _, _ => d

/-- HOMING_STEP (R87). -/
def execHomingStep (homeSwitch : Bool) (s : State) : Host.Outcome State Fault Refusal := onDev (homingStepDue homeSwitch) s

/-- 4,400 homing steps without the switch: FAULT with step 0 (R87). -/
def homingGivesUp (d : Dev) : Dev :=
  match d.focus.lens.state, d.focus.lens.homing with
  | .homing, some h =>
    if h.settledAt = none ∧ Config.homingLimit ≤ h.issued then
      settle (homingEnds .fault (setLens { d.focus.lens with step := 0 } d))
    else d
  | _, _ => d

/-- HOMING_STEP_LIMIT (R87). -/
def execHomingStepLimit (s : State) : Host.Outcome State Fault Refusal := onDev homingGivesUp s

/-- A DEFERRED request whose age has reached the deferral timeout completes EXPIRED (R167). -/
def expireDeferred (ticket : Nat) (d : Dev) : Dev :=
  match requestOf d ticket with
  | none => d
  | some r =>
    if r.state = .deferred ∧ d.retrieval.cfg.deferralTimeout ≠ 0 ∧ d.retrieval.cfg.deferralTimeout * 1000 ≤ r.age then
      settle (completeIdle .expired r d)
    else d

/-- DEFERRAL_EXPIRY (R167). -/
def execDeferralExpiry (ticket : Nat) (s : State) : Host.Outcome State Fault Refusal := onDev (expireDeferred ticket) s

/-- The hold timer has reached the hold time (R174). -/
def holdTimeout (d : Dev) : Dev :=
  match d.retrieval.hold with
  | some h => if h.time ≤ h.timer then settle (endHold d) else d
  | none => d

/-- HOLD_TIMEOUT (R174). -/
def execHoldTimeout (s : State) : Host.Outcome State Fault Refusal := onDev holdTimeout s

end Sys2Proof.Machine
end

