-- ==== Sys2Proof/Machine/Dispatch.lean ====
section
/-! DEFINITION. The dispatch of a command to its meaning: one arm per row of spec/opcode_table.json, each one call. -/

namespace Sys2Proof.Machine

/-- The effect of a command on everything but the queue. -/
def exec (i : Instr) (s : State) : Host.Outcome State Fault Refusal :=
  match i with
  | .pinReset levels => Sys2Proof.Machine.execPinReset levels s
  | .softReset port mosi => Sys2Proof.Machine.execSoftReset port mosi s
  | .unknownCodeFrame port code mosi => Sys2Proof.Machine.execUnknownCodeFrame port code mosi s
  | .statusRequest port mosi => Sys2Proof.Machine.execStatusRequest port mosi s
  | .identify port mosi => Sys2Proof.Machine.execIdentify port mosi s
  | .fetch port mosi => Sys2Proof.Machine.execFetch port mosi s
  | .ackEvents port mosi => Sys2Proof.Machine.execAckEvents port mosi s
  | .eventMask port mosi => Sys2Proof.Machine.execEventMask port mosi s
  | .indexRead port mosi => Sys2Proof.Machine.execIndexRead port mosi s
  | .scanStart port mosi => Sys2Proof.Machine.execScanStart port mosi s
  | .scanPause port mosi => Sys2Proof.Machine.execScanPause port mosi s
  | .scanResume port mosi => Sys2Proof.Machine.execScanResume port mosi s
  | .scanAbort port mosi => Sys2Proof.Machine.execScanAbort port mosi s
  | .noticesRead port mosi => Sys2Proof.Machine.execNoticesRead port mosi s
  | .retrieve port mosi => Sys2Proof.Machine.execRetrieve port mosi s
  | .cancel port mosi => Sys2Proof.Machine.execCancel port mosi s
  | .hint port mosi => Sys2Proof.Machine.execHint port mosi s
  | .releaseHold port mosi => Sys2Proof.Machine.execReleaseHold port mosi s
  | .completionsRead port mosi => Sys2Proof.Machine.execCompletionsRead port mosi s
  | .indexFind port mosi => Sys2Proof.Machine.execIndexFind port mosi s
  | .declareRoll port mosi => Sys2Proof.Machine.execDeclareRoll port mosi s
  | .releaseRoll port mosi => Sys2Proof.Machine.execReleaseRoll port mosi s
  | .setDatum port mosi => Sys2Proof.Machine.execSetDatum port mosi s
  | .jog port mosi => Sys2Proof.Machine.execJog port mosi s
  | .serviceSeek port mosi => Sys2Proof.Machine.execServiceSeek port mosi s
  | .stop port mosi => Sys2Proof.Machine.execStop port mosi s
  | .halt port mosi => Sys2Proof.Machine.execHalt port mosi s
  | .clearFault port mosi => Sys2Proof.Machine.execClearFault port mosi s
  | .lensHome port mosi => Sys2Proof.Machine.execLensHome port mosi s
  | .lensMove port mosi => Sys2Proof.Machine.execLensMove port mosi s
  | .focusSearch port mosi => Sys2Proof.Machine.execFocusSearch port mosi s
  | .slotConfigEnable port mosi => Sys2Proof.Machine.execSlotConfigEnable port mosi s
  | .slotConfigDisable port mosi => Sys2Proof.Machine.execSlotConfigDisable port mosi s
  | .slotRestart port mosi => Sys2Proof.Machine.execSlotRestart port mosi s
  | .slotRead port mosi => Sys2Proof.Machine.execSlotRead port mosi s
  | .scriptWrite port mosi => Sys2Proof.Machine.execScriptWrite port mosi s
  | .scriptRead port mosi => Sys2Proof.Machine.execScriptRead port mosi s
  | .configWriteRollItem port tag len item value => Sys2Proof.Machine.execConfigWriteRollItem port tag len item value s
  | .configWriteTransportItem port tag len item value => Sys2Proof.Machine.execConfigWriteTransportItem port tag len item value s
  | .configWriteBusSpeed port tag len value => Sys2Proof.Machine.execConfigWriteBusSpeed port tag len value s
  | .configWriteCombineMode port tag len value => Sys2Proof.Machine.execConfigWriteCombineMode port tag len value s
  | .configWriteLineRate port tag len value => Sys2Proof.Machine.execConfigWriteLineRate port tag len value s
  | .configWriteTapMap port tag len value => Sys2Proof.Machine.execConfigWriteTapMap port tag len value s
  | .configWriteStride port tag len value => Sys2Proof.Machine.execConfigWriteStride port tag len value s
  | .configWriteFocusItem port tag len item value => Sys2Proof.Machine.execConfigWriteFocusItem port tag len item value s
  | .configWriteDetectorItem port tag len item value => Sys2Proof.Machine.execConfigWriteDetectorItem port tag len item value s
  | .configWriteRetrievalItem port tag len item value => Sys2Proof.Machine.execConfigWriteRetrievalItem port tag len item value s
  | .configWriteUnknownItem port tag len item value => Sys2Proof.Machine.execConfigWriteUnknownItem port tag len item value s
  | .configRead port mosi => Sys2Proof.Machine.execConfigRead port mosi s
  | .indexImportBegin port mosi => Sys2Proof.Machine.execIndexImportBegin port mosi s
  | .indexImportEntry port mosi => Sys2Proof.Machine.execIndexImportEntry port mosi s
  | .indexImportEnd port mosi => Sys2Proof.Machine.execIndexImportEnd port mosi s
  | .indexClose port mosi => Sys2Proof.Machine.execIndexClose port mosi s
  | .indexReopen port mosi => Sys2Proof.Machine.execIndexReopen port mosi s
  | .filmPresentChange sample1 sample2 => Sys2Proof.Machine.execFilmPresentChange sample1 sample2 s
  | .encoderPhaseChange encA encB => Sys2Proof.Machine.execEncoderPhaseChange encA encB s
  | .encoderUnsettledExpiry => Sys2Proof.Machine.execEncoderUnsettledExpiry s
  | .splicePulse => Sys2Proof.Machine.execSplicePulse s
  | .profileStep pins => Sys2Proof.Machine.execProfileStep pins s
  | .seekTimeout => Sys2Proof.Machine.execSeekTimeout s
  | .hunting => Sys2Proof.Machine.execHunting s
  | .driveFault => Sys2Proof.Machine.execDriveFault s
  | .retensioningEnd => Sys2Proof.Machine.execRetensioningEnd s
  | .parkTimeout => Sys2Proof.Machine.execParkTimeout s
  | .slotDueTime slot => Sys2Proof.Machine.execSlotDueTime slot s
  | .preInitWaitEnd slot => Sys2Proof.Machine.execPreInitWaitEnd slot s
  | .postInitWaitEnd slot => Sys2Proof.Machine.execPostInitWaitEnd slot s
  | .busAttemptEnd outcome => Sys2Proof.Machine.execBusAttemptEnd outcome s
  | .sclHoldTimeout => Sys2Proof.Machine.execSclHoldTimeout s
  | .segmentComplete byte => Sys2Proof.Machine.execSegmentComplete byte s
  | .blipStartEdge => Sys2Proof.Machine.execBlipStartEdge s
  | .blipEndEdge => Sys2Proof.Machine.execBlipEndEdge s
  | .lensStepDue => Sys2Proof.Machine.execLensStepDue s
  | .lensSettleEnd => Sys2Proof.Machine.execLensSettleEnd s
  | .homingStep homeSwitch => Sys2Proof.Machine.execHomingStep homeSwitch s
  | .homingStepLimit => Sys2Proof.Machine.execHomingStepLimit s
  | .deferralExpiry ticket => Sys2Proof.Machine.execDeferralExpiry ticket s
  | .holdTimeout => Sys2Proof.Machine.execHoldTimeout s
  | .monitorByteReceived byte => Sys2Proof.Machine.execMonitorByteReceived byte s

end Sys2Proof.Machine
end

