-- ==== Sys2Proof/Safety.lean ====
section
/-! DEFINITION. What a run of the 4120 keeps safe, in the terms that the statements use: the well-kept device (ranges and relations between
registers that the chapters state), the configuration of every block, a request as the port takes it, a device in which nothing is
left to do, and the state of a halted transport. -/

namespace Sys2Proof.Machine

/-! ### Requests at a port -/

/-- The MOSI bytes after the code byte of a whole request frame: tag, length, payload, then surplus bytes (R182, R184). -/
def requestFrame (tag : Byte) (payload surplus : List Byte) : List Byte :=
  tag :: BitVec.ofNat 8 payload.length :: (payload ++ surplus)

/-- The port takes a request frame with this payload: it is IDLE, and the payload has at most 60 bytes (R184). -/
def takes (s : State) (port : PortId) (payload : List Byte) : Prop :=
  (s.dev.ports.get port).state = .idle ∧ payload.length ≤ 60

/-- The device as the owning block finds it: the transaction has shifted out its MISO bytes and the port is BUSY, and nothing else has
changed (R182, R184). -/
def heard (port : PortId) (mosi : List Byte) (s : State) : Dev := becomeBusy port (shiftOut port mosi [] s.dev)

/-- The state in which a port holds an answer over a device. -/
def answers (s : State) (port : PortId) (tag : Byte) (result : Result) (payload : List Byte) (d : Dev) : State :=
  s.setDev (respond port tag result payload d)

/-- A request, its port and its MOSI bytes, for every command that is a request frame other than FETCH; a request of no name is
`some none`. -/
def requestOfCommand : Instr → Option (Option Request × PortId × List Byte)
  | .pinReset _ => none
  | .softReset p m => some (some .softReset, p, m)
  | .unknownCodeFrame p _ m => some (none, p, m)
  | .statusRequest p m => some (some .status, p, m)
  | .identify p m => some (some .identify, p, m)
  | .fetch _ _ => none
  | .ackEvents p m => some (some .ackEvents, p, m)
  | .eventMask p m => some (some .eventMask, p, m)
  | .indexRead p m => some (some .indexRead, p, m)
  | .scanStart p m => some (some .scanStart, p, m)
  | .scanPause p m => some (some .scanPause, p, m)
  | .scanResume p m => some (some .scanResume, p, m)
  | .scanAbort p m => some (some .scanAbort, p, m)
  | .noticesRead p m => some (some .noticesRead, p, m)
  | .retrieve p m => some (some .retrieve, p, m)
  | .cancel p m => some (some .cancel, p, m)
  | .hint p m => some (some .hint, p, m)
  | .releaseHold p m => some (some .releaseHold, p, m)
  | .completionsRead p m => some (some .completionsRead, p, m)
  | .indexFind p m => some (some .indexFind, p, m)
  | .declareRoll p m => some (some .declareRoll, p, m)
  | .releaseRoll p m => some (some .releaseRoll, p, m)
  | .setDatum p m => some (some .setDatum, p, m)
  | .jog p m => some (some .jog, p, m)
  | .serviceSeek p m => some (some .serviceSeek, p, m)
  | .stop p m => some (some .stop, p, m)
  | .halt p m => some (some .halt, p, m)
  | .clearFault p m => some (some .clearFault, p, m)
  | .lensHome p m => some (some .lensHome, p, m)
  | .lensMove p m => some (some .lensMove, p, m)
  | .focusSearch p m => some (some .focusSearch, p, m)
  | .slotConfigEnable p m => some (some .slotConfig, p, m)
  | .slotConfigDisable p m => some (some .slotConfig, p, m)
  | .slotRestart p m => some (some .slotRestart, p, m)
  | .slotRead p m => some (some .slotRead, p, m)
  | .scriptWrite p m => some (some .scriptWrite, p, m)
  | .scriptRead p m => some (some .scriptRead, p, m)
  | .configWriteRollItem p t l i v => some (some .configWrite, p, configFrame t l (rollItemId i) v)
  | .configWriteTransportItem p t l i v => some (some .configWrite, p, configFrame t l (transportItemId i) v)
  | .configWriteBusSpeed p t l v => some (some .configWrite, p, configFrame t l (configItemId .busSpeed) v)
  | .configWriteCombineMode p t l v => some (some .configWrite, p, configFrame t l (configItemId .combineMode) v)
  | .configWriteLineRate p t l v => some (some .configWrite, p, configFrame t l (configItemId .lineRate) v)
  | .configWriteTapMap p t l v => some (some .configWrite, p, configFrame t l (configItemId .tapMap) v)
  | .configWriteStride p t l v => some (some .configWrite, p, configFrame t l (configItemId .stride) v)
  | .configWriteFocusItem p t l i v => some (some .configWrite, p, configFrame t l (focusItemId i) v)
  | .configWriteDetectorItem p t l i v => some (some .configWrite, p, configFrame t l (detectorItemId i) v)
  | .configWriteRetrievalItem p t l i v => some (some .configWrite, p, configFrame t l (retrievalItemId i) v)
  | .configWriteUnknownItem p tag len item v => some (some .configWrite, p, unknownItemFrame tag len item v)
  | .configRead p m => some (some .configRead, p, m)
  | .indexImportBegin p m => some (some .indexImportBegin, p, m)
  | .indexImportEntry p m => some (some .indexImportEntry, p, m)
  | .indexImportEnd p m => some (some .indexImportEnd, p, m)
  | .indexClose p m => some (some .indexClose, p, m)
  | .indexReopen p m => some (some .indexReopen, p, m)
  | .filmPresentChange _ _ => none
  | .encoderPhaseChange _ _ => none
  | .encoderUnsettledExpiry => none
  | .splicePulse => none
  | .profileStep _ => none
  | .seekTimeout => none
  | .hunting => none
  | .driveFault => none
  | .retensioningEnd => none
  | .parkTimeout => none
  | .slotDueTime _ => none
  | .preInitWaitEnd _ => none
  | .postInitWaitEnd _ => none
  | .busAttemptEnd _ => none
  | .sclHoldTimeout => none
  | .segmentComplete _ => none
  | .blipStartEdge => none
  | .blipEndEdge => none
  | .lensStepDue => none
  | .lensSettleEnd => none
  | .homingStep _ => none
  | .homingStepLimit => none
  | .deferralExpiry _ => none
  | .holdTimeout => none
  | .monitorByteReceived _ => none

/-! ### Nothing left to do -/

/-- No block has anything left to do: no reaction has its condition, and the park timer is 0 while it may not run (DESIGN CHOICE, log
entry 7). -/
def Settled (d : Dev) : Prop := reaction d = none ∧ stopParkTimer d = d

/-! ### The halted transport -/

/-- The transport is HALTED with a cause: demand 0, drive off, tension RELEASE, no order, no held order, no grant, and the line trigger
generator not armed (R41). -/
def InHalt (cause : HaltCause) (d : Dev) : Prop :=
  d.transport.motion = .halted ∧ d.transport.haltCause = some cause ∧ d.transport.demand = 0
    ∧ d.transport.driveEnable = false ∧ d.transport.tension = .release ∧ d.transport.current = none
    ∧ d.transport.held = none ∧ d.transport.grant = .nobody ∧ d.trigger.arm = none

/-- An event flag is set at a port. -/
def eventSet (d : Dev) (port : PortId) (k : EventKind) : Prop := hasEvent (d.ports.get port).flags k = true

/-! ### The well-kept device -/

/-- A port's event flags and mask lie within its list, and it holds a response exactly while READY (R184, R187, R188). -/
def portKept (id : PortId) (p : Port) : Prop :=
  p.flags &&& ~~~(portKinds id) = 0 ∧ p.mask &&& ~~~(portKinds id) = 0 ∧ (p.state = .ready ↔ p.response.isSome = true)

/-- What every step keeps: the script memory in canonical form, the counter a signed 32-bit number (R9), the datum flag set exactly in
READY and RUNOUT (Table 1-2), the capacities of the splice list (R15), the pending mark list (R119) and the hint list (R178), the
ranges of the run number counter (R142) and the ticket counter (R163), and the ports. -/
def wellKept (d : Dev) : Prop :=
  Memory.wf d.guard.script = true
    ∧ (Config.minPosition ≤ d.metering.counter ∧ d.metering.counter ≤ Config.maxPosition)
    ∧ d.roll.datum = (d.roll.state == .ready || d.roll.state == .runout)
    ∧ d.roll.splices.length ≤ Config.spliceCapacity
    ∧ d.detector.marks.length ≤ Config.markCapacity
    ∧ d.retrieval.hints.length ≤ Config.hintCapacity
    ∧ (1 ≤ d.scan.runCounter ∧ d.scan.runCounter ≤ 254)
    ∧ (1 ≤ d.retrieval.ticketCounter ∧ d.retrieval.ticketCounter ≤ 255)
    ∧ (∀ id, portKept id (d.ports.get id))

/-! ### Configuration -/

/-- The configuration of every block: what CONFIG_WRITE, SLOT_CONFIG and SCRIPT_WRITE write. -/
structure Configuration where
  roll : RollConfig
  transport : TransportConfig
  busSpeed : Nat
  combineMode : CombineMode
  script : List Host.Cell
  slots : List SlotRecord
  maxRate : Nat
  tapMap : TapMap
  stride : Nat
  focus : FocusConfig
  detector : DetectorConfig
  retrieval : RetrievalConfig
  deriving DecidableEq, Repr

/-- The configuration that a device holds. -/
def configuration (d : Dev) : Configuration where
  roll := d.roll.cfg
  transport := d.transport.cfg
  busSpeed := d.guard.busSpeed
  combineMode := d.guard.combineMode
  script := d.guard.script
  slots := [d.guard.slot0.record, d.guard.slot1.record, d.guard.slot2.record, d.guard.slot3.record]
  maxRate := d.lines.maxRate
  tapMap := d.lines.tapMap
  stride := d.lines.stride
  focus := d.focus.cfg
  detector := d.detector.cfg
  retrieval := d.retrieval.cfg

/-- The commands that may change the configuration: pin reset, the writes of configuration items, of slot records and of script memory,
and DECLARE_ROLL, which writes the maximum frame length (R2). -/
def writesConfiguration : Instr → Bool
  | .pinReset _ => true
  | .declareRoll _ _ => true
  | .slotConfigEnable _ _ => true
  | .slotConfigDisable _ _ => true
  | .scriptWrite _ _ => true
  | .configWriteRollItem _ _ _ _ _ => true
  | .configWriteTransportItem _ _ _ _ _ => true
  | .configWriteBusSpeed _ _ _ _ => true
  | .configWriteCombineMode _ _ _ _ => true
  | .configWriteLineRate _ _ _ _ => true
  | .configWriteTapMap _ _ _ _ => true
  | .configWriteStride _ _ _ _ => true
  | .configWriteFocusItem _ _ _ _ _ => true
  | .configWriteDetectorItem _ _ _ _ _ => true
  | .configWriteRetrievalItem _ _ _ _ _ => true
  | _ => false

end Sys2Proof.Machine
end

