-- ==== Sys2Proof/Certificates/Slice0/Obligations.lean ====
section
/-! DEFINITION. The statements for the provers. A request is written as the frame `requestFrame tag p x` with payload `p` and surplus
bytes `x`; `heard` is the device as the owning block finds it, and `answers` the state in which the port holds the answer. Where a
command brings about reactions of other blocks in the same step, the statement gives the device after the command's own effect under
`settle` (log entry 7), or assumes `Settled` and gives the device itself. -/

open Sys2Proof Sys2Proof.Machine

/-! ### Steps and the queue -/

/-- A step runs the command at the front of the queue with the queue's rest. -/
def Obligations.StepRunsFrontCommand : Prop :=
  ∀ (c : Instr) (rest : List Instr) (s : State), s.pending = c :: rest → step s = exec c { s with pending := rest }

/-- An empty queue idles the block (the model's choice, log entry 1); every command has an effect in every state, and none touches the
queue of waiting commands. -/
def Obligations.QueueDiscipline : Prop :=
  (∀ s : State, s.pending = [] → step s = .next s)
  ∧ (∀ (c : Instr) (s : State), ∃ t, exec c s = .next t ∧ t.pending = s.pending)

/-! ### Resets -/

/-- PIN_RESET gives each block the values listed here, from its table of reset values (Tables 1-5, 2-6, 3-5, 4-4, 5-4, 6-6, 7-4, 8-6,
9-5, 10-5), with the film and encoder levels sampled at the release of RESET_N. -/
def Obligations.PinResetGivesResetValues : Prop :=
  ∀ (l : ReleaseLevels) (s : State), ∃ t, exec (.pinReset l) s = .next t ∧ t.pending = s.pending
    ∧ (t.dev.roll.record = none ∧ t.dev.roll.state = .noRoll ∧ t.dev.roll.datum = false ∧ t.dev.roll.tail = none
      ∧ t.dev.roll.splices = [] ∧ t.dev.roll.pendingCorrection = none ∧ t.dev.roll.lastCorrection = 0
      ∧ t.dev.roll.filmPresent = l.filmPresent)
    ∧ (t.dev.metering.counter = 0 ∧ t.dev.metering.phaseA = l.encA ∧ t.dev.metering.phaseB = l.encB
      ∧ t.dev.metering.unsettled = false)
    ∧ (t.dev.transport.motion = .idle ∧ t.dev.transport.haltCause = none ∧ t.dev.transport.tension = .release
      ∧ t.dev.transport.driveEnable = false ∧ t.dev.transport.demand = 0 ∧ t.dev.transport.lastDirection = .forward
      ∧ t.dev.transport.grant = .nobody ∧ t.dev.transport.current = none ∧ t.dev.transport.held = none
      ∧ t.dev.transport.stopReason = none ∧ t.dev.transport.parkTimer = 0 ∧ t.dev.transport.serviceOutcome = none)
    ∧ ((∀ n, (t.dev.guard.get n).state = .off ∧ (t.dev.guard.get n).trip = .clear ∧ (t.dev.guard.get n).lastSample = none
        ∧ (t.dev.guard.get n).record = SlotRecord.default ∧ sensorEnable (t.dev.guard.get n) = false)
      ∧ t.dev.guard.bus = none ∧ (∀ a, Memory.read t.dev.guard.script a = 0) ∧ t.dev.guard.stopCondition = false
      ∧ t.dev.guard.suspectLatch = false ∧ t.dev.guard.busSpeed = 100 ∧ t.dev.guard.combineMode = .any)
    ∧ (t.dev.trigger.arm = none ∧ t.dev.trigger.lineCounter = 0 ∧ t.dev.lines.expected = none ∧ t.dev.lines.last = none
      ∧ t.dev.lines.maxRate = 40000 ∧ t.dev.lines.stride = 1)
    ∧ (t.dev.focus.lens.state = .unhomed ∧ t.dev.focus.lens.step = 0 ∧ t.dev.focus.search = none ∧ t.dev.focus.track = none
      ∧ t.dev.focus.outcome = .none ∧ t.dev.focus.bestScore = none)
    ∧ (t.dev.detector.activity = .idle ∧ t.dev.detector.gapState = .unknown ∧ t.dev.detector.marks = []
      ∧ t.dev.detector.openFrame = none ∧ t.dev.detector.counters = { batch := 0, doc := 0, page := 0 })
    ∧ (t.dev.index.entries = [] ∧ t.dev.index.state = .empty ∧ t.dev.index.closeCause = none ∧ t.dev.index.session = none)
    ∧ (t.dev.scan.run = none ∧ t.dev.scan.runCounter = 1 ∧ t.dev.scan.notices = [] ∧ t.dev.scan.backlog = false
      ∧ t.dev.scan.gate = false)
    ∧ (t.dev.retrieval.queue = [] ∧ t.dev.retrieval.completions = [] ∧ t.dev.retrieval.hints = []
      ∧ t.dev.retrieval.ticketCounter = 1 ∧ t.dev.retrieval.hold = none ∧ t.dev.retrieval.attempt = none)
    ∧ (∀ port, (t.dev.ports.get port).state = .idle ∧ (t.dev.ports.get port).flags = 0
      ∧ (t.dev.ports.get port).mask = portKinds port ∧ (t.dev.ports.get port).resetIndication = true)

/-- SOFT_RESET is answered OK in every state and waits: everything else is left as it was. -/
def Obligations.SoftResetWaitsForItsFetch : Prop :=
  ∀ (s : State) (tag : Byte) (p x : List Byte), takes s .service p →
    exec (.softReset .service (requestFrame tag p x)) s
      = .next (answers s .service tag .ok []
          ((heard .service (requestFrame tag p x) s).setPorts
            { (heard .service (requestFrame tag p x) s).ports with softResetPending := true }))

/-- The FETCH that takes the response of SOFT_RESET brings the reset about: the transport HALTED with cause RESET, the run NONE, the
queues and the index empty, a lens in motion UNHOMED, and the counter, the script memory, the masks and the configuration kept. -/
def Obligations.SoftResetTakesEffectAtFetch : Prop :=
  ∀ (s : State) (r : Response) (mosi : List Byte), (s.dev.ports.get .service).state = .ready →
    (s.dev.ports.get .service).response = some r → s.dev.ports.softResetPending = true → 2 ≤ mosi.length →
    ∃ t, exec (.fetch .service mosi) s = .next t ∧ t.pending = s.pending
      ∧ InHalt .reset t.dev ∧ t.dev.transport.serviceOutcome = none ∧ t.dev.transport.lastDirection = .forward
      ∧ (t.dev.roll.state = if s.dev.roll.record.isSome ∧ s.dev.roll.filmPresent = true then .threaded else .noRoll)
      ∧ t.dev.roll.datum = false ∧ t.dev.roll.tail = none ∧ t.dev.roll.splices = [] ∧ t.dev.roll.pendingCorrection = none
      ∧ t.dev.metering = s.dev.metering ∧ t.dev.scan.run = none ∧ t.dev.scan.notices = [] ∧ t.dev.scan.gate = false
      ∧ t.dev.index.entries = [] ∧ t.dev.index.state = .empty ∧ t.dev.index.session = none
      ∧ t.dev.retrieval.queue = [] ∧ t.dev.retrieval.completions = [] ∧ t.dev.retrieval.hints = []
      ∧ t.dev.retrieval.hold = none ∧ t.dev.retrieval.attempt = none
      ∧ (t.dev.focus.lens.state
          = if s.dev.focus.lens.state = .moving ∨ s.dev.focus.lens.state = .homing then .unhomed else s.dev.focus.lens.state)
      ∧ t.dev.focus.search = none ∧ t.dev.focus.track = none ∧ t.dev.lines.expected = none
      ∧ t.dev.detector.activity = .idle ∧ t.dev.detector.marks = []
      ∧ (∀ n, (t.dev.guard.get n).record = (s.dev.guard.get n).record
        ∧ ((t.dev.guard.get n).state = if (s.dev.guard.get n).state = .off then .off else .init))
      ∧ t.dev.guard.stopCondition = false ∧ t.dev.guard.suspectLatch = false
      ∧ (∀ port, (t.dev.ports.get port).state = .idle ∧ (t.dev.ports.get port).response = none
        ∧ (t.dev.ports.get port).flags = 0 ∧ (t.dev.ports.get port).resetIndication = true
        ∧ (t.dev.ports.get port).mask = (s.dev.ports.get port).mask)
      ∧ t.dev.ports.softResetPending = false ∧ configuration t.dev = configuration s.dev

/-! ### The ports -/

/-- The codes that each port is permitted to carry, in the order of Table 11-2. -/
def Obligations.PortsCarryTheirRequests : Prop :=
  ((allRequests.filter (permitted · .capture)).map requestCode
      = [0x01, 0x02, 0x03, 0x04, 0x05, 0x06, 0x10, 0x11, 0x12, 0x13, 0x14])
    ∧ ((allRequests.filter (permitted · .request)).map requestCode
      = [0x01, 0x02, 0x03, 0x04, 0x05, 0x06, 0x20, 0x21, 0x22, 0x23, 0x24, 0x25])
    ∧ ((allRequests.filter (permitted · .service)).map requestCode
      = [0x01, 0x02, 0x03, 0x04, 0x05, 0x06, 0x13, 0x30, 0x31, 0x32, 0x40, 0x41, 0x42, 0x43, 0x44, 0x50, 0x51, 0x52, 0x60, 0x61,
         0x62, 0x63, 0x64, 0x70, 0x71, 0x80, 0x81, 0x82, 0x83, 0x84, 0xF0])

/-- A port that is not IDLE ignores every request but FETCH, and every port ignores a transaction of fewer than 3 whole bytes: only
the status byte and FFh bytes are shifted out. -/
def Obligations.IgnoredTransactions : Prop :=
  (∀ (c : Instr) (r : Option Request) (port : PortId) (mosi : List Byte) (s : State),
    requestOfCommand c = some (r, port, mosi) → (s.dev.ports.get port).state ≠ .idle →
    exec c s = .next (s.setDev (shiftOut port mosi [] s.dev)))
  ∧ (∀ (c : Instr) (r : Option Request) (port : PortId) (mosi : List Byte) (s : State),
    requestOfCommand c = some (r, port, mosi) → mosi.length < 2 → exec c s = .next (s.setDev (shiftOut port mosi [] s.dev)))

/-- An IDLE port answers BAD_LENGTH to a frame whose length byte is above 60 or whose bytes are too few, UNKNOWN to a code that names
no request, and DENIED to a request that it does not carry; nothing else changes. -/
def Obligations.FramesAreCheckedFirst : Prop :=
  (∀ (c : Instr) (r : Option Request) (port : PortId) (tag len : Byte) (rest : List Byte) (s : State),
    requestOfCommand c = some (r, port, tag :: len :: rest) → (s.dev.ports.get port).state = .idle →
    60 < len.toNat ∨ rest.length < len.toNat →
    exec c s = .next (answers s port tag .badLength [] (heard port (tag :: len :: rest) s)))
  ∧ (∀ (s : State) (port : PortId) (code tag : Byte) (p x : List Byte), takes s port p → codeNamesRequest code = false →
    exec (.unknownCodeFrame port code (requestFrame tag p x)) s
      = .next (answers s port tag .unknown [] (heard port (requestFrame tag p x) s)))
  ∧ (∀ (c : Instr) (r : Request) (port : PortId) (tag len : Byte) (rest : List Byte) (s : State),
    requestOfCommand c = some (some r, port, tag :: len :: rest) → (s.dev.ports.get port).state = .idle →
    len.toNat ≤ 60 → len.toNat ≤ rest.length → permitted r port = false →
    exec c s = .next (answers s port tag .denied [] (heard port (tag :: len :: rest) s)))

/-- FETCH at a READY port shifts out the status byte, tag, result, length and payload, then FFh, and the port becomes IDLE; nothing else
changes. A transaction of fewer than 3 whole bytes, or one at a port that is not READY, leaves the port as it is. -/
def Obligations.FetchHandsOutTheResponse : Prop :=
  ∀ (s : State) (port : PortId) (mosi : List Byte),
    (∀ r, (s.dev.ports.get port).state = .ready → (s.dev.ports.get port).response = some r → 2 ≤ mosi.length →
      ¬ (port = .service ∧ s.dev.ports.softResetPending = true) →
      exec (.fetch port mosi) s = .next (s.setDev (setPort port
        { s.dev.ports.get port with
          state := .idle
          response := none
          miso := statusByte port (s.dev.ports.get port)
            :: ((r.tag :: BitVec.ofNat 8 (resultCode r.result) :: BitVec.ofNat 8 r.payload.length :: r.payload).take mosi.length
              ++ List.replicate (mosi.length - (3 + r.payload.length)) 0xFF) } s.dev)))
    ∧ (∀ r, (s.dev.ports.get port).state = .ready → (s.dev.ports.get port).response = some r → mosi.length < 2 →
      ∃ m, exec (.fetch port mosi) s = .next (s.setDev (setPort port { s.dev.ports.get port with miso := m } s.dev)))
    ∧ ((s.dev.ports.get port).state ≠ .ready →
      exec (.fetch port mosi) s = .next (s.setDev (setPort port
        { s.dev.ports.get port with
          miso := statusByte port (s.dev.ports.get port) :: List.replicate mosi.length 0xFF } s.dev)))

/-- The status byte: port state, attention, events pending, reset indication, port number. -/
def Obligations.StatusByteTellsThePort : Prop :=
  ∀ (id : PortId) (p : Port),
    (statusByte id p).toNat % 4 = (match p.state with
      | .idle => 0
      | .busy => 1
      | .ready => 2)
    ∧ ((statusByte id p).getLsbD 2 = true ↔ p.state = .ready ∨ p.flags &&& p.mask ≠ 0)
    ∧ ((statusByte id p).getLsbD 3 = true ↔ p.flags ≠ 0)
    ∧ ((statusByte id p).getLsbD 4 = p.resetIndication)
    ∧ (statusByte id p).toNat / 32 = (match id with
      | .capture => 1
      | .request => 2
      | .service => 3)

/-- ACK_EVENTS clears the named flags of the port's list but for a level flag whose condition holds, clears the reset indication, and
answers the flags that remain. EVENT_MASK stores the set restricted to the port's list and answers it; the flags are unchanged. -/
def Obligations.EventsAreAcknowledgedAndMasked : Prop :=
  (∀ (s : State) (port : PortId) (tag : Byte) (p x : List Byte), takes s port p → 2 ≤ p.length →
    ∃ flags : BitVec 16,
      exec (.ackEvents port (requestFrame tag p x)) s
        = .next (answers s port tag .ok (leBytes 2 flags.toNat)
            (setPort port
              { (heard port (requestFrame tag p x) s).ports.get port with flags := flags, resetIndication := false }
              (heard port (requestFrame tag p x) s)))
      ∧ ∀ k, hasEvent flags k = true ↔
          (hasEvent (s.dev.ports.get port).flags k = true ∧ (natAt p 0 2).testBit (eventIndex k) = false)
          ∨ ((natAt p 0 2).testBit (eventIndex k) = true
            ∧ ((port = .capture ∧ k = .notice ∧ s.dev.scan.notices ≠ [])
              ∨ (port = .request ∧ k = .done ∧ s.dev.retrieval.completions ≠ []))))
  ∧ (∀ (s : State) (port : PortId) (tag : Byte) (p x : List Byte), takes s port p → 2 ≤ p.length →
    ∃ mask : BitVec 16,
      exec (.eventMask port (requestFrame tag p x)) s
        = .next (answers s port tag .ok (leBytes 2 mask.toNat)
            (setPort port { (heard port (requestFrame tag p x) s).ports.get port with mask := mask }
              (heard port (requestFrame tag p x) s)))
      ∧ ∀ i, mask.getLsbD i = ((natAt p 0 2).testBit i && (portKinds port).getLsbD i))

/-- The requests that are answered from state change nothing: STATUS, IDENTIFY, INDEX_READ, INDEX_FIND, SLOT_READ, SCRIPT_READ and
CONFIG_READ, with what each answers. The STATUS record has its 31 bytes at the offsets of section 11.4, with the codes of Table 11-4 and
absent fields as all ones, and SLOT_READ answers the slot number, the stored record, the slot state, the trip status, the run count and
the last sample, 31 bytes in all. INDEX_READ answers BAD_VALUE to a count other than 1 and 2 and NOT_FOUND beyond the table,
INDEX_FIND answers NOT_FOUND when no entry reached by a mark has the address. -/
def Obligations.ReadsAnswerFromState : Prop :=
  ∀ (s : State) (port : PortId) (tag : Byte) (p x : List Byte), takes s port p →
    (exec (.statusRequest port (requestFrame tag p x)) s
      = .next (answers s port tag .ok (statusRecord s.dev) (heard port (requestFrame tag p x) s)))
    ∧ (let d := s.dev
       let holds := fun (offset : Nat) (bytes : List Byte) => ((statusRecord d).drop offset).take bytes.length = bytes
       (statusRecord d).length = 31
       ∧ holds 0 (leBytes 1 (rollStateCode d.roll.state)) ∧ holds 1 [if d.roll.datum = true then 1 else 0]
       ∧ holds 2 (leSigned 4 d.metering.counter) ∧ holds 6 (leSigned 2 d.roll.lastCorrection)
       ∧ holds 8 (leBytes 1 (motionStateCode d.transport.motion))
       ∧ (∀ c, d.transport.motion = .halted → d.transport.haltCause = some c → holds 9 (leBytes 1 (haltCauseCode c)))
       ∧ (∀ o, d.transport.motion ≠ .halted → d.transport.serviceOutcome = some o → holds 9 (leBytes 1 (outcomeCode o)))
       ∧ (d.transport.motion ≠ .halted → d.transport.serviceOutcome = none → holds 9 [0])
       ∧ holds 10 (leBytes 1 (ownerCode d.transport.grant)) ∧ holds 11 (leBytes 1 (runStateCode (d.scan.run.map (·.state))))
       ∧ (∀ r c, d.scan.run = some r → r.cause = some c → holds 12 (leBytes 1 (runCauseCode c)))
       ∧ ((∀ r, d.scan.run = some r → r.cause = none) → holds 12 [0xFF])
       ∧ holds 13 (leBytes 1 (indexStateCode d.index.state))
       ∧ (∀ c, d.index.closeCause = some c → holds 14 (leBytes 1 (closeCauseCode c)))
       ∧ (d.index.closeCause = none → holds 14 [0xFF])
       ∧ holds 15 (leBytes 2 d.index.entries.length) ∧ holds 17 (leBytes 1 d.retrieval.queue.length)
       ∧ holds 18 (leBytes 1 d.retrieval.completions.length) ∧ holds 19 (leBytes 1 (lensStateCode d.focus.lens.state))
       ∧ holds 20 (leBytes 2 d.focus.lens.step) ∧ holds 22 (leBytes 1 (focusOutcomeCode d.focus.outcome))
       ∧ (∀ b, d.focus.bestScore = some b → holds 23 (leBytes 4 b))
       ∧ (d.focus.bestScore = none → holds 23 [0xFF, 0xFF, 0xFF, 0xFF])
       ∧ ∀ n : Fin 4, holds (27 + n.val)
           (leBytes 1 (slotStateCode (d.guard.get n).state + if (d.guard.get n).trip = .tripped then 16 else 0)))
    ∧ ([RollState.noRoll, .threaded, .ready, .runout].map rollStateCode = List.range 4
      ∧ [MotionState.idle, .parked, .retensioning, .jog, .seek, .creep, .scan, .stopping, .halted].map motionStateCode = List.range 9
      ∧ [OrderOutcome.arrived, .stopped, .atLimit, .failed .timeout, .failed .hunting, .failed .limit, .failed .halted,
          .failed .driveNotReady, .failed .notOwner].map outcomeCode = (List.range 9).map (· + 1)
      ∧ [HaltCause.drive, .encoder, .guardStop, .filmLost, .halt, .reset].map haltCauseCode = (List.range 6).map (· + 10)
      ∧ [Owner.nobody, .scan, .retrieval, .service].map ownerCode = List.range 4
      ∧ (none :: [RunState.queued, .preparing, .running, .suspending, .suspended, .ending, .ended].map some).map runStateCode
        = List.range 8
      ∧ [RunCause.yield, .backlog, .pause, .fault, .complete, .rollEnd, .limit, .aborted, .rollReleased].map runCauseCode
        = List.range 9
      ∧ [IndexState.empty, .open_, .imported, .closed].map indexStateCode = List.range 4
      ∧ [CloseCause.full, .rollEnd, .request].map closeCauseCode = List.range 3
      ∧ [LensState.unhomed, .homing, .idle, .moving, .fault].map lensStateCode = List.range 5
      ∧ [FocusOutcome.none, .focused, .focusFailed, .abandoned, .trackLost].map focusOutcomeCode = List.range 5
      ∧ [SlotState.off, .init, .settle, .polling, .faulted].map slotStateCode = List.range 5)
    ∧ (exec (.identify port (requestFrame tag p x)) s
      = .next (answers s port tag .ok [0x17, 0x3A, 0x18, 0x10, 0x41] (heard port (requestFrame tag p x) s)))
    ∧ (∀ n c, 3 ≤ p.length → natAt p 0 2 = n → natAt p 2 1 = c → 1 ≤ c → c ≤ 2 → n < s.dev.index.entries.length →
      exec (.indexRead port (requestFrame tag p x)) s
        = .next (answers s port tag .ok
            (leBytes 1 (indexStateCode s.dev.index.state) ++ leBytes 2 s.dev.index.entries.length
              ++ entriesBytes n ((s.dev.index.entries.drop n).take c)) (heard port (requestFrame tag p x) s)))
    ∧ (3 ≤ p.length → natAt p 2 1 < 1 ∨ 2 < natAt p 2 1 →
      exec (.indexRead port (requestFrame tag p x)) s
        = .next (answers s port tag .badValue [] (heard port (requestFrame tag p x) s)))
    ∧ (3 ≤ p.length → 1 ≤ natAt p 2 1 → natAt p 2 1 ≤ 2 → s.dev.index.entries.length ≤ natAt p 0 2 →
      exec (.indexRead port (requestFrame tag p x)) s
        = .next (answers s port tag .notFound [] (heard port (requestFrame tag p x) s)))
    ∧ (port = .request → 6 ≤ p.length →
      (∀ e ∈ s.dev.index.entries, 0 < e.markLevel →
        e.address ≠ { batch := natAt p 0 2, doc := natAt p 2 2, page := natAt p 4 2 }) →
      exec (.indexFind port (requestFrame tag p x)) s
        = .next (answers s port tag .notFound [] (heard port (requestFrame tag p x) s)))
    ∧ (∀ n e, port = .request → 6 ≤ p.length →
      s.dev.index.entries[n]? = some e → 0 < e.markLevel
        → e.address = { batch := natAt p 0 2, doc := natAt p 2 2, page := natAt p 4 2 } →
      (∀ k f, k < n → s.dev.index.entries[k]? = some f → 0 < f.markLevel → f.address ≠ e.address) →
      exec (.indexFind port (requestFrame tag p x)) s
        = .next (answers s port tag .ok (entryBytes n e) (heard port (requestFrame tag p x) s)))
    ∧ (∀ n : Fin 4, port = .service → 1 ≤ p.length → natAt p 0 1 = n.val →
      exec (.slotRead port (requestFrame tag p x)) s
        = .next (answers s port tag .ok (slotReadBytes n (s.dev.guard.get n)) (heard port (requestFrame tag p x) s)))
    ∧ (∀ (n : Fin 4) (g : GuardSlot),
      let holds := fun (offset : Nat) (bytes : List Byte) => ((slotReadBytes n g).drop offset).take bytes.length = bytes
      (slotReadBytes n g).length = 31 ∧ holds 0 [BitVec.ofNat 8 n.val] ∧ holds 1 (slotRecordBytes g.record)
        ∧ holds 24 (leBytes 1 (slotStateCode g.state)) ∧ holds 25 [if g.trip = .tripped then 1 else 0]
        ∧ holds 26 (leBytes 1 g.runCount) ∧ (∀ v, g.lastSample = some v → holds 27 (leSigned 2 v ++ [0, 0]))
        ∧ (g.lastSample = none → holds 27 [0xFF, 0xFF, 0xFF, 0xFF]))
    ∧ (∀ offset c, port = .service → 2 ≤ p.length → natAt p 0 1 = offset → natAt p 1 1 = c → 1 ≤ c → c ≤ 56 →
      exec (.scriptRead port (requestFrame tag p x)) s
        = .next (answers s port tag .ok ((List.range c).map fun j => Memory.read s.dev.guard.script ((offset + j) % 256))
            (heard port (requestFrame tag p x) s)))
    ∧ (∀ b c, port = .service → p.head? = some b → configItemOf b = some c →
      exec (.configRead port (requestFrame tag p x)) s
        = .next (answers s port tag .ok (b :: configBytes s.dev c) (heard port (requestFrame tag p x) s)))

/-! ### The roll and its position -/

/-- DECLARE_ROLL in NO_ROLL with film present writes the record, THREADED, the empty splice list and the maximum frame length, raises
ROLL at the Request and Service ports, and leaves the counter; in another roll state, or with film absent, it is refused with STATE,
and a field out of its range with BAD_VALUE. -/
def Obligations.DeclareRollMakesTheRoll : Prop :=
  ∀ (s : State) (tag : Byte) (p x : List Byte) (pol : Polarity), takes s .service p → p.length = 8 ∨ 14 ≤ p.length →
    let d := heard .service (requestFrame tag p x) s
    let record : RollRecord :=
      { ident := natAt p 0 4, polarity := pol, pitch := natAt p 5 2, tolerance := natAt p 7 1
        base := if p.length = 8 then { batch := 0, doc := 0, page := 0 }
          else { batch := natAt p 8 2, doc := natAt p 10 2, page := natAt p 12 2 } }
    (s.dev.roll.state = .noRoll → s.dev.roll.filmPresent = true → Settled s.dev → polarityOf (natAt p 4 1) = some pol →
      natAt p 0 4 ≠ 0 → 1000 ≤ natAt p 5 2 → natAt p 5 2 ≤ 60000 → 1 ≤ natAt p 7 1 → natAt p 7 1 ≤ 50 →
      exec (.declareRoll .service (requestFrame tag p x)) s
        = .next (answers s .service tag .ok []
            (raise .service .roll (raise .request .roll
              ((d.setRoll
                { d.roll with
                  record := some record, state := .threaded, datum := false, tail := none, splices := []
                  pendingCorrection := none, lastCorrection := 0 }).setDetector
                { d.detector with cfg := { d.detector.cfg with maxFrame := 3 * natAt p 5 2 } })))))
    ∧ (s.dev.roll.state = .noRoll → s.dev.roll.filmPresent = true →
      polarityOf (natAt p 4 1) = none ∨ natAt p 0 4 = 0 ∨ natAt p 5 2 < 1000 ∨ 60000 < natAt p 5 2 ∨ natAt p 7 1 < 1
        ∨ 50 < natAt p 7 1 →
      exec (.declareRoll .service (requestFrame tag p x)) s = .next (answers s .service tag .badValue [] d))
    ∧ (s.dev.roll.state ≠ .noRoll ∨ s.dev.roll.filmPresent = false →
      exec (.declareRoll .service (requestFrame tag p x)) s = .next (answers s .service tag .state [] d))

/-- RELEASE_ROLL is answered OK in NO_ROLL with no change and is refused with STATE while the film moves or a run is active; taken, it
leaves no record, no splices, no tail, no request, no index entry, and the state NO_ROLL. Every request of the queue leaves with
one completion record ROLL_RELEASED, in order of arrival. -/
def Obligations.ReleaseRollClearsTheRoll : Prop :=
  (∀ (s : State) (tag : Byte) (p x : List Byte), takes s .service p →
    let d := heard .service (requestFrame tag p x) s
    let moving := s.dev.transport.motion = .jog ∨ s.dev.transport.motion = .seek ∨ s.dev.transport.motion = .creep
      ∨ s.dev.transport.motion = .scan ∨ s.dev.transport.motion = .stopping ∨ s.dev.transport.motion = .retensioning
    let active := runIn s.dev [.queued, .preparing, .running, .suspending, .ending] = true
    (moving ∨ active →
      exec (.releaseRoll .service (requestFrame tag p x)) s = .next (answers s .service tag .state [] d))
    ∧ (¬ moving → ¬ active → s.dev.roll.state = .noRoll →
      exec (.releaseRoll .service (requestFrame tag p x)) s = .next (answers s .service tag .ok [] d))
    ∧ (¬ moving → ¬ active → s.dev.roll.state ≠ .noRoll → Settled s.dev →
      ∃ t, exec (.releaseRoll .service (requestFrame tag p x)) s = .next t ∧ t.pending = s.pending
        ∧ (t.dev.ports.get .service).response = some { tag := tag, result := .ok, payload := [] }
        ∧ t.dev.roll.record = none ∧ t.dev.roll.state = .noRoll ∧ t.dev.roll.datum = false ∧ t.dev.roll.splices = []
        ∧ t.dev.roll.tail = none ∧ t.dev.index.entries = [] ∧ t.dev.index.state = .empty ∧ t.dev.index.session = none
        ∧ t.dev.retrieval.queue = [] ∧ t.dev.retrieval.hints = [] ∧ t.dev.retrieval.hold = none
        ∧ eventSet t.dev .request .roll ∧ eventSet t.dev .service .roll))
  ∧ (∀ d : Dev, ∃ cs : List Completion,
      (releaseRequests d.retrieval.queue d).retrieval.completions = d.retrieval.completions ++ cs
      ∧ cs.map (·.ticket) = d.retrieval.queue.map (·.ticket) ∧ (∀ c ∈ cs, c.result = .rollReleased)
      ∧ (releaseRequests d.retrieval.queue d).retrieval.queue = [])

/-- SET_DATUM is refused with STATE in NO_ROLL, outside IDLE and PARKED and while the grant is held, and with BAD_VALUE outside its
range. Taken, it sets the counter and the datum flag; THREADED becomes READY with the ROLL event and the held positions stay, and over
an existing datum the tail, the splices and the resume point of the run move by v − p, saturating. -/
def Obligations.SetDatumSetsTheCounter : Prop :=
  ∀ (s : State) (tag : Byte) (p x : List Byte) (v : Int), takes s .service p →
    (p = [] ∧ v = 0) ∨ (4 ≤ p.length ∧ v = intAt p 0 4) →
    let d := heard .service (requestFrame tag p x) s
    let allowed := s.dev.roll.state ≠ .noRoll ∧ (s.dev.transport.motion = .idle ∨ s.dev.transport.motion = .parked)
      ∧ s.dev.transport.grant = .nobody
    let moved := fun (t : Int) => max (-2147483648) (min 2147483647 (t + (v - s.dev.metering.counter)))
    (¬ allowed → exec (.setDatum .service (requestFrame tag p x)) s = .next (answers s .service tag .state [] d))
    ∧ (allowed → v < -2000000 ∨ 80000000 < v →
      exec (.setDatum .service (requestFrame tag p x)) s = .next (answers s .service tag .badValue [] d))
    ∧ (allowed → -2000000 ≤ v → v ≤ 80000000 → s.dev.roll.state = .threaded → s.dev.roll.datum = false →
      exec (.setDatum .service (requestFrame tag p x)) s
        = .next (answers s .service tag .ok []
            (settle (raise .service .roll (raise .request .roll
              ((d.setMetering { d.metering with counter := v }).setRoll { d.roll with state := .ready, datum := true }))))))
    ∧ (allowed → -2000000 ≤ v → v ≤ 80000000 → s.dev.roll.state ≠ .threaded → s.dev.roll.datum = true → Settled s.dev →
      exec (.setDatum .service (requestFrame tag p x)) s
        = .next (answers s .service tag .ok []
            (((d.setMetering { d.metering with counter := v }).setRoll
              { d.roll with tail := d.roll.tail.map moved, splices := d.roll.splices.map moved }).setScan
              { d.scan with run := d.scan.run.map fun r =>
                { r with resume := r.resume.map fun q => { q with position := moved q.position } } })))

/-- One phase change in the forward cycle adds 1 to the counter and one in reverse subtracts 1, saturating at the signed 32-bit
extremes; with no trigger arm, no search and no scan order, nothing else changes. An illegal phase change makes the encoder unsettled
until 100 ms after it, also when it is so already; the condition ends when they have passed, and not before. -/
def Obligations.EncoderCountsAndSettles : Prop :=
  (∀ (s : State) (a b : Bool), s.dev.trigger.arm = none → s.dev.focus.search = none →
    (∀ c start v pitch line stop, s.dev.transport.current = some c → c.order.kind ≠ .scan start v pitch line stop) →
    Settled s.dev →
    let p := s.dev.metering.counter
    let phase := (s.dev.metering.phaseA, s.dev.metering.phaseB)
    (((phase, (a, b)) ∈ [((false, false), (true, false)), ((true, false), (true, true)), ((true, true), (false, true)),
        ((false, true), (false, false))] →
      exec (.encoderPhaseChange a b) s
        = .next (s.setDev (s.dev.setMetering
            { s.dev.metering with phaseA := a, phaseB := b, counter := max (-2147483648) (min 2147483647 (p + 1)) })))
    ∧ ((phase, (a, b)) ∈ [((false, false), (false, true)), ((false, true), (true, true)), ((true, true), (true, false)),
        ((true, false), (false, false))] →
      exec (.encoderPhaseChange a b) s
        = .next (s.setDev (s.dev.setMetering
            { s.dev.metering with phaseA := a, phaseB := b, counter := max (-2147483648) (min 2147483647 (p - 1)) })))))
  ∧ (∀ s : State,
    (∀ a b, a ≠ s.dev.metering.phaseA → b ≠ s.dev.metering.phaseB →
      ∃ t, exec (.encoderPhaseChange a b) s = .next t ∧ t.pending = s.pending ∧ t.dev.time = s.dev.time
        ∧ t.dev.metering = { s.dev.metering with
          phaseA := a, phaseB := b, unsettled := true, settledAt := s.dev.time + 100, counter := t.dev.metering.counter })
    ∧ (s.dev.metering.settledAt ≤ s.dev.time →
      exec .encoderUnsettledExpiry s = .next (s.setDev (s.dev.setMetering { s.dev.metering with unsettled := false })))
    ∧ (s.dev.time < s.dev.metering.settledAt → exec .encoderUnsettledExpiry s = .next s))

/-- A splice pulse in forward motion with a roll is merged, refused with SPLICE_LIST_FULL, or inserted; any other pulse changes
nothing. A splice pulse keeps the splice list ascending, with any two entries more than 1,000 µm apart and at most 64 of them. -/
def Obligations.SplicesAreListed : Prop :=
  (∀ s : State,
    let x := min 2147483647 (s.dev.metering.counter + s.dev.roll.cfg.spliceOffset)
    (s.dev.roll.state ≠ .noRoll → 0 < s.dev.transport.demand →
      ((∃ y ∈ s.dev.roll.splices, (y - x).natAbs ≤ 1000) → exec .splicePulse s = .next s)
      ∧ ((∀ y ∈ s.dev.roll.splices, 1000 < (y - x).natAbs) → 64 ≤ s.dev.roll.splices.length →
        exec .splicePulse s = .next (s.setDev (raise .service .spliceListFull s.dev)))
      ∧ ((∀ y ∈ s.dev.roll.splices, 1000 < (y - x).natAbs) → s.dev.roll.splices.length < 64 →
        ∃ below above, s.dev.roll.splices = below ++ above ∧ (∀ y ∈ below, y ≤ x) ∧ (∀ y ∈ above.head?, x < y)
          ∧ exec .splicePulse s = .next (s.setDev (s.dev.setRoll { s.dev.roll with splices := below ++ x :: above }))))
    ∧ (s.dev.roll.state = .noRoll ∨ s.dev.transport.demand ≤ 0 → exec .splicePulse s = .next s))
  ∧ (∀ s t : State, s.dev.roll.splices.Pairwise (fun x y => x + 1000 < y) → s.dev.roll.splices.length ≤ 64 →
    exec .splicePulse s = .next t →
    t.dev.roll.splices.Pairwise (fun x y => x + 1000 < y) ∧ t.dev.roll.splices.length ≤ 64)

/-- A change of the film-present level is taken only when two consecutive samples show it. The return of film in RUNOUT while the film
moves in reverse makes the roll READY again and keeps the tail. -/
def Obligations.FilmPresentIsFiltered : Prop :=
  (∀ (s : State) (s1 s2 : Bool), s1 ≠ s2 ∨ s1 = s.dev.roll.filmPresent → exec (.filmPresentChange s1 s2) s = .next s)
  ∧ (∀ s : State, s.dev.roll.filmPresent = false → s.dev.roll.state = .runout → s.dev.transport.demand < 0 → s.dev.roll.datum = true →
    exec (.filmPresentChange true true) s
      = .next (s.setDev (settle (raise .service .roll (raise .request .roll
          (s.dev.setRoll { s.dev.roll with filmPresent := true, state := .ready }))))))

/-- Runout: a READY roll whose film goes clear in forward motion becomes RUNOUT with its tail position at the counter, the moving
transport is STOPPING with reason RUNOUT, and an open index is CLOSED with cause ROLL_END. With no trigger arm, a run that is absent,
QUEUED, SUSPENDED or ENDED stays as it is. A run that is PREPARING, RUNNING or SUSPENDING loses its arm and its search, has a TRUNCATED
notice for an open frame, and becomes ENDING with cause ROLL_END. -/
def Obligations.RunoutRecordsTheTail : Prop :=
  (∀ s : State, s.dev.roll.filmPresent = true → s.dev.roll.state = .ready → 0 < s.dev.transport.demand →
    s.dev.transport.motion = .jog ∨ s.dev.transport.motion = .seek ∨ s.dev.transport.motion = .creep →
    s.dev.trigger.arm = none →
    (∀ r, s.dev.scan.run = some r → r.state = .queued ∨ r.state = .suspended ∨ r.state = .ended) → Settled s.dev →
    ∃ t, exec (.filmPresentChange false false) s = .next t ∧ t.pending = s.pending
      ∧ t.dev.roll.filmPresent = false ∧ t.dev.roll.state = .runout ∧ t.dev.roll.datum = true
      ∧ t.dev.roll.tail = some s.dev.metering.counter ∧ t.dev.metering = s.dev.metering
      ∧ t.dev.transport.motion = .stopping ∧ t.dev.transport.stopReason = some .runout ∧ t.dev.transport.demand = s.dev.transport.demand
      ∧ (s.dev.index.state = .open_ ∨ s.dev.index.state = .imported →
        t.dev.index.state = .closed ∧ t.dev.index.closeCause = some .rollEnd ∧ ∀ port, eventSet t.dev port .index)
      ∧ (s.dev.index.state = .empty ∨ s.dev.index.state = .closed → t.dev.index = s.dev.index)
      ∧ t.dev.scan.run = s.dev.scan.run ∧ eventSet t.dev .request .roll ∧ eventSet t.dev .service .roll)
  ∧ (∀ (s : State) (r : RunRecord), s.dev.roll.filmPresent = true → s.dev.roll.state = .ready → 0 < s.dev.transport.demand →
    s.dev.transport.motion = .seek ∨ s.dev.transport.motion = .creep ∨ s.dev.transport.motion = .scan →
    s.dev.transport.grant = .scan → s.dev.scan.run = some r →
    r.state = .preparing ∨ r.state = .running ∨ r.state = .suspending → Settled s.dev →
    ∃ t r', exec (.filmPresentChange false false) s = .next t ∧ t.pending = s.pending
      ∧ t.dev.scan.run = some r' ∧ r'.state = .ending ∧ r'.cause = some .rollEnd
      ∧ t.dev.trigger.arm = none ∧ t.dev.focus.search = none ∧ eventSet t.dev .capture .run
      ∧ t.dev.roll.state = .runout ∧ t.dev.transport.motion = .stopping ∧ t.dev.transport.stopReason = some .runout
      ∧ t.dev.transport.grant = .scan ∧ t.dev.transport.demand = s.dev.transport.demand
      ∧ (s.dev.roll.pendingCorrection = none → t.dev.roll.tail = some s.dev.metering.counter ∧ t.dev.metering = s.dev.metering)
      ∧ (∀ a, s.dev.trigger.arm = some a → r'.boundary = none ∧ t.dev.scan.gate = false
        ∧ (a.mode = .scan → r'.savedLine = s.dev.trigger.lineCounter))
      ∧ (∀ a f, s.dev.trigger.arm = some a → s.dev.detector.activity = .run → s.dev.detector.openFrame = some f →
        ∃ n, t.dev.scan.notices = s.dev.scan.notices ++ [n] ∧ n.kind = .truncated ∧ n.run = r.number ∧ n.start = f.start)
      ∧ (s.dev.detector.openFrame = none → t.dev.scan.notices = s.dev.scan.notices))

/-! ### Halts and the transport -/

/-- A halt enters HALTED with its own cause, no demand, no drive, no order, no grant and no trigger arm, and raises FAULT: HALT, a drive
fault, an encoder fault, and loss of film in a READY roll at rest or a THREADED one. Every encoder fault, in HALTED too, makes the
encoder unsettled for 100 ms from then. A halt taken in HALTED keeps the first cause:
HALT is answered OK and changes nothing else. -/
def Obligations.HaltsEnterHalted : Prop :=
  (∀ s : State, s.dev.transport.motion ≠ .halted →
    (∀ tag p x, takes s .service p → ∃ t, exec (.halt .service (requestFrame tag p x)) s = .next t ∧ t.pending = s.pending
      ∧ InHalt .halt t.dev ∧ (∀ port, eventSet t.dev port .fault)
      ∧ (t.dev.ports.get .service).response = some { tag := tag, result := .ok, payload := [] })
    ∧ (∃ t, exec .driveFault s = .next t ∧ t.pending = s.pending ∧ InHalt .drive t.dev ∧ ∀ port, eventSet t.dev port .fault)
    ∧ (∀ a b, a ≠ s.dev.metering.phaseA → b ≠ s.dev.metering.phaseB →
      ∃ t, exec (.encoderPhaseChange a b) s = .next t ∧ t.pending = s.pending ∧ InHalt .encoder t.dev
        ∧ (∀ port, eventSet t.dev port .fault) ∧ t.dev.metering.phaseA = a ∧ t.dev.metering.phaseB = b
        ∧ t.dev.metering.unsettled = true ∧ t.dev.metering.settledAt = s.dev.time + 100 ∧ t.dev.time = s.dev.time
        ∧ (s.dev.roll.state = .ready ∨ s.dev.roll.state = .runout → t.dev.roll.state = .threaded ∧ t.dev.roll.datum = false))
    ∧ (s.dev.roll.filmPresent = true → (s.dev.roll.state = .ready ∧ s.dev.transport.demand ≤ 0) ∨ s.dev.roll.state = .threaded →
      ∃ t, exec (.filmPresentChange false false) s = .next t ∧ t.pending = s.pending ∧ InHalt .filmLost t.dev
        ∧ (∀ port, eventSet t.dev port .fault) ∧ t.dev.roll.state = .threaded ∧ t.dev.roll.datum = false
        ∧ t.dev.roll.filmPresent = false))
  ∧ (∀ (s : State) (tag : Byte) (p x : List Byte), takes s .service p → s.dev.transport.motion = .halted → Settled s.dev →
    exec (.halt .service (requestFrame tag p x)) s
      = .next (answers s .service tag .ok [] (heard .service (requestFrame tag p x) s)))
  ∧ (∀ (s : State) (a b : Bool), s.dev.transport.motion = .halted → Settled s.dev → a ≠ s.dev.metering.phaseA →
    b ≠ s.dev.metering.phaseB →
    let metering := { s.dev.metering with phaseA := a, phaseB := b, unsettled := true, settledAt := s.dev.time + 100 }
    (s.dev.roll.state = .noRoll ∨ s.dev.roll.state = .threaded →
      exec (.encoderPhaseChange a b) s = .next (s.setDev (s.dev.setMetering metering)))
    ∧ (s.dev.roll.state = .ready ∨ s.dev.roll.state = .runout →
      ∃ t, exec (.encoderPhaseChange a b) s = .next t ∧ t.pending = s.pending ∧ t.dev.metering = metering
        ∧ t.dev.transport.motion = .halted ∧ t.dev.transport.haltCause = s.dev.transport.haltCause
        ∧ t.dev.roll = { s.dev.roll with state := .threaded, datum := false } ∧ eventSet t.dev .service .roll))

/-- CLEAR_FAULT: refused with STATE while a fault condition holds, else HALTED becomes IDLE with the drive off and tension RELEASE; in
another state it changes nothing. -/
def Obligations.ClearFaultLeavesHalted : Prop :=
  ∀ (s : State) (tag : Byte) (p x : List Byte), takes s .service p →
    let d := heard .service (requestFrame tag p x) s
    let remains := s.dev.inputs.driveFault = true ∨ s.dev.guard.stopCondition = true
      ∨ (s.dev.roll.filmPresent = false ∧ (s.dev.transport.haltCause = some .filmLost ∨ s.dev.roll.state = .threaded))
      ∨ s.dev.metering.unsettled = true
    (s.dev.transport.motion ≠ .halted →
      exec (.clearFault .service (requestFrame tag p x)) s = .next (answers s .service tag .ok [] d))
    ∧ (s.dev.transport.motion = .halted → remains →
      exec (.clearFault .service (requestFrame tag p x)) s = .next (answers s .service tag .state [] d))
    ∧ (s.dev.transport.motion = .halted → ¬ remains →
      exec (.clearFault .service (requestFrame tag p x)) s
        = .next (answers s .service tag .ok []
            (settle (d.setTransport { d.transport with motion := .idle, haltCause := none }))))

/-- JOG, SERVICE_SEEK, LENS_HOME and FOCUS_SEARCH are refused with OWNED while a block owns the grant, and with STATE outside IDLE and
PARKED; nothing else changes. -/
def Obligations.ServiceRequestsNeedTheGrant : Prop :=
  ∀ (s : State) (tag : Byte) (p x : List Byte) (r : Result), takes s .service p →
    (s.dev.transport.grant ≠ .nobody ∧ r = .owned)
      ∨ (s.dev.transport.grant = .nobody ∧ s.dev.transport.motion ≠ .idle ∧ s.dev.transport.motion ≠ .parked ∧ r = .state) →
    let t := answers s .service tag r [] (heard .service (requestFrame tag p x) s)
    (1 ≤ p.length → exec (.jog .service (requestFrame tag p x)) s = .next t)
    ∧ (4 ≤ p.length → p.length ≠ 5 → exec (.serviceSeek .service (requestFrame tag p x)) s = .next t)
    ∧ exec (.lensHome .service (requestFrame tag p x)) s = .next t
    ∧ exec (.focusSearch .service (requestFrame tag p x)) s = .next t

/-- A taken JOG gives the grant to SERVICE and starts the jog; with tension RELEASE it re-tensions first and holds the order. A taken
SERVICE_SEEK fixes its target, distance, cap and time limit at its start. An order of the grant owner starts at once in IDLE, PARKED or a
moving state: a SCAN seeks to its start less the run-up distance, clamped, a CREEP has the speed it names, and with DRV_READY
deasserted, or with a creep or a jog at or beyond its limit, the order fails and leaves the motion and the current order as they were. -/
def Obligations.ServiceOrdersStart : Prop :=
  (∀ (s : State) (tag : Byte) (p x : List Byte) (dir : Direction), takes s .service p → 1 ≤ p.length →
    directionOf (natAt p 0 1) = some dir → s.dev.transport.grant = .nobody → Settled s.dev →
    let d := heard .service (requestFrame tag p x) s
    let o : Order := { owner := .service, kind := .jog dir }
    (s.dev.transport.motion = .idle → s.dev.transport.tension = .hold → s.dev.inputs.driveReady = true →
      (dir = .forward → s.dev.metering.counter < upperLimit s.dev) → (dir = .reverse → -2000000 < s.dev.metering.counter) →
      exec (.jog .service (requestFrame tag p x)) s
        = .next (answers s .service tag .accepted []
            (d.setTransport
              { d.transport with
                motion := .jog, grant := .service, releasePending := false, parkTimer := 0, stopReason := none
                current := some
                  { order := o, seek := none, speed := d.transport.cfg.jogSpeed, runPhase := false, baseReported := false } })))
    ∧ (s.dev.transport.motion = .idle ∨ s.dev.transport.motion = .parked → s.dev.transport.tension = .release →
      exec (.jog .service (requestFrame tag p x)) s
        = .next (answers s .service tag .accepted []
            (d.setTransport
              { d.transport with
                motion := .retensioning, grant := .service, releasePending := false, parkTimer := 0, tension := .hold
                driveEnable := true, demand := 0, held := some o
                tensionedAt := some (d.time + d.transport.cfg.tensionSettle) }))))
  ∧ (∀ (s : State) (tag : Byte) (p x : List Byte) (target : Int) (cap : Option Nat), takes s .service p →
    (p.length = 4 ∧ cap = none) ∨ (6 ≤ p.length ∧ cap = some (natAt p 4 2)) → target = intAt p 0 4 →
    -2000000 ≤ target → target ≤ upperLimit s.dev → (∀ k ∈ cap, 1 ≤ k ∧ k ≤ 5000) →
    s.dev.transport.grant = .nobody → s.dev.transport.motion = .idle → s.dev.transport.tension = .hold →
    s.dev.inputs.driveReady = true → Settled s.dev →
    let d := heard .service (requestFrame tag p x) s
    let c := min (cap.getD d.transport.cfg.seekMaximum) d.transport.cfg.seekMaximum
    let d0 := target - d.metering.counter
    exec (.serviceSeek .service (requestFrame tag p x)) s
      = .next (answers s .service tag .accepted []
          (d.setTransport
            { d.transport with
              motion := .seek, grant := .service, releasePending := false, parkTimer := 0, stopReason := none
              current := some
                { order := { owner := .service, kind := .seek target cap }
                  seek := some
                    { target := target, distance := d0, cap := c
                      limit := ceilDiv d0.natAbs c + ceilDiv (2 * c) d.transport.cfg.acceleration + d.transport.cfg.seekMargin
                      elapsed := 0, reversals := 0 }
                  speed := 0, runPhase := false, baseReported := false } })))
  ∧ (∀ (d : Dev) (o : Order), d.transport.grant = o.owner →
    d.transport.motion ∈ [MotionState.idle, .parked, .jog, .seek, .creep, .scan] →
    let fails := fun (c : FailCause) => giveOrder o d = d.setInbox (d.inbox ++ [.orderEnded o.owner (.failed c) false])
    let begins := fun (motion : MotionState) (c : CurrentOrder) (reports : List Report) => giveOrder o d
      = (d.setTransport { d.transport with motion := motion, stopReason := none, current := some c }).setInbox (d.inbox ++ reports)
    let beyond := fun (dir : Direction) =>
      if dir = .forward then upperLimit d ≤ d.metering.counter else d.metering.counter ≤ -2000000
    (∀ start v pitch line stopAt, o.kind = .scan start v pitch line stopAt →
      (d.inputs.driveReady = false → fails .driveNotReady)
      ∧ (d.inputs.driveReady = true →
        let a := d.transport.cfg.acceleration
        let c := d.transport.cfg.seekMaximum
        let target := clampLimits d (start - ((v * v + 2 * a - 1) / (2 * a) + d.transport.cfg.runUpMargin : Nat))
        let d0 := target - d.metering.counter
        begins .seek
          { order := o
            seek := some
              { target := target, distance := d0, cap := c
                limit := ceilDiv d0.natAbs c + ceilDiv (2 * c) a + d.transport.cfg.seekMargin, elapsed := 0, reversals := 0 }
            speed := v, runPhase := false, baseReported := false } [.positioningBegan]))
    ∧ (∀ which, o.kind = .creep which →
      (d.inputs.driveReady = false → ¬ beyond .forward → fails .driveNotReady)
      ∧ (d.inputs.driveReady = true → beyond .forward → fails .limit)
      ∧ (d.inputs.driveReady = true → ¬ beyond .forward →
        begins .creep
          { order := o, seek := none, runPhase := false, baseReported := false
            speed := if which = .probe then d.transport.cfg.probeSpeed else d.transport.cfg.creepSpeed } []))
    ∧ (∀ dir, o.kind = .jog dir →
      (d.inputs.driveReady = false → ¬ beyond dir → fails .driveNotReady)
      ∧ (d.inputs.driveReady = true → beyond dir → fails .limit))
    ∧ (∀ target cap, o.kind = .seek target cap → d.inputs.driveReady = false → fails .driveNotReady))

/-- STOP: answered OK with no change while nobody owns the grant, refused with OWNED while another block does, and from SERVICE in a
moving state it puts the transport into STOPPING with reason ORDER. -/
def Obligations.StopByGrantOwner : Prop :=
  ∀ (s : State) (tag : Byte) (p x : List Byte), takes s .service p →
    let d := heard .service (requestFrame tag p x) s
    (s.dev.transport.grant = .nobody →
      exec (.stop .service (requestFrame tag p x)) s = .next (answers s .service tag .ok [] d))
    ∧ (s.dev.transport.grant = .scan ∨ s.dev.transport.grant = .retrieval →
      exec (.stop .service (requestFrame tag p x)) s = .next (answers s .service tag .owned [] d))
    ∧ (s.dev.transport.grant = .service → s.dev.focus.search = none → Settled s.dev →
      s.dev.transport.motion = .jog ∨ s.dev.transport.motion = .seek ∨ s.dev.transport.motion = .creep →
      exec (.stop .service (requestFrame tag p x)) s
        = .next (answers s .service tag .ok []
            (d.setTransport
              { d.transport with
                motion := .stopping, stopReason := some .order
                current := some
                  { order := { owner := .service, kind := .stop }, seek := none, speed := 0, runPhase := false
                    baseReported := false } })))

/-- A seek past its time limit fails with TIMEOUT, and one that has reversed four times with HUNTING: the transport brakes with reason
FAILURE, and a Service owner gets the outcome with MOTION_END and FAULT. Before that nothing changes. -/
def Obligations.SeeksFailByTimeAndReversals : Prop :=
  ∀ (s : State) (c : CurrentOrder) (k : SeekRun), s.dev.transport.motion = .seek → s.dev.transport.current = some c →
    c.seek = some k → c.order.owner = .service → s.dev.transport.grant = .service → s.dev.focus.search = none →
    (∀ h, s.dev.focus.lens.homing = some h → h.holdsGrant = false) → Settled s.dev →
    let fails := fun (cause : FailCause) (i : Instr) =>
      ∃ t, exec i s = .next t ∧ t.pending = s.pending ∧ t.dev.transport.motion = .stopping
        ∧ t.dev.transport.stopReason = some .failure ∧ t.dev.transport.current = none
        ∧ t.dev.transport.serviceOutcome = some (.failed cause) ∧ t.dev.transport.demand = s.dev.transport.demand
        ∧ t.dev.transport.grant = .service ∧ t.dev.transport.releasePending = true
        ∧ eventSet t.dev .service .motionEnd ∧ eventSet t.dev .service .fault
    (k.limit ≤ k.elapsed → fails .timeout .seekTimeout) ∧ (k.elapsed < k.limit → exec .seekTimeout s = .next s)
      ∧ (4 ≤ k.reversals → fails .hunting .hunting) ∧ (k.reversals < 4 → exec .hunting s = .next s)

/-- Re-tensioning ends at its time: the state becomes IDLE and a held order starts. The transport parks when the park timer has
reached a park timeout that is not 0, and not otherwise. -/
def Obligations.RetensioningAndParking : Prop :=
  (∀ (s : State) (due : Nat), s.dev.transport.motion = .retensioning → s.dev.transport.tensionedAt = some due →
    (s.dev.time < due → exec .retensioningEnd s = .next s)
    ∧ (due ≤ s.dev.time → s.dev.transport.held = none →
      exec .retensioningEnd s
        = .next (s.setDev (settle (s.dev.setTransport { s.dev.transport with motion := .idle, tensionedAt := none }))))
    ∧ (∀ owner dir, due ≤ s.dev.time → s.dev.transport.held = some { owner := owner, kind := .jog dir } →
      s.dev.transport.grant ≠ .nobody → s.dev.transport.releasePending = false → s.dev.inputs.driveReady = true →
      (dir = .forward → s.dev.metering.counter < upperLimit s.dev) → (dir = .reverse → -2000000 < s.dev.metering.counter) →
      Settled s.dev →
      exec .retensioningEnd s
        = .next (s.setDev (s.dev.setTransport
            { s.dev.transport with
              motion := .jog, tensionedAt := none, held := none, stopReason := none
              current := some
                { order := { owner := owner, kind := .jog dir }, seek := none, speed := s.dev.transport.cfg.jogSpeed
                  runPhase := false, baseReported := false } }))))
  ∧ (∀ s : State,
    let due := s.dev.transport.motion = .idle ∧ s.dev.transport.grant = .nobody ∧ s.dev.roll.state ≠ .noRoll
      ∧ s.dev.transport.cfg.parkTimeout ≠ 0 ∧ s.dev.transport.cfg.parkTimeout * 1000 ≤ s.dev.transport.parkTimer
    (due → exec .parkTimeout s
      = .next (s.setDev (raise .service .park
          (s.dev.setTransport { s.dev.transport with motion := .parked, tension := .release, parkTimer := 0 }))))
    ∧ (¬ due → exec .parkTimeout s = .next s))

/-- Each millisecond advances the timebase and the timers (`e`): the park timer while the transport is IDLE with no owner and a roll, the
time of a lens move or homing while FRAME_GATE is deasserted and steps remain, the deferral ages, and the hold timer. Without a drive
fault the profile is then run, whose demand `SeekProfileFollowsItsCases` gives; with one the transport halts. What follows is settled,
and the drive frame is sent with the values in force after it. A seek counts its time and its reversals, and the profile does nothing
in IDLE, PARKED, RETENSIONING and HALTED. That PROFILE_STEP is the millisecond, in this order, is log entry 2 (DEDUCED), that DRV_READY
and LENS_HOME_N are sampled in it beside DRV_FAULT_N is log entry 5 (DESIGN CHOICE), and what `settle` brings about is log entry 7: the
clauses on these are the model's. -/
def Obligations.MillisecondSendsTheFrame : Prop :=
  (∀ (s : State) (pins : PinSample), ∃ t, exec (.profileStep pins) s = .next t ∧ t.pending = s.pending
    ∧ t.dev.time = s.dev.time + 1 ∧ t.dev.inputs.driveFault = pins.driveFault ∧ t.dev.inputs.driveReady = pins.driveReady
    ∧ t.dev.inputs.lensHome = pins.lensHome
    ∧ t.dev.transport.frame
      = some { demand := t.dev.transport.demand, tension := t.dev.transport.tension, enable := t.dev.transport.driveEnable }
    ∧ (pins.driveFault = true → t.dev.transport.motion = .halted))
  ∧ (∀ (s : State) (pins : PinSample),
    let framed := fun (d : Dev) => d.setTransport
      { d.transport with
        frame := some { demand := d.transport.demand, tension := d.transport.tension, enable := d.transport.driveEnable } }
    let parks := s.dev.transport.motion = .idle ∧ s.dev.transport.grant = .nobody ∧ s.dev.roll.state ≠ .noRoll
    let e := { s.dev with
      time := s.dev.time + 1
      inputs := { s.dev.inputs with driveFault := pins.driveFault, driveReady := pins.driveReady, lensHome := pins.lensHome }
      transport := { s.dev.transport with parkTimer := if parks then s.dev.transport.parkTimer + 1 else 0 }
      focus := { s.dev.focus with lens := { s.dev.focus.lens with
        move := s.dev.focus.lens.move.map fun m =>
          { m with elapsed := if s.dev.scan.gate = false ∧ m.settledAt = none then m.elapsed + 1 else m.elapsed }
        homing := s.dev.focus.lens.homing.map fun h =>
          { h with elapsed := if s.dev.scan.gate = false ∧ h.settledAt = none then h.elapsed + 1 else h.elapsed } } }
      retrieval := { s.dev.retrieval with
        queue := s.dev.retrieval.queue.map fun r => { r with age := if r.state = .deferred then r.age + 1 else r.age }
        hold := s.dev.retrieval.hold.map fun h => { h with timer := h.timer + 1 } } }
    (pins.driveFault = false → exec (.profileStep pins) s = .next (s.setDev (framed (settle (profile e)))))
    ∧ (pins.driveFault = true → exec (.profileStep pins) s = .next (s.setDev (framed (settle (halt .drive e))))))
  ∧ (∀ (d : Dev) (c c' : CurrentOrder) (k k' : SeekRun), d.transport.motion = .seek → d.transport.current = some c →
    c.seek = some k → (profile d).transport.current = some c' → c'.seek = some k' →
    let away := (0 < d.transport.demand ∧ k.target < d.metering.counter)
      ∨ (d.transport.demand < 0 ∧ d.metering.counter < k.target)
    c'.order = c.order ∧ k' = { k with
      elapsed := k.elapsed + 1
      reversals := if away ∧ d.transport.demand.natAbs ≤ d.transport.cfg.acceleration then k.reversals + 1 else k.reversals })
  ∧ (∀ d : Dev, d.transport.motion = .idle ∨ d.transport.motion = .parked ∨ d.transport.motion = .retensioning
      ∨ d.transport.motion = .halted → profile d = d)

/-- The demand of one millisecond. A seek in either direction: braking while it moves away, arrival in the window at crawl speed, failure
with LIMIT beyond the soft limit it moves toward, braking to the crawl speed within the braking distance, and cruising toward the cap
by a, less in and before a splice zone. The positioning of a scan order arrives with POSITIONED, which changes nothing in the run, and
enters SCAN with its arm. A jog, a creep and the run of a scan: the
speed rises by a to the order's own and holds it, the zone cap and the deceleration before a zone where a splice is near, braking at
the limit, AT_LIMIT in the window. A stop brakes by a, keeps its direction, and ends in IDLE with STOPPED for a STOP order, and in
HALTED for the reason GUARD. The model's own order inside one millisecond: in a seek, arrival is looked at before the soft limit, and a
seek that fails with LIMIT keeps its demand in that millisecond; in every order the zone cap goes before the zone ahead (log entry 11,
DEDUCED); outside a seek the limit comes before the zone rule (log entry 32, DESIGN CHOICE). -/
def Obligations.SeekProfileFollowsItsCases : Prop :=
  (∀ (d : Dev) (c : CurrentOrder) (k : SeekRun) (sign : Int), d.transport.motion = .seek → d.transport.current = some c →
    c.seek = some k → 1 ≤ d.transport.cfg.acceleration → sign = 1 ∨ sign = -1 → 0 ≤ sign * d.transport.demand →
    let u := d.transport.demand.natAbs
    let a := d.transport.cfg.acceleration
    let w := d.transport.cfg.arrivalWindow
    let zone := d.transport.cfg.spliceZone
    let p := d.metering.counter
    let gap := sign * (k.target - p)
    let b := fun (v : Nat) => (v * v + 2 * a - 1) / (2 * a)
    let arrives := 0 ≤ gap ∧ gap ≤ w ∧ u ≤ min a w
    let beyond := if sign = 1 then upperLimit d < p else p < -2000000
    let ahead := fun (x : Int) => sign * (x - p) - zone
    let inside := zone ≠ 0 ∧ ∃ x ∈ d.roll.splices, (p - x).natAbs ≤ zone
    let cap := fun (v : Nat) => if u < v then min (u + a) v else max (u - a) v
    (u = 0 → 0 ≤ gap) →
    ((arrives → (∃ target most, c.order.kind = .seek target most) →
      (profile d).transport.demand = 0 ∧ (profile d).transport.motion = .idle ∧ (profile d).transport.current = none
        ∧ (profile d).inbox = d.inbox ++ [.orderEnded c.order.owner .arrived true])
    ∧ (∀ start v pitch line stopAt, arrives → c.order.kind = .scan start v pitch line stopAt →
      (profile d).transport.demand = 0 ∧ (profile d).transport.motion = .scan
        ∧ (∃ rest, (profile d).inbox = d.inbox ++ .positioned c.order.owner :: rest)
        ∧ (∃ c', (profile d).transport.current = some c' ∧ c'.order = c.order ∧ c'.seek = none ∧ c'.runPhase = true)
        ∧ (d.transport.grant = c.order.owner → d.trigger.arm = none → stopAt = none → p < start →
          (profile d).inbox = d.inbox ++ [.positioned c.order.owner, .armBegan c.order.owner 0]
            ∧ (profile d).trigger = { d.trigger with
              lineCounter := line
              arm := some { owner := c.order.owner, mode := .scan, base := start, pitch := pitch, stopAt := none, index := 0 } }))
    ∧ (¬ arrives → beyond →
      (profile d).transport.motion = .stopping ∧ (profile d).transport.stopReason = some .failure
        ∧ (profile d).transport.current = none ∧ (profile d).transport.demand = d.transport.demand
        ∧ (profile d).inbox = d.inbox ++ [.orderEnded c.order.owner (.failed .limit) true])
    ∧ (¬ beyond → gap < 0 → (profile d).transport.demand = sign * (u - min a u : Nat))
    ∧ (¬ arrives → ¬ beyond → 0 ≤ gap → gap - u ≤ b u → (profile d).transport.demand = sign * max (u - a) (min a w))
    ∧ (¬ arrives → ¬ beyond → b u < gap - u → inside →
      (profile d).transport.demand = sign * cap (min k.cap d.transport.cfg.spliceSpeed))
    ∧ (∀ y ∈ d.roll.splices, ¬ arrives → ¬ beyond → b u < gap - u → ¬ inside → zone ≠ 0 → 0 < ahead y →
      (∀ x ∈ d.roll.splices, 0 < ahead x → ahead y ≤ ahead x) →
      (d.transport.cfg.spliceSpeed < u → ahead y - u ≤ (b u : Int) - b d.transport.cfg.spliceSpeed →
        (profile d).transport.demand = sign * max (u - a) d.transport.cfg.spliceSpeed)
      ∧ (u ≤ d.transport.cfg.spliceSpeed ∨ (b u : Int) - b d.transport.cfg.spliceSpeed < ahead y - u →
        (profile d).transport.demand = sign * cap k.cap))
    ∧ (¬ arrives → ¬ beyond → b u < gap - u → ¬ inside → zone = 0 ∨ (∀ x ∈ d.roll.splices, ahead x ≤ 0) →
      (profile d).transport.demand = sign * cap k.cap)))
  ∧ (∀ (d : Dev) (owner : Owner), takeReport (.positioned owner) d = d)
  ∧ (∀ (d : Dev) (c : CurrentOrder) (dir : Direction), d.transport.current = some c →
    (d.transport.motion = .jog ∧ c.order.kind = .jog dir)
      ∨ (d.transport.motion = .creep ∧ dir = .forward) ∨ (d.transport.motion = .scan ∧ dir = .forward) →
    1 ≤ d.transport.cfg.acceleration →
    let sign : Int := if dir = .forward then 1 else -1
    0 ≤ sign * d.transport.demand →
    let u := d.transport.demand.natAbs
    let a := d.transport.cfg.acceleration
    let w := d.transport.cfg.arrivalWindow
    let zone := d.transport.cfg.spliceZone
    let p := d.metering.counter
    let z := if dir = .forward then upperLimit d - p else p - -2000000
    let b := fun (v : Nat) => (v * v + 2 * a - 1) / (2 * a)
    let ahead := fun (x : Int) => sign * (x - p) - zone
    let inside := zone ≠ 0 ∧ ∃ x ∈ d.roll.splices, (p - x).natAbs ≤ zone
    let cap := fun (v : Nat) => if u < v then min (u + a) v else max (u - a) v
    (z ≤ w → u ≤ min a w →
      (profile d).transport.demand = 0 ∧ (profile d).transport.motion = .idle ∧ (profile d).transport.current = none
        ∧ (profile d).inbox = d.inbox ++ [.orderEnded c.order.owner .atLimit true])
    ∧ (¬ (z ≤ w ∧ u ≤ min a w) → z - u ≤ b u → (profile d).transport.demand = sign * max (u - a) (min a w))
    ∧ (¬ (z ≤ w ∧ u ≤ min a w) → b u < z - u → inside →
      (profile d).transport.demand = sign * cap (min c.speed d.transport.cfg.spliceSpeed))
    ∧ (∀ y ∈ d.roll.splices, ¬ (z ≤ w ∧ u ≤ min a w) → b u < z - u → ¬ inside → zone ≠ 0 → 0 < ahead y →
      (∀ x ∈ d.roll.splices, 0 < ahead x → ahead y ≤ ahead x) →
      (d.transport.cfg.spliceSpeed < u → ahead y - u ≤ (b u : Int) - b d.transport.cfg.spliceSpeed →
        (profile d).transport.demand = sign * max (u - a) d.transport.cfg.spliceSpeed)
      ∧ (u ≤ d.transport.cfg.spliceSpeed ∨ (b u : Int) - b d.transport.cfg.spliceSpeed < ahead y - u →
        (profile d).transport.demand = sign * cap c.speed))
    ∧ (¬ (z ≤ w ∧ u ≤ min a w) → b u < z - u → ¬ inside → zone = 0 ∨ (∀ x ∈ d.roll.splices, ahead x ≤ 0) →
      (profile d).transport.demand = sign * cap c.speed))
  ∧ (∀ d : Dev, d.transport.motion = .stopping → 1 ≤ d.transport.cfg.acceleration →
    let u := d.transport.demand.natAbs
    let a := d.transport.cfg.acceleration
    (a < u → profile d = d.setTransport
      { d.transport with
        demand := if 0 < d.transport.demand then ((u - a : Nat) : Int) else -((u - a : Nat) : Int)
        lastDirection := if 0 < d.transport.demand then .forward else .reverse })
    ∧ (u ≤ a → d.transport.stopReason = some .guardStop → InHalt .guardStop (profile d))
    ∧ (u ≤ a → d.transport.stopReason ≠ some .guardStop → d.transport.held = none →
      (profile d).transport = { d.transport with motion := .idle, stopReason := none, current := none, demand := 0 }
      ∧ (profile d).inbox = d.inbox ++ (match d.transport.current with
        | some c => if c.order.kind = .stop then [.orderEnded c.order.owner .stopped true] else []
        | none => [])))

/-! ### The guard unit -/

/-- A valid slot record reads back from its 23 bytes: no field and no bit of a record is dropped on its way through SLOT_CONFIG and
SLOT_READ. The first 19 bytes of an index entry as INDEX_READ gives it make the same entry as an imported one, with IMPORTED set,
VERIFIED and MISMATCH clear and no run or lines (the 19 bytes of section 11.4 follow the entry's order). Numbers in their width, low
byte first, signed and unsigned, the frame flags and the tap map entries read back from their bytes. The slot record and the index entry
hold their fields at the offsets of section 11.4, with the codes of section 11.5, and an absent field as all ones. The 23 bytes received
make a slot record exactly when they pass every check of Table 3-1. -/
def Obligations.RecordsReadBack : Prop :=
  (∀ r : SlotRecord, r.enabled = true → r.busAddress ≤ 127 → r.valueRegister ≤ 255 → (r.byteSwap = true → r.dataType ≠ .u8) →
    10 ≤ r.period → r.period ≤ 65535 → r.scriptStart ≤ 255 → r.pairCount ≤ 64 → r.preInitWait ≤ 2550 → r.postInitWait ≤ 2550 →
    r.retries ≤ 3 → r.underPattern ≤ 65535 → r.overPattern ≤ 65535 →
    (r.dataType = .u8 → r.underPattern ≤ 255 ∧ r.overPattern ≤ 255) →
    thresholdValue r.dataType r.underPattern < thresholdValue r.dataType r.overPattern →
    1 ≤ r.debounce → r.debounce ≤ 8 → (r.vote = true → r.action = .stop) →
    slotRecordOf (slotRecordBytes r) = some r ∧ (slotRecordBytes r).length = 23)
  ∧ ((∀ n v : Nat, v < 256 ^ n → leNat (leBytes n v) = v ∧ (leBytes n v).length = n)
  ∧ (∀ (n : Nat) (v : Int), 1 ≤ n → -(256 ^ n : Int) ≤ 2 * v → 2 * v < (256 ^ n : Int) → leInt (leSigned n v) = v)
  ∧ (∀ (n : Nat) (e : IndexEntry), n < 65536 → -2147483648 ≤ e.start → e.start ≤ 2147483647 → e.length < 16777216 →
    e.address.batch ≤ 65535 → e.address.doc ≤ 65535 → e.address.page ≤ 65535 → e.markLevel ≤ 3 → (∀ k ∈ e.focusStep, k ≤ 4095) →
    let i := importedEntryOf ((entryBytes n e).take 19)
    i.frame = n ∧ packedOk i.packed = true
      ∧ i.entry = { e with
        flags := { e.flags with imported := true, verified := false, mismatch := false }, run := none, firstLine := none
        lastLine := none })
  ∧ (∀ f : FrameFlags, frameFlagsOfBits (BitVec.ofNat 16 (frameFlagBits f)) = f)
  ∧ (∀ e : TapEntry, tapEntryOf (tapByte e) = some e))
  ∧ (∀ p : List Byte, 23 ≤ p.length →
    let type := natAt p 3 1
    let value := fun (v : Nat) => if type = 1 ∧ 32768 ≤ v then (v : Int) - 65536 else v
    ((slotRecordOf p).isSome = true ↔
      natAt p 1 1 ≤ 127 ∧ type ≤ 2 ∧ natAt p 4 1 ≤ 1 ∧ ¬ (natAt p 4 1 = 1 ∧ type = 2) ∧ natAt p 5 1 ≤ 1 ∧ 10 ≤ natAt p 6 2
        ∧ natAt p 9 1 ≤ 64 ∧ natAt p 10 2 ≤ 2550 ∧ natAt p 12 2 ≤ 2550 ∧ natAt p 14 1 ≤ 3
        ∧ (type = 2 → natAt p 15 2 ≤ 255 ∧ natAt p 17 2 ≤ 255) ∧ value (natAt p 15 2) < value (natAt p 17 2)
        ∧ natAt p 19 1 ≤ 1 ∧ 1 ≤ natAt p 20 1 ∧ natAt p 20 1 ≤ 8 ∧ natAt p 21 1 ≤ 2 ∧ natAt p 22 1 ≤ 1
        ∧ ¬ (natAt p 22 1 = 1 ∧ natAt p 21 1 ≠ 0)))
  ∧ ((∀ (p : List Byte) (at_ n : Nat), natAt p at_ n = leNat ((p.drop at_).take n))
    ∧ (∀ (n v : Nat), leBytes (n + 1) v = BitVec.ofNat 8 v :: leBytes n (v / 256))
    ∧ (∀ (n : Nat) (v : Int), 1 ≤ n → -(256 ^ n : Int) ≤ 2 * v → 2 * v < (256 ^ n : Int) →
      leSigned n v = leBytes n (if v < 0 then v + 256 ^ n else v).toNat))
  ∧ (∀ r : SlotRecord,
    let holds := fun (offset : Nat) (bytes : List Byte) => ((slotRecordBytes r).drop offset).take bytes.length = bytes
    holds 0 [if r.enabled = true then 1 else 0] ∧ holds 1 (leBytes 1 r.busAddress) ∧ holds 2 (leBytes 1 r.valueRegister)
      ∧ holds 3 (leBytes 1 (dataTypeCode r.dataType)) ∧ holds 4 [if r.byteSwap = true then 1 else 0]
      ∧ holds 5 (leBytes 1 (powerModeCode r.powerMode)) ∧ holds 6 (leBytes 2 r.period) ∧ holds 8 (leBytes 1 r.scriptStart)
      ∧ holds 9 (leBytes 1 r.pairCount) ∧ holds 10 (leBytes 2 r.preInitWait) ∧ holds 12 (leBytes 2 r.postInitWait)
      ∧ holds 14 (leBytes 1 r.retries) ∧ holds 15 (leBytes 2 r.underPattern) ∧ holds 17 (leBytes 2 r.overPattern)
      ∧ holds 19 (leBytes 1 (areaCode r.area)) ∧ holds 20 (leBytes 1 r.debounce) ∧ holds 21 (leBytes 1 (slotActionCode r.action))
      ∧ holds 22 [if r.vote = true then 1 else 0])
  ∧ (∀ (n : Nat) (e : IndexEntry),
    let holds := fun (offset : Nat) (bytes : List Byte) => ((entryBytes n e).drop offset).take bytes.length = bytes
    (entryBytes n e).length = 28 ∧ holds 0 (leBytes 2 n) ∧ holds 2 (leSigned 4 e.start) ∧ holds 6 (leBytes 3 e.length)
      ∧ holds 9 (leBytes 2 e.address.batch) ∧ holds 11 (leBytes 2 e.address.doc) ∧ holds 13 (leBytes 2 e.address.page)
      ∧ holds 15 (leBytes 2 ((e.focusStep.getD 16384) + 4096 * e.markLevel)) ∧ holds 17 (leBytes 2 (frameFlagBits e.flags))
      ∧ holds 19 (leBytes 1 (e.run.getD 0xFF)) ∧ holds 20 (leBytes 4 (e.firstLine.getD 0xFFFFFFFF))
      ∧ holds 24 (leBytes 4 (e.lastLine.getD 0xFFFFFFFF)))
  ∧ (∀ f : FrameFlags, frameFlagBits f < 32768 ∧ (List.range 15).map (fun i => (frameFlagBits f).testBit i)
    = [f.short, f.long, f.forced, f.splice, f.suspect, f.multiMark, f.unmarked, f.markLost, f.markFault, f.monitorGap,
        f.focusMoving, f.addrHeld, f.imported, f.verified, f.mismatch])
  ∧ ([DataType.u16, .s16, .u8].map dataTypeCode = [0, 1, 2] ∧ [PowerMode.periodic, .always].map powerModeCode = [0, 1]
    ∧ [Area.outside, .inside].map areaCode = [0, 1] ∧ [SlotAction.stop, .mark, .note].map slotActionCode = [0, 1, 2])

/-- SLOT_CONFIG with enabled yes stores a valid record in an OFF slot and starts it; a slot that is not OFF is refused with STATE, and a
record that fails a check with BAD_VALUE. A started slot's next due time is one period later when PERIODIC; that it is absent for an
ALWAYS slot is the model's choice (log entry 46). A slot number above 3 is refused with
BAD_VALUE, and so is an enabled field that is neither yes nor no (log entry 20, DEDUCED). -/
def Obligations.SlotConfigStartsTheSlot : Prop :=
  (∀ (s : State) (tag : Byte) (p x : List Byte), takes s .service p → 24 ≤ p.length → 3 < natAt p 0 1 ∨ 1 < natAt p 1 1 →
    exec (.slotConfigEnable .service (requestFrame tag p x)) s
      = .next (answers s .service tag .badValue [] (heard .service (requestFrame tag p x) s)))
  ∧ ∀ (s : State) (tag : Byte) (p x : List Byte) (n : Fin 4), takes s .service p → 24 ≤ p.length → natAt p 0 1 = n.val →
    natAt p 1 1 = 1 →
    let d := heard .service (requestFrame tag p x) s
    ((s.dev.guard.get n).state ≠ .off →
      exec (.slotConfigEnable .service (requestFrame tag p x)) s = .next (answers s .service tag .state [] d))
    ∧ ((s.dev.guard.get n).state = .off → slotRecordOf (p.drop 1) = none →
      exec (.slotConfigEnable .service (requestFrame tag p x)) s = .next (answers s .service tag .badValue [] d))
    ∧ (∀ r, (s.dev.guard.get n).state = .off → slotRecordOf (p.drop 1) = some r →
      exec (.slotConfigEnable .service (requestFrame tag p x)) s
        = .next (answers s .service tag .ok []
            (settle (recomputeGuard (d.setGuard (d.guard.put n
              { record := r, state := .init, trip := .clear, runCount := 0, lastSample := none
                nextDue := if r.powerMode = .periodic then some (d.time + r.period) else none
                pollInProgress := true, attempts := 0, origin := d.time, waitEnd := some (d.time + r.preInitWait)
                wants := none }))))))

/-- SLOT_CONFIG with enabled no takes the slot to OFF in every state: an OFF slot only stores the field, any other is stopped, its
waiting request withdrawn and its attempt on the bus marked for discarding; the last sample is kept. SLOT_RESTART starts a FAULTED
slot with its stored record, and is refused with STATE in every other state; that the next due time of the started slot is absent when
the slot is ALWAYS is the model's choice (log entry 46), and so is the attempt count of 0 of a slot that is stopped (log entry 48). -/
def Obligations.SlotsStopAndRestart : Prop :=
  (∀ (s : State) (tag : Byte) (p x : List Byte) (n : Fin 4), takes s .service p → 24 ≤ p.length → natAt p 0 1 = n.val →
    natAt p 1 1 = 0 → Settled s.dev →
    let d := heard .service (requestFrame tag p x) s
    let slot := d.guard.get n
    (slot.state = .off →
      exec (.slotConfigDisable .service (requestFrame tag p x)) s
        = .next (answers s .service tag .ok []
            (d.setGuard (d.guard.put n { slot with record := { slot.record with enabled := false } }))))
    ∧ (slot.state ≠ .off →
      exec (.slotConfigDisable .service (requestFrame tag p x)) s
        = .next (answers s .service tag .ok []
            (settle (recomputeGuard (d.setGuard
              { d.guard.put n
                  { slot with
                    record := { slot.record with enabled := false }
                    state := .off, trip := .clear, runCount := 0, nextDue := none, pollInProgress := false, attempts := 0
                    waitEnd := none, wants := none } with
                bus := d.guard.bus.map fun b => if b.slot = n then { b with discarded := true } else b }))))))
  ∧ (∀ (s : State) (tag : Byte) (p x : List Byte) (n : Fin 4), takes s .service p → 1 ≤ p.length → natAt p 0 1 = n.val →
    let d := heard .service (requestFrame tag p x) s
    let slot := d.guard.get n
    (slot.state ≠ .faulted →
      exec (.slotRestart .service (requestFrame tag p x)) s = .next (answers s .service tag .state [] d))
    ∧ (slot.state = .faulted →
      exec (.slotRestart .service (requestFrame tag p x)) s
        = .next (answers s .service tag .ok []
            (settle (recomputeGuard (d.setGuard (d.guard.put n
              { slot with
                state := .init, trip := .clear, runCount := 0, lastSample := none, attempts := 0, origin := d.time
                pollInProgress := true, wants := none, waitEnd := some (d.time + slot.record.preInitWait)
                nextDue := if slot.record.powerMode = .periodic then some (d.time + slot.record.period) else none })))))))

/-- SCRIPT_WRITE stores data byte j at address (offset + j) mod 256 and leaves every other byte; while a slot is in INIT it is refused
with STATE. -/
def Obligations.ScriptWriteStoresItsBytes : Prop :=
  ∀ (s : State) (tag : Byte) (p x : List Byte) (offset c : Nat), takes s .service p → natAt p 0 1 = offset → natAt p 1 1 = c →
    1 ≤ c → c ≤ 56 → 2 + c ≤ p.length → Memory.wf s.dev.guard.script = true →
    let d := heard .service (requestFrame tag p x) s
    ((∀ n, (s.dev.guard.get n).state ≠ .init) →
      ∃ script : List Host.Cell,
        exec (.scriptWrite .service (requestFrame tag p x)) s
            = .next (answers s .service tag .ok [] (d.setGuard { d.guard with script := script }))
          ∧ Memory.wf script = true
          ∧ (∀ j b, j < c → p[2 + j]? = some b → Memory.read script ((offset + j) % 256) = b)
          ∧ ∀ a, (∀ j, j < c → a ≠ (offset + j) % 256) → Memory.read script a = Memory.read s.dev.guard.script a)
    ∧ ((∃ n, (s.dev.guard.get n).state = .init) →
      exec (.scriptWrite .service (requestFrame tag p x)) s = .next (answers s .service tag .state [] d))

/-- A due time: an overrun only moves the next due time on; otherwise a poll begins, in INIT for a PERIODIC slot and with a sample
read on an idle bus, or in the waiting set, for an ALWAYS slot. Before its due time nothing happens. The ends of the two waits:
after the pre-init wait the first script pair goes out with the bytes of script memory, or SETTLE begins when there is no pair;
after the post-init wait, or at once where it is 0, the slot is POLLING and its sample is requested: on an idle bus the read begins, a
START, the address and register bytes, a repeated START, the address byte for reading, one data byte for U8 and two for the 16-bit
types with the last not acknowledged, and STOP. The bits of an address byte (log entry 29, PRESUMED) and the time kept with an attempt
(log entry 39, DEDUCED) are the model's, and so is the order of requests that fall due in one millisecond: the order of their commands,
the first of which finds the bus idle (log entry 47, DESIGN CHOICE). -/
def Obligations.SlotTimesAct : Prop :=
  let sampleForm := fun (r : SlotRecord) =>
    [BusSymbol.start, .send (addressByte r.busAddress false), .send (BitVec.ofNat 8 r.valueRegister), .repeatedStart
      , .send (addressByte r.busAddress true)]
    ++ (if r.dataType = .u8 then [.read false] else [.read true, .read false]) ++ [.stop]
  (∀ (s : State) (n : Fin 4) (t : Nat), (s.dev.guard.get n).nextDue = some t →
    let slot := s.dev.guard.get n
    let g := s.dev.guard
    let next : Option Nat := some (t + slot.record.period)
    (s.dev.time < t → exec (.slotDueTime n) s = .next s)
    ∧ (t ≤ s.dev.time → slot.pollInProgress = true →
      exec (.slotDueTime n) s = .next (s.setDev (s.dev.setGuard (g.put n { slot with nextDue := next }))))
    ∧ (t ≤ s.dev.time → slot.pollInProgress = false → slot.record.powerMode = .periodic →
      exec (.slotDueTime n) s
        = .next (s.setDev (s.dev.setGuard (g.put n
            { slot with
              nextDue := next, pollInProgress := true, state := .init
              waitEnd := some (s.dev.time + slot.record.preInitWait) }))))
    ∧ (t ≤ s.dev.time → slot.pollInProgress = false → slot.record.powerMode = .always → g.bus = none →
      (∀ m, (g.get m).wants = none) →
      exec (.slotDueTime n) s
        = .next (s.setDev (s.dev.setGuard
            { g.put n { slot with nextDue := next, pollInProgress := true, attempts := 0, wants := none } with
              bus := some
                { slot := n, use := .sample, form := sampleForm slot.record, speed := g.busSpeed, begun := s.dev.time
                  discarded := false } })))
    ∧ (t ≤ s.dev.time → slot.pollInProgress = false → slot.record.powerMode = .always → g.bus ≠ none →
      exec (.slotDueTime n) s
        = .next (s.setDev (s.dev.setGuard (g.put n
            { slot with nextDue := next, pollInProgress := true, wants := some .sample })))))
  ∧ (∀ (s : State) (n : Fin 4) (t : Nat), (s.dev.guard.get n).waitEnd = some t →
    let slot := s.dev.guard.get n
    let g := s.dev.guard
    (s.dev.time < t → exec (.preInitWaitEnd n) s = .next s ∧ exec (.postInitWaitEnd n) s = .next s)
    ∧ (t ≤ s.dev.time → slot.state = .init → 1 ≤ slot.record.pairCount → g.bus = none → (∀ m, (g.get m).wants = none) →
      exec (.preInitWaitEnd n) s
        = .next (s.setDev (s.dev.setGuard
            { g.put n { slot with waitEnd := none, attempts := 0, wants := none } with
              bus := some
                { slot := n, use := .pair 0
                  form := [.start, .send (addressByte slot.record.busAddress false)
                    , .send (Memory.read g.script (slot.record.scriptStart % 256))
                    , .send (Memory.read g.script ((slot.record.scriptStart + 1) % 256)), .stop]
                  speed := g.busSpeed, begun := s.dev.time, discarded := false } })))
    ∧ (t ≤ s.dev.time → slot.state = .init → slot.record.pairCount = 0 → slot.record.postInitWait ≠ 0 →
      exec (.preInitWaitEnd n) s
        = .next (s.setDev (s.dev.setGuard (g.put n
            { slot with state := .settle, waitEnd := some (s.dev.time + slot.record.postInitWait) }))))
    ∧ (let polling : GuardSlot := { slot with
        state := .polling, waitEnd := none
        nextDue := if slot.record.powerMode = .always then some (s.dev.time + slot.record.period) else slot.nextDue }
      let waits := Host.Outcome.next (s.setDev (s.dev.setGuard (g.put n { polling with wants := some .sample })))
      let reads := Host.Outcome.next (s.setDev (s.dev.setGuard
        { g.put n { polling with attempts := 0, wants := none } with
          bus := some
            { slot := n, use := .sample, form := sampleForm slot.record, speed := g.busSpeed, begun := s.dev.time
              discarded := false } }))
      (t ≤ s.dev.time → slot.state = .settle → g.bus ≠ none → exec (.postInitWaitEnd n) s = waits)
      ∧ (t ≤ s.dev.time → slot.state = .settle → g.bus = none → (∀ m, (g.get m).wants = none) →
        exec (.postInitWaitEnd n) s = reads)
      ∧ (t ≤ s.dev.time → slot.state = .init → slot.record.pairCount = 0 → slot.record.postInitWait = 0 → g.bus ≠ none →
        exec (.preInitWaitEnd n) s = waits)
      ∧ (t ≤ s.dev.time → slot.state = .init → slot.record.pairCount = 0 → slot.record.postInitWait = 0 → g.bus = none →
        (∀ m, (g.get m).wants = none) → exec (.preInitWaitEnd n) s = reads)))

/-- The end of an attempt: on a failure, by a byte not acknowledged or by SENS_SCL held low, a new attempt while fewer than 1 + retries
were made and FAULTED after that; on a success of a script pair the next pair, or SETTLE after the last, while no other slot waits; on
a success of a sample read the sample, and the bus passes on. A discarded attempt leaves only the bus, which passes to the waiting slot
with the lowest number. With an idle bus nothing happens. The model's own: a hold ends no attempt younger than 25 ms (log entry 39), and
an outcome with another count of data bytes than the form reads changes nothing (log entry 27), and the attempt count is that of the
failed attempts of the transaction in flight, 0 when it is over (log entry 48). -/
def Obligations.AttemptsEnd : Prop :=
  ∀ s : State,
    (s.dev.guard.bus = none → (∀ o, exec (.busAttemptEnd o) s = .next s) ∧ exec .sclHoldTimeout s = .next s)
    ∧ (∀ b, s.dev.guard.bus = some b → b.discarded = false →
      let slot := s.dev.guard.get b.slot
      let begins := fun (use : BusUse) =>
        some
          { slot := b.slot, use := use, form := attemptForm s.dev.guard b.slot use, speed := s.dev.guard.busSpeed
            begun := s.dev.time, discarded := false : BusTransaction }
      (slot.attempts + 1 < 1 + slot.record.retries → Settled s.dev →
        let t := s.setDev (s.dev.setGuard
          { s.dev.guard.put b.slot { slot with attempts := slot.attempts + 1 } with bus := begins b.use })
        exec (.busAttemptEnd .notAcknowledged) s = .next t ∧ (b.begun + 25 ≤ s.dev.time → exec .sclHoldTimeout s = .next t))
      ∧ (1 + slot.record.retries ≤ slot.attempts + 1 →
        let t := s.setDev (settle (recomputeGuard (passBus (raise .service .guardEvent (s.dev.setGuard (s.dev.guard.put b.slot
          { slot with
            state := .faulted, nextDue := none, trip := .clear, runCount := 0, pollInProgress := false, attempts := 0
            waitEnd := none, wants := none }))))))
        exec (.busAttemptEnd .notAcknowledged) s = .next t ∧ (b.begun + 25 ≤ s.dev.time → exec .sclHoldTimeout s = .next t))
      ∧ (∀ i, b.use = .pair i → formReads b.form = 0 → (∀ m, m ≠ b.slot → (s.dev.guard.get m).wants = none) → Settled s.dev →
        (i + 1 < slot.record.pairCount →
          exec (.busAttemptEnd (.acknowledged [])) s
            = .next (s.setDev (s.dev.setGuard
                { s.dev.guard.put b.slot { slot with attempts := 0, wants := none } with bus := begins (.pair (i + 1)) })))
        ∧ (slot.record.pairCount ≤ i + 1 → slot.record.postInitWait ≠ 0 → slot.wants = none →
          exec (.busAttemptEnd (.acknowledged [])) s
            = .next (s.setDev (s.dev.setGuard
                { s.dev.guard.put b.slot
                    { slot with
                      attempts := 0, state := .settle, waitEnd := some (s.dev.time + slot.record.postInitWait) } with
                  bus := none }))))
      ∧ (b.use = .sample → ∀ data, data.length = formReads b.form →
        exec (.busAttemptEnd (.acknowledged data)) s
          = .next (s.setDev (settle (passBus (takeSample b.slot
              (sampleValue slot.record.dataType slot.record.byteSwap (data.getD 0 0) (data.getD 1 0))
              (s.dev.setGuard (s.dev.guard.put b.slot { slot with attempts := 0, pollInProgress := false }))))))))
    ∧ (∀ b, s.dev.guard.bus = some b →
      (s.dev.time < b.begun + 25 → exec .sclHoldTimeout s = .next s)
      ∧ (∀ data, data.length ≠ formReads b.form → exec (.busAttemptEnd (.acknowledged data)) s = .next s))
    ∧ (∀ b o, s.dev.guard.bus = some b → b.discarded = true → Settled s.dev →
      (∀ data, o = .acknowledged data → data.length = formReads b.form) →
      ((∀ m, (s.dev.guard.get m).wants = none) →
        exec (.busAttemptEnd o) s = .next (s.setDev (s.dev.setGuard { s.dev.guard with bus := none })))
      ∧ (∀ m use, (s.dev.guard.get m).wants = some use → (∀ k, k < m → (s.dev.guard.get k).wants = none) →
        exec (.busAttemptEnd o) s
          = .next (s.setDev (s.dev.setGuard
              { s.dev.guard.put m { s.dev.guard.get m with attempts := 0, wants := none } with
                bus := some
                  { slot := m, use := use, form := attemptForm s.dev.guard m use, speed := s.dev.guard.busSpeed
                    begun := s.dev.time, discarded := false } }))))

/-- The value of a sample from its bytes: U8, U16 with and without byte swap, and S16 in two's complement. A sample is trip-like outside
the thresholds or between them, by the slot's area, with the thresholds read in the data type; it is the sample that the trip status
and the run count take, and a change raises GUARD at the Service port. The trip status changes
exactly at the last of as many consecutive samples on the other side as the debounce count, and a sample on its own side sets the
run count to 0. -/
def Obligations.SamplesAndTrips : Prop :=
  (∀ (b0 b1 : Byte) (swap : Bool),
    sampleValue .u8 swap b0 b1 = b0.toNat
    ∧ sampleValue .u16 false b0 b1 = b0.toNat + 256 * b1.toNat
    ∧ sampleValue .u16 true b0 b1 = 256 * b0.toNat + b1.toNat
    ∧ sampleValue .s16 false b0 b1 = (b1 ++ b0).toInt
    ∧ sampleValue .s16 true b0 b1 = (b0 ++ b1).toInt)
  ∧ (∀ (r : SlotRecord) (v : Int) (low high : BitVec 16), r.underPattern = low.toNat → r.overPattern = high.toNat →
    let value := fun (b : BitVec 16) => if r.dataType = .s16 then b.toInt else (b.toNat : Int)
    (r.area = .outside → (tripLike r v = true ↔ value high ≤ v ∨ v ≤ value low))
    ∧ (r.area = .inside → (tripLike r v = true ↔ value low < v ∧ v < value high)))
  ∧ (∀ (d : Dev) (n : Fin 4) (v : Int),
    let slot := d.guard.get n
    let t := takeSample n v d
    let after := debounce slot (tripLike slot.record v)
    t.guard.get n = { slot with lastSample := some v, trip := after.1, runCount := after.2 }
      ∧ (∀ m, m ≠ n → t.guard.get m = d.guard.get m)
      ∧ (after.1 = slot.trip → t = d.setGuard t.guard ∧ t.guard.stopCondition = d.guard.stopCondition)
      ∧ (after.1 ≠ slot.trip → eventSet t .service .guardEvent ∧ t.guard.stopCondition = stopConditionOf t.guard))
  ∧ (∀ (slot : GuardSlot) (k : Nat), 1 ≤ slot.record.debounce → slot.runCount = 0 →
    let away : Bool := slot.trip == TripStatus.clear
    let after := fun (j : Nat) => Nat.rec (motive := fun _ => GuardSlot) slot
      (fun _ x => { x with trip := (debounce x away).1, runCount := (debounce x away).2 }) j
    (k < slot.record.debounce → (after k).trip = slot.trip ∧ (after k).runCount = k)
    ∧ ((after slot.record.debounce).trip ≠ slot.trip ∧ (after slot.record.debounce).runCount = 0)
    ∧ (k < slot.record.debounce → debounce (after k) (!away) = (slot.trip, 0)))

/-- The guard stop condition as R60 states it. The suspect latch is set by a source of R61 and stays set; a frame opening clears it, and a
source that holds sets it again at once. When the guard stop condition becomes true, a moving transport goes to STOPPING with
reason GUARD, one that stops for another reason takes the reason GUARD, and one at rest goes to HALTED with cause GUARD. -/
def Obligations.GuardStopBrakesOrHalts : Prop :=
  (∀ g : Guard,
    let counts := fun (n : Fin 4) => (g.get n).trip = .tripped ∨ (g.get n).state = .faulted
    let stops := fun (n : Fin 4) (vote : Bool) => (g.get n).record.action = .stop ∧ (g.get n).record.vote = vote
    (stopConditionOf g = true ↔
      (∃ n, stops n false ∧ counts n)
      ∨ (g.combineMode = .any ∧ ∃ n, stops n true ∧ counts n)
      ∨ (g.combineMode = .all ∧ (∃ n, stops n true ∧ (g.get n).state ≠ .off)
        ∧ ∀ n, stops n true → (g.get n).state ≠ .off → counts n)))
  ∧ (∀ (d : Dev) (r : LineResult),
    let source := ∃ n, ((d.guard.get n).record.action = .stop ∨ (d.guard.get n).record.action = .mark)
      ∧ ((d.guard.get n).trip = .tripped ∨ (d.guard.get n).state = .faulted)
    ((recomputeGuard d).guard.suspectLatch = true ↔ d.guard.suspectLatch = true ∨ source)
    ∧ ((openFrame r d).guard.suspectLatch = true ↔ source))
  ∧ (∀ d : Dev, stopConditionOf d.guard = true → d.guard.stopCondition = false →
    (recomputeGuard d).guard.stopCondition = true
    ∧ (d.transport.motion = .jog ∨ d.transport.motion = .seek ∨ d.transport.motion = .creep ∨ d.transport.motion = .scan →
      (recomputeGuard d).transport = { d.transport with motion := .stopping, stopReason := some .guardStop })
    ∧ (d.transport.motion = .stopping → (recomputeGuard d).transport = { d.transport with stopReason := some .guardStop })
    ∧ (d.transport.motion = .idle ∨ d.transport.motion = .parked ∨ d.transport.motion = .retensioning →
      InHalt .guardStop (recomputeGuard d)))

/-! ### Line triggers and line statistics -/

/-- The trigger placement: successive positions of an arm lie at least 1 µm apart, and the first index is the smallest whose position
lies at or above the counter. A forward count that reaches the next trigger position of an arm gives one pulse: in SCAN mode the
line counter is the line number and rises by one, in PROBE mode it stays; the capture expects a new segment, and one still expected is
handed on as missing. A count that reaches the stop position, or a trigger position with the line counter at its limit, gives no pulse
and disarms, and a run that is RUNNING is ENDING with cause COMPLETE or LIMIT. An arm request tells its operation NOT_OWNER, or the
index at which the arm begins. A disarm has the effects of R72, and a pending correction then moves the counter, the splices, the tail
and the resume point. -/
def Obligations.TriggersOnTheirGrid : Prop :=
  ((∀ (a : Arm) (k : Nat), 256 ≤ a.pitch → armPosition a k + 1 ≤ armPosition a (k + 1))
  ∧ ∀ (base counter : Int) (pitch : Nat), 256 ≤ pitch →
      counter ≤ base + (firstIndex base pitch counter * pitch / 256 : Nat)
      ∧ ∀ k, k < firstIndex base pitch counter → base + (k * pitch / 256 : Nat) < counter)
  ∧ (∀ (s : State) (a : Arm) (la lb : Bool), s.dev.trigger.arm = some a → a.stopAt = none → s.dev.focus.search = none →
    (∀ seg, s.dev.lines.expected = some seg → s.dev.detector.activity = .idle ∧ s.dev.detector.openFrame = none) →
    (∀ c start v pitch line stop, s.dev.transport.current = some c → c.order.kind = .scan start v pitch line stop →
      c.baseReported = true) →
    Settled s.dev → (a.mode = .scan → s.dev.trigger.lineCounter < 4294967295) →
    (phaseIndex la lb + 4 - phaseIndex s.dev.metering.phaseA s.dev.metering.phaseB) % 4 = 1 →
    -2147483648 ≤ s.dev.metering.counter → s.dev.metering.counter < 2147483647 →
    nextPosition a ≤ s.dev.metering.counter + 1 →
    let line := if a.mode = .scan then some s.dev.trigger.lineCounter else none
    exec (.encoderPhaseChange la lb) s
      = .next (s.setDev (((s.dev.setMetering
          { s.dev.metering with phaseA := la, phaseB := lb, counter := s.dev.metering.counter + 1 }).setTrigger
          { arm := some { a with index := a.index + 1 }
            lineCounter := if a.mode = .scan then s.dev.trigger.lineCounter + 1 else s.dev.trigger.lineCounter
            pulses := s.dev.trigger.pulses + 1 }).setLines
          { s.dev.lines with
            expected := some
              { trigger := { mode := a.mode, index := a.index, position := nextPosition a, line := line }, bytes := [] }
            last := match s.dev.lines.expected with
              | some seg => some { trigger := seg.trigger, stats := none }
              | none => s.dev.lines.last })))
  ∧ (∀ (s : State) (a : Arm) (la lb : Bool) (cause : RunCause), s.dev.trigger.arm = some a → s.dev.focus.search = none →
    (∀ c start v pitch line stop, s.dev.transport.current = some c → c.order.kind = .scan start v pitch line stop →
      c.baseReported = true) →
    Settled s.dev → (phaseIndex la lb + 4 - phaseIndex s.dev.metering.phaseA s.dev.metering.phaseB) % 4 = 1 →
    -2147483648 ≤ s.dev.metering.counter → s.dev.metering.counter < 2147483647 →
    ((∃ e, a.stopAt = some e ∧ e ≤ s.dev.metering.counter + 1) ∧ cause = .complete)
      ∨ (a.stopAt = none ∧ a.mode = .scan ∧ s.dev.trigger.lineCounter = 4294967295
        ∧ nextPosition a ≤ s.dev.metering.counter + 1 ∧ cause = .limit) →
    ∃ t, exec (.encoderPhaseChange la lb) s = .next t ∧ t.pending = s.pending ∧ t.dev.trigger.arm = none
      ∧ t.dev.trigger.pulses = s.dev.trigger.pulses ∧ t.dev.lines.expected = none
      ∧ ∀ r, s.dev.scan.run = some r → r.state = .running → a.owner = .scan → a.mode = .scan → s.dev.transport.grant = .scan →
        s.dev.transport.motion = .scan →
        t.dev.transport.motion = .stopping ∧ ∃ r', t.dev.scan.run = some r' ∧ r'.state = .ending ∧ r'.cause = some cause
          ∧ r'.savedLine = s.dev.trigger.lineCounter ∧ r'.boundary = none)
  ∧ (∀ (d : Dev) (owner : Owner) (mode : ArmMode) (base : Int) (pitch line : Nat) (stopAt : Option Int),
    (d.transport.grant ≠ owner → armTrigger owner mode base pitch stopAt line d = d.setInbox (d.inbox ++ [.armNotOwner owner]))
    ∧ (d.transport.grant = owner → d.trigger.arm = none → stopAt = none → (mode = .scan → line < 4294967295) →
      let k := firstIndex base pitch d.metering.counter
      (armTrigger owner mode base pitch stopAt line d).inbox = d.inbox ++ [.armBegan owner k]
      ∧ ∃ a, (armTrigger owner mode base pitch stopAt line d).trigger.arm = some a ∧ a.owner = owner ∧ a.mode = mode ∧ a.base = base
        ∧ a.pitch = pitch ∧ a.stopAt = none
        ∧ a.index = if base + (k * pitch / 256 : Nat) = d.metering.counter then k + 1 else k))
  ∧ (∀ (d : Dev) (a : Arm) (why : DisarmCause) (delta : Int), d.trigger.arm = some a →
    d.roll.pendingCorrection = some delta ∨ (d.roll.pendingCorrection = none ∧ delta = 0) →
    let t := disarm why false d
    t.trigger = { d.trigger with arm := none } ∧ t.lines = { d.lines with expected := none, last := none }
      ∧ t.inbox = d.inbox ++ [.disarmed a.owner why] ∧ t.scan.gate = false ∧ t.detector.activity = .idle
      ∧ t.detector.openFrame = none ∧ t.roll.pendingCorrection = none
      ∧ (t.metering.counter = if d.roll.pendingCorrection = none then d.metering.counter
        else max (-2147483648) (min 2147483647 (d.metering.counter - delta)))
      ∧ t.roll.splices = d.roll.splices.map (· - delta) ∧ t.roll.tail = d.roll.tail.map (· - delta)
      ∧ (d.roll.pendingCorrection ≠ none → t.roll.lastCorrection = delta)
      ∧ ∀ r, d.scan.run = some r → ∃ r', t.scan.run = some r' ∧ r'.state = r.state ∧ r'.boundary = none
        ∧ r'.resume = r.resume.map (fun q => { q with position := q.position - delta })
        ∧ r'.savedLine = if a.mode = .scan then d.trigger.lineCounter else r.savedLine)

/-- Monitor-bus bytes: discarded while no segment is expected, kept while the segment is short, and with the 64th a line result. The
level of a line is at most 255, each focus half-sum at most 8,160, and a saturated half counts as 0; a line is counted unless both
halves are saturated. A line taken in RUN: an accepted gap ends UNKNOWN, an IMAGE_LIKE line there opens nothing and in a gap opens a
frame with its gate; an accepted gap run closes the frame at its first line with the acceptance line as boundary, and a frame that has
reached the maximum length is closed by the forcing line, which is its last and after which the next line opens. Each close gives one
FRAME notice. A disarm hands an open frame on as TRUNCATED at the last line taken and drops the marks since the last close, which the
model takes as those with the highest positions (log entry 45, DESIGN CHOICE). Each line result, of a completed segment or missing at
a count, is handed to the detector in RUN or CONFIRM and then to the focus controller (log entry 9), and a frame's window gathers its
counted lines while the lens is IDLE. A forward count looks at the base, then the generator, then the search travel (log entry 8). A
confirmation begins at the end of its approach; its first opening is the measured start and ends it, with no notice, gate or suspect
latch touched. At BASE_REACHED a PREPARING run becomes RUNNING with the detector as Table 6-1 says: the first start empties the marks
and sets the address counters by the start mode, a resume keeps both. When the same count has already ended the arm, the detector ends
IDLE. -/
def Obligations.LinesAndTheirStatistics : Prop :=
  (∀ (s : State) (b : Byte),
    (s.dev.lines.expected = none → Settled s.dev →
      exec (.monitorByteReceived b) s = .next s ∧ exec (.segmentComplete b) s = .next s)
    ∧ (∀ seg, s.dev.lines.expected = some seg → seg.bytes.length < 63 → Settled s.dev →
      exec (.monitorByteReceived b) s
        = .next (s.setDev (s.dev.setLines { s.dev.lines with expected := some { seg with bytes := seg.bytes ++ [b] } })))
    ∧ (∀ seg, s.dev.lines.expected = some seg → seg.bytes.length = 63 → s.dev.detector.activity = .idle →
      s.dev.focus.search = none → s.dev.detector.openFrame = none → Settled s.dev →
      exec (.segmentComplete b) s
        = .next (s.setDev (s.dev.setLines
            { s.dev.lines with
              expected := none
              last := some
                { trigger := seg.trigger
                  stats := some (lineStats (seg.bytes ++ [b]) s.dev.lines.tapMap s.dev.lines.stride) } }))))
  ∧ (∀ (raw : List Byte) (m : TapMap) (stride : Nat), raw.length = 64 → 1 ≤ stride → stride ≤ 4 →
    let st := lineStats raw m stride
    st.level ≤ 255 ∧ st.focusLow ≤ 8160 ∧ st.focusHigh ≤ 8160 ∧ st.focusSum = st.focusLow + st.focusHigh
    ∧ (st.saturatedLow = true → st.focusLow = 0) ∧ (st.saturatedHigh = true → st.focusHigh = 0)
    ∧ (st.counted = false ↔ st.saturatedLow = true ∧ st.saturatedHigh = true))
  ∧ (∀ (d : Dev) (a : Arm) (r : LineResult) (n : Nat), r.trigger.line = some n → d.detector.openNext = false →
    let det := d.detector
    let x := r.trigger.position
    let t := runLine a r d
    let cls := classify ((d.roll.record.map (·.polarity)).getD .negative) det.cfg det.previous (r.stats.map (·.level))
    let first := det.gapRun.getD { position := x, line := n }
    let accepted := 256 * (x - first.position) + a.pitch ≥ 256 * (det.cfg.minGap : Int)
    let opens := t.detector.gapState = .inFrame ∧ t.scan.gate = true ∧ t.detector.gapRun = none ∧ t.detector.previous = .imageLike
      ∧ t.detector.openFrame
        = some { start := x, firstLine := n, monitorGap := r.stats.isNone, lastLine := n, lastPosition := x }
    (det.gapState = .unknown → cls = .imageLike →
      t = d.setDetector { det with previous := .imageLike, gapRun := none, openFrame := det.openFrame.map fun f => f.take r })
    ∧ (det.gapState = .unknown → cls = .gapLike → accepted → t.detector.gapState = .inGap ∧ t.detector.gapRun = none)
    ∧ (det.gapState ≠ .inFrame → cls = .gapLike → ¬ accepted →
      t.detector.gapState = det.gapState ∧ t.detector.gapRun = some first ∧ t.scan = d.scan)
    ∧ (det.gapState = .inGap → cls = .imageLike → opens)
    ∧ (runLine a r (d.setDetector { det with openNext := true })).detector.openFrame
      = some { start := x, firstLine := n, monitorGap := r.stats.isNone, lastLine := n, lastPosition := x }
    ∧ (∀ f run, det.gapState = .inFrame → det.openFrame = some f → d.scan.run = some run →
      let missed := f.monitorGap || r.stats.isNone
      let closes := fun (forced : Bool) (end_ : Int) (lastLine : Nat) (q : Int) (st : ResumeState) =>
        t.detector.gapState ≠ .inFrame ∧ t.detector.openFrame = none ∧ t.detector.gapRun = none ∧ t.scan.gate = false
          ∧ t.detector.sinceClose = 0
          ∧ (∃ notice, t.scan.notices = d.scan.notices ++ [notice] ∧ notice.kind = .frame ∧ notice.run = run.number
            ∧ notice.start = f.start ∧ notice.length = (end_ - f.start).toNat ∧ notice.firstLine = f.firstLine
            ∧ notice.lastLine = lastLine ∧ notice.flags.forced = forced ∧ notice.flags.monitorGap = missed
            ∧ notice.flags.suspect = d.guard.suspectLatch)
          ∧ (∃ run', t.scan.run = some run' ∧ run'.framesClosed = run.framesClosed + 1
            ∧ (run'.state = .running → t.detector.openNext = forced ∧ run'.boundary = some { position := q, state := st }))
      (cls = .gapLike → accepted → closes false first.position (first.line - 1) x .inGap)
      ∧ (¬ (cls = .gapLike ∧ accepted) → (det.cfg.maxFrame : Int) ≤ x - f.start →
        closes true x n (a.base + ((r.trigger.index + 1) * a.pitch / 256 : Nat)) .frameStart)
      ∧ (¬ (cls = .gapLike ∧ accepted) → x - f.start < det.cfg.maxFrame →
        t.detector.gapState = .inFrame ∧ t.scan = d.scan
          ∧ t.detector.openFrame = some { f with lastLine := n, lastPosition := x, monitorGap := missed })))
  ∧ (∀ (d : Dev) (a : Arm) (f : OpenFrame) (run : RunRecord) (why : DisarmCause), d.trigger.arm = some a →
    d.detector.activity = .run → d.detector.openFrame = some f → d.scan.run = some run → d.roll.pendingCorrection = none →
    let t := disarm why false d
    t.detector.marks = d.detector.marks.take (d.detector.marks.length - d.detector.sinceClose) ∧ t.detector.openMark = none
      ∧ t.detector.sinceClose = 0 ∧ t.detector.counters = d.detector.counters ∧ t.index = d.index
      ∧ ∃ notice, t.scan.notices = d.scan.notices ++ [notice] ∧ notice.kind = .truncated ∧ notice.frame = none
        ∧ notice.start = f.start ∧ notice.length = (f.lastPosition - f.start).toNat ∧ notice.firstLine = f.firstLine
        ∧ notice.lastLine = f.lastLine ∧ notice.address = d.detector.counters ∧ notice.markLevel = 0
        ∧ notice.matchKind = .notAppended ∧ notice.flags.unmarked = false ∧ notice.flags.monitorGap = f.monitorGap)
  ∧ (∀ (s : State) (b : Byte) (seg : ExpectedSegment), s.dev.lines.expected = some seg → 63 ≤ seg.bytes.length →
    exec (.segmentComplete b) s = .next (s.setDev (settle (handResult
      { trigger := seg.trigger, stats := some (lineStats (seg.bytes ++ [b]) s.dev.lines.tapMap s.dev.lines.stride) }
      (s.dev.setLines { s.dev.lines with expected := none })))))
  ∧ (∀ (d : Dev) (r : LineResult),
    let h := d.setLines { d.lines with last := some r }
    (∀ a, d.trigger.arm = some a → d.detector.activity = .run → handResult r d = frameLine r (searchLine r (runLine a r h)))
    ∧ (∀ a, d.trigger.arm = some a → d.detector.activity = .confirm →
      handResult r d = frameLine r (searchLine r (confirmLine a r h)))
    ∧ (d.detector.activity = .idle ∨ d.trigger.arm = none → handResult r d = frameLine r (searchLine r h))
    ∧ (d.focus.search = none → searchLine r d = d)
    ∧ (∀ f w, d.detector.openFrame = some f → d.focus.frameWindow = some w →
      (∀ st, w.score = none → r.stats = some st → st.counted = true → d.focus.lens.state = .idle →
        let win : Window :=
          { w.window with
            count := w.window.count + 1, sumF := w.window.sumF + st.focusSum, sumL := w.window.sumL + st.level }
        let score := if win.length ≤ win.count then some (min 65535 (win.sumF * 256 / (win.sumL + 1))) else none
        frameLine r d = d.setFocus { d.focus with frameWindow := some { window := win, score := score } })
      ∧ (w.score ≠ none ∨ r.stats = none ∨ r.stats.any (fun st => !st.counted) = true ∨ d.focus.lens.state ≠ .idle →
        frameLine r d = d))
    ∧ (d.detector.openFrame = none ∨ d.focus.frameWindow = none → frameLine r d = d))
  ∧ (∀ (s : State) (la lb : Bool), (phaseIndex la lb + 4 - phaseIndex s.dev.metering.phaseA s.dev.metering.phaseB) % 4 = 1 →
    exec (.encoderPhaseChange la lb) s
      = .next (s.setDev (settle (searchTravelCheck (generatorCount (checkBase (s.dev.setMetering
          { s.dev.metering with
            phaseA := la, phaseB := lb
            counter := max (-2147483648) (min 2147483647 (s.dev.metering.counter + 1)) })))))))
  ∧ (∀ d : Dev,
    let p := d.metering.counter
    (∀ c start v pitch line stop, d.transport.current = some c → c.order.kind = .scan start v pitch line stop →
      checkBase d = if c.runPhase = true ∧ c.baseReported = false ∧ start ≤ p then
        (d.setTransport { d.transport with current := some { c with baseReported := true } }).setInbox (d.inbox ++ [.baseReached])
      else d)
    ∧ (d.trigger.arm = none → generatorCount d = d)
    ∧ (∀ a, d.trigger.arm = some a →
      let stopped := ∃ e ∈ a.stopAt, e ≤ p
      (stopped → generatorCount d = disarm .stopPosition false d)
      ∧ (¬ stopped → p < nextPosition a → generatorCount d = d)
      ∧ (¬ stopped → nextPosition a ≤ p → a.mode = .scan → d.trigger.lineCounter = 4294967295 →
        generatorCount d = disarm .lineLimit false d)
      ∧ (¬ stopped → nextPosition a ≤ p → a.mode = .probe ∨ d.trigger.lineCounter ≠ 4294967295 →
        generatorCount d = match d.lines.expected with
          | some seg => handResult { trigger := seg.trigger, stats := none } (emitTrigger a d)
          | none => emitTrigger a d))
    ∧ (d.focus.search = none → searchTravelCheck d = d)
    ∧ (∀ k, d.focus.search = some k →
      searchTravelCheck d = if (d.focus.cfg.searchTravel : Int) ≤ p - k.start then endSearch false d else d))
  ∧ (∀ (d : Dev) (a : Arm) (r : LineResult),
    let det := d.detector
    let x := r.trigger.position
    let cls := classify ((d.roll.record.map (·.polarity)).getD .negative) det.cfg det.previous (r.stats.map (·.level))
    let first := det.gapRun.getD { position := x, line := r.trigger.line.getD 0 }
    let accepted := cls = .gapLike ∧ 256 * (x - first.position) + a.pitch ≥ 256 * (det.cfg.minGap : Int)
    (det.gapState = .inGap → cls = .imageLike →
      confirmLine a r d = { d with
        inbox := d.inbox ++ [.measuredStart x]
        detector := { det with
          activity := .idle, gapState := .unknown, previous := .imageLike, openNext := false, gapRun := none, openFrame := none }
        focus := { d.focus with frameLens := none, frameWindow := none } })
    ∧ (¬ (det.gapState = .inGap ∧ cls = .imageLike) →
      confirmLine a r d = { d with
        inbox := d.inbox ++ [.confirmLine x]
        detector := { det with
          previous := cls
          gapState := if accepted then .inGap else det.gapState
          gapRun := (if cls = .imageLike ∨ accepted then none else some first) } }))
  ∧ (∀ (d : Dev) (a : Attempt) (begun : Bool), d.retrieval.attempt = some a → a.phase = .approach → d.transport.grant = .retrieval →
    d.transport.motion = .idle → d.trigger.arm = none → d.inputs.driveReady = true → d.metering.counter < upperLimit d →
    let t := takeReport (.orderEnded .retrieval .arrived begun) d
    t.retrieval.attempt = some { a with phase := .confirm } ∧ t.transport.motion = .creep
      ∧ t.detector = { d.detector with
          activity := .confirm, gapState := .unknown, previous := .imageLike, openNext := false, gapRun := none, openFrame := none }
      ∧ t.trigger = { d.trigger with
          pulses := d.trigger.pulses + 1
          arm := some
            { owner := .retrieval, mode := .probe, base := d.metering.counter, pitch := d.retrieval.cfg.confirmPitch
              stopAt := none, index := 1 } })
  ∧ (∀ (d : Dev) (r : RunRecord), d.scan.run = some r →
    let t := takeReport .baseReached d
    let st : ResumeState := (r.resume.map (·.state)).getD r.initialGap
    let began : Detector := { d.detector with
      activity := .run, openNext := st == ResumeState.frameStart, gapRun := none, openFrame := none
      gapState := if st = .unknown then .unknown else .inGap
      previous := if st = .unknown then .imageLike else .gapLike }
    let base := (d.roll.record.map (·.base)).getD { batch := 0, doc := 0, page := 0 }
    (r.state ≠ .preparing → t = d)
    ∧ (r.state = .preparing →
      t.scan.run = some { r with state := .running, started := true, prep := .none } ∧ eventSet t .capture .run
      ∧ (d.trigger.arm = none → t.detector.activity = .idle)
      ∧ (d.trigger.arm ≠ none → r.started = true →
        t.detector = { began with
          openMark := if d.inputs.blipIn = (d.detector.cfg.blipActive == BlipLevel.high) then d.detector.openMark else none })
      ∧ (d.trigger.arm ≠ none → r.started = false →
        t.detector = { began with
          marks := [], openMark := none, markLost := false, firstClose := false, sinceClose := 0, counters := t.detector.counters }
        ∧ (d.index.entries = [] → t.detector.counters = base)
        ∧ (∀ last, d.index.entries.getLast? = some last →
          (r.startMode = .continue_ → t.detector.counters = last.address)
          ∧ (r.startMode = .atFrame 0 → t.detector.counters = base)
          ∧ (∀ n e, r.startMode = .atFrame (n + 1) → d.index.entries[n]? = some e → t.detector.counters = e.address)
          ∧ (r.startMode = .atPosition → (∀ e : IndexEntry, e ∈ d.index.entries → r.base ≤ e.start) → t.detector.counters = base)
          ∧ (∀ n e, r.startMode = .atPosition → d.index.entries[n]? = some e → e.start < r.base →
            (∀ (m : Nat) (f : IndexEntry), d.index.entries[m]? = some f → f.start < r.base → m ≤ n) → t.detector.counters = e.address)))))

/-! ### Lens and focus -/

/-- A lens step that is due moves the lens one step toward its target and gives one pulse; with the last step the settle time begins.
While FRAME_GATE is asserted, or before the step is due, nothing happens. The settle time ends a move in IDLE, with FOCUS at the
Service port for a LENS_MOVE, and a homing in IDLE with FOCUS and the release of the grant that SERVICE still holds. -/
def Obligations.LensMovesAndRests : Prop :=
  (∀ (s : State) (m : MoveRecord), s.dev.focus.lens.state = .moving → s.dev.focus.lens.move = some m → m.settledAt = none →
    1 ≤ m.rate →
    let l := s.dev.focus.lens
    let due := (m.issued + 1) * 1000 ≤ m.elapsed * m.rate
    let up := decide (l.step < m.target)
    let step := if l.step < m.target then l.step + 1 else l.step - 1
    (s.dev.scan.gate = true ∨ ¬ due → exec .lensStepDue s = .next s)
    ∧ (s.dev.scan.gate = false → due → step ≠ m.target → Settled s.dev →
      exec .lensStepDue s
        = .next (s.setDev (s.dev.setFocus { s.dev.focus with lens :=
            { l with step := step, move := some { m with issued := m.issued + 1 }, dirHigh := up, pulses := l.pulses + 1 } })))
    ∧ (s.dev.scan.gate = false → due → step = m.target → s.dev.focus.cfg.lensSettle ≠ 0 → Settled s.dev →
      exec .lensStepDue s
        = .next (s.setDev (s.dev.setFocus { s.dev.focus with lens :=
            { l with
              step := step, dirHigh := up, pulses := l.pulses + 1
              move := some
                { m with issued := m.issued + 1, settledAt := some (s.dev.time + s.dev.focus.cfg.lensSettle) } } }))))
  ∧ (∀ s : State, s.dev.focus.search = none → Settled s.dev → (∀ a, s.dev.retrieval.attempt = some a → a.phase ≠ .lensWait) →
    (∀ m t, s.dev.focus.lens.state = .moving → s.dev.focus.lens.move = some m → m.settledAt = some t →
      (s.dev.time < t → exec .lensSettleEnd s = .next s)
      ∧ (t ≤ s.dev.time →
        let d := s.dev.setFocus { s.dev.focus with lens :=
          { s.dev.focus.lens with state := .idle, move := none, serviceWatch := false } }
        exec .lensSettleEnd s
          = .next (s.setDev (if s.dev.focus.lens.serviceWatch = true then raise .service .focus d else d))))
    ∧ (∀ h t, s.dev.focus.lens.state = .homing → s.dev.focus.lens.homing = some h → h.settledAt = some t →
      (s.dev.time < t → exec .lensSettleEnd s = .next s)
      ∧ (t ≤ s.dev.time → h.holdsGrant = false →
        exec .lensSettleEnd s
          = .next (s.setDev (raise .service .focus (s.dev.setFocus { s.dev.focus with lens :=
              { s.dev.focus.lens with state := .idle, homing := none } }))))
      ∧ (t ≤ s.dev.time → h.holdsGrant = true →
        exec .lensSettleEnd s
          = .next (s.setDev (settle (releaseGrant .service (raise .service .focus (s.dev.setFocus { s.dev.focus with lens :=
              { s.dev.focus.lens with state := .idle, homing := none } }))))))))

/-- LENS_HOME is refused with STATE while the lens is HOMING or MOVING, and otherwise gives the grant to SERVICE and makes the lens
HOMING, with tension RELEASE re-tensioning too. Homing steps go toward decreasing steps and leave the lens step; the switch makes it 0
and begins the settle time, and 4,400 steps without the switch end in FAULT with step 0 and the FOCUS event, and release the grant that
the homing holds. That the step is 0 already in the settle time is the model's choice (log entry 44). -/
def Obligations.HomingFindsTheSwitch : Prop :=
  (∀ (s : State) (tag : Byte) (p x : List Byte), takes s .service p → s.dev.transport.grant = .nobody →
    s.dev.transport.motion = .idle → s.dev.transport.tension = .hold → Settled s.dev → s.dev.focus.frameLens = none →
    let d := heard .service (requestFrame tag p x) s
    (s.dev.focus.lens.state = .homing ∨ s.dev.focus.lens.state = .moving →
      exec (.lensHome .service (requestFrame tag p x)) s = .next (answers s .service tag .state [] d))
    ∧ (s.dev.focus.lens.state = .unhomed ∨ s.dev.focus.lens.state = .idle ∨ s.dev.focus.lens.state = .fault →
      s.dev.inputs.lensHome = false →
      exec (.lensHome .service (requestFrame tag p x)) s
        = .next (answers s .service tag .accepted []
            ((d.setTransport { d.transport with grant := .service, releasePending := false, parkTimer := 0 }).setFocus
              { d.focus with lens :=
                { d.focus.lens with
                  state := .homing
                  homing := some
                    { issued := 0, elapsed := 0, rate := d.focus.cfg.stepRate, settledAt := none, holdsGrant := true } } }))))
  ∧ (∀ (s : State) (tag : Byte) (p x : List Byte), takes s .service p → s.dev.transport.grant = .nobody →
    s.dev.transport.motion = .idle ∨ s.dev.transport.motion = .parked → s.dev.transport.tension = .release → Settled s.dev →
    s.dev.focus.frameLens = none → s.dev.inputs.lensHome = false →
    s.dev.focus.lens.state = .unhomed ∨ s.dev.focus.lens.state = .idle ∨ s.dev.focus.lens.state = .fault →
    let d := heard .service (requestFrame tag p x) s
    exec (.lensHome .service (requestFrame tag p x)) s
      = .next (answers s .service tag .accepted []
          ((d.setTransport
            { d.transport with
              motion := .retensioning, grant := .service, releasePending := false, parkTimer := 0, tension := .hold
              driveEnable := true, demand := 0, tensionedAt := some (d.time + d.transport.cfg.tensionSettle) }).setFocus
            { d.focus with lens :=
              { d.focus.lens with
                state := .homing
                homing := some
                  { issued := 0, elapsed := 0, rate := d.focus.cfg.stepRate, settledAt := none, holdsGrant := true } } })))
  ∧ (∀ (s : State) (h : Homing), s.dev.focus.lens.state = .homing → s.dev.focus.lens.homing = some h → h.settledAt = none →
    1 ≤ h.rate → s.dev.scan.gate = false → Settled s.dev →
    let l := s.dev.focus.lens
    let sampled := fun (b : Bool) => s.dev.setInputs { s.dev.inputs with lensHome := b }
    ((h.issued + 1) * 1000 ≤ h.elapsed * h.rate → h.issued < 4400 →
      exec (.homingStep false) s
          = .next (s.setDev ((sampled false).setFocus { s.dev.focus with lens :=
              { l with homing := some { h with issued := h.issued + 1 }, dirHigh := false, pulses := l.pulses + 1 } }))
        ∧ (s.dev.focus.cfg.lensSettle ≠ 0 →
          exec (.homingStep true) s
            = .next (s.setDev ((sampled true).setFocus { s.dev.focus with lens :=
                { l with
                  step := 0
                  homing := some { h with settledAt := some (s.dev.time + s.dev.focus.cfg.lensSettle) } } }))))
    ∧ (4400 ≤ h.issued → h.holdsGrant = false → s.dev.retrieval.attempt = none →
      exec .homingStepLimit s
        = .next (s.setDev (raise .service .focus (s.dev.setFocus { s.dev.focus with lens :=
            { l with state := .fault, step := 0, homing := none } }))))
    ∧ (4400 ≤ h.issued → h.holdsGrant = true →
      exec .homingStepLimit s
        = .next (s.setDev (settle (releaseGrant .service (raise .service .focus (s.dev.setFocus { s.dev.focus with lens :=
            { l with state := .fault, step := 0, homing := none } }))))))
    ∧ (h.issued < 4400 → exec .homingStepLimit s = .next s))

/-- LENS_MOVE is refused with STATE while the lens is not IDLE, a search or a scan is under way, or the scheduler holds the lens, with
BAD_VALUE above 4,095, and otherwise starts the move. -/
def Obligations.LensMoveStartsTheMove : Prop :=
  ∀ (s : State) (tag : Byte) (p x : List Byte), takes s .service p → 2 ≤ p.length →
    let d := heard .service (requestFrame tag p x) s
    let target := natAt p 0 2
    let blocked := s.dev.focus.lens.state ≠ .idle ∨ s.dev.focus.search.isSome = true
      ∨ runIn s.dev [.preparing, .running, .suspending] = true ∨ lensHeld s.dev = true
    (blocked → exec (.lensMove .service (requestFrame tag p x)) s = .next (answers s .service tag .state [] d))
    ∧ (¬ blocked → 4095 < target →
      exec (.lensMove .service (requestFrame tag p x)) s = .next (answers s .service tag .badValue [] d))
    ∧ (¬ blocked → target ≤ 4095 → target ≠ s.dev.focus.lens.step → s.dev.focus.frameLens = none → Settled s.dev →
      exec (.lensMove .service (requestFrame tag p x)) s
        = .next (answers s .service tag .accepted []
            (d.setFocus
              { d.focus with lens :=
                { d.focus.lens with
                  state := .moving, serviceWatch := true
                  move := some
                    { target := target, requester := .service, issued := 0, elapsed := 0, rate := d.focus.cfg.stepRate
                      settledAt := none } } })))

/-- A taken FOCUS_SEARCH gives the grant to SERVICE, holds its creep through re-tensioning, arms the generator in PROBE mode at the
counter, and begins the first probe window with the lens at its start step. -/
def Obligations.FocusSearchBegins : Prop :=
  ∀ (s : State) (tag : Byte) (p x : List Byte), takes s .service p → s.dev.transport.grant = .nobody →
    s.dev.transport.motion = .idle ∨ s.dev.transport.motion = .parked → s.dev.transport.tension = .release →
    s.dev.roll.state = .threaded → s.dev.focus.lens.state = .idle → s.dev.scan.run = none → s.dev.trigger.arm = none →
    Settled s.dev →
    ∃ t, exec (.focusSearch .service (requestFrame tag p x)) s = .next t ∧ t.pending = s.pending
      ∧ (t.dev.ports.get .service).response = some { tag := tag, result := .accepted, payload := [] }
      ∧ t.dev.transport.grant = .service ∧ t.dev.transport.motion = .retensioning
      ∧ t.dev.transport.held = some { owner := .service, kind := .creep .probe }
      ∧ (∃ a, t.dev.trigger.arm = some a ∧ a.mode = .probe ∧ a.owner = .service ∧ a.base = s.dev.metering.counter
        ∧ a.pitch = s.dev.focus.cfg.searchPitch ∧ a.index = 1)
      ∧ (∃ r, t.dev.focus.search = some r ∧ r.requester = .service ∧ r.start = s.dev.metering.counter
        ∧ r.startStep = s.dev.focus.lens.step ∧ r.phase = .coarseUp ∧ r.probes = 0 ∧ r.best = none
        ∧ r.candidate = s.dev.focus.lens.step
        ∧ r.window = some { length := s.dev.focus.cfg.focusWindow, count := 0, sumF := 0, sumL := 0 })

/-- A full window's score counts as its probe's: the best step changes only for a strictly better score, the probe count rises by one, and
the next candidate follows R94 and R95: up by C while scores rise, down from s0 by C when none rose, then rounds about the best step by
f, an offset kept after a better round and halved after another, until it is 0 or 64 probes are made. A candidate is clamped from 0 to
4,095; a probe moves the lens there and begins its window at rest, with the length then in force (log entry 34, DESIGN CHOICE). The score of a window is floor(ΣF × 256 / (ΣL + 1)), at most 65,535. The track cycle of R101: two
counted low scores in STEADY, or a SPLICE frame, begin the probe up; a probe that beats the low score is kept, and one that does not
leads down and then back. A pause of tracking sets the restore step to the expected step, and a resume moves the lens to it, or loses
the track for the rest of the run when the lens cannot take a move. A preparation begins with the seek of a search only in a run that has
not been RUNNING, with no run focus step under SEARCH, or no track context under TRACK and none lost before; otherwise with the SCAN
order. -/
def Obligations.SearchScores : Prop :=
  (∀ (r : SearchRecord) (x : Nat), r.candidate ≤ 4095 → r.startStep ≤ 4095 →
    (∀ b, r.best = some b → b.1 ≤ 4095) →
    (takeProbe r x).1.probes = r.probes + 1
    ∧ (takeProbe r x).1.lastScore = some x
    ∧ (takeProbe r x).1.best
      = (match r.best with
        | none => some (r.candidate, x)
        | some (b, y) => if y < x then some (r.candidate, x) else some (b, y))
    ∧ (∀ c, (takeProbe r x).2 = some c → c ≤ 4095))
  ∧ (∀ (r : SearchRecord) (x b y : Nat), (takeProbe r x).1.best = some (b, y) →
    let t := takeProbe r x
    let c := r.candidate
    let better := r.best = none ∨ ∃ p, r.best = some p ∧ p.2 < x
    let rounds := fun (f : Nat) => t.1.phase = .fine ∧ t.1.fine = f ∧ t.1.roundBest = b ∧ t.1.roundScore = y
      ∧ t.2 = if f = 0 then none else if 0 < b then some (b - f) else some (min f 4095)
    let first := max 1 (r.coarse / 4)
    (r.phase = .coarseUp →
      let next := min (c + r.coarse) 4095
      let climbs := (r.probes = 0 ∨ better) ∧ next ≠ c
      let rose := r.rose = true ∨ (r.probes ≠ 0 ∧ better)
      (climbs → t.2 = some next ∧ t.1.phase = .coarseUp ∧ (t.1.rose = true ↔ rose))
      ∧ (¬ climbs → rose → rounds first)
      ∧ (¬ climbs → ¬ rose → r.startStep - r.coarse = c → rounds first)
      ∧ (¬ climbs → ¬ rose → r.startStep - r.coarse ≠ c → t.2 = some (r.startStep - r.coarse) ∧ t.1.phase = .coarseDown))
    ∧ (r.phase = .coarseDown →
      (better → c - r.coarse ≠ c → t.2 = some (c - r.coarse) ∧ t.1.phase = .coarseDown)
      ∧ (¬ (better ∧ c - r.coarse ≠ c) → rounds first))
    ∧ (r.phase = .fine →
      let upper := min (r.roundBest + r.fine) 4095
      (c < r.roundBest ∧ upper ≠ r.roundBest → t.2 = some upper ∧ t.1.phase = .fine ∧ t.1.fine = r.fine
        ∧ t.1.roundBest = r.roundBest ∧ t.1.roundScore = r.roundScore)
      ∧ (¬ (c < r.roundBest ∧ upper ≠ r.roundBest) → rounds (if r.roundScore < y then r.fine else r.fine / 2))))
  ∧ (∀ (d : Dev) (k : SearchRecord) (w : Window) (st : LineStats) (r : LineResult), d.focus.search = some k → k.window = some w →
    r.stats = some st → st.counted = true → d.focus.lens.state = .idle →
    let win : Window :=
      { w with count := w.count + 1, sumF := w.sumF + st.focusSum, sumL := w.sumL + st.level }
    let t := takeProbe k (min 65535 (win.sumF * 256 / (win.sumL + 1)))
    let e := d.setFocus { d.focus with search := some t.1 }
    (win.count < win.length → searchLine r d = d.setFocus { d.focus with search := some { k with window := some win } })
    ∧ (win.length ≤ win.count → t.2 = none ∨ 64 ≤ t.1.probes → searchLine r d = endSearch false e)
    ∧ (∀ c, win.length ≤ win.count → t.2 = some c → t.1.probes < 64 → searchLine r d = probeAt c e))
  ∧ (∀ (d : Dev) (k : SearchRecord) (c : Nat), d.focus.search = some k →
    let goes := fun (w : Option Window) => d.setFocus { d.focus with search := some { k with candidate := c, window := w } }
    (d.focus.lens.state = .idle → d.focus.lens.step = c →
      probeAt c d = goes (some { length := d.focus.cfg.focusWindow, count := 0, sumF := 0, sumL := 0 }))
    ∧ (d.focus.lens.state = .idle → d.focus.lens.step ≠ c →
      (probeAt c d).focus.search = (goes none).focus.search ∧ (probeAt c d).focus.lens.state = .moving
        ∧ ∃ m, (probeAt c d).focus.lens.move = some m ∧ m.target = c ∧ m.requester = .search)
    ∧ (d.focus.lens.state = .unhomed ∨ d.focus.lens.state = .fault ∨ d.focus.lens.state = .homing →
      probeAt c d = endSearch true (goes none))
    ∧ (∀ r : LineResult, k.window = none ∨ r.stats = none ∨ r.stats.any (fun st => !st.counted) = true
      ∨ d.focus.lens.state ≠ .idle → searchLine r d = d))
  ∧ (∀ w : Window, w.score = (if 65535 < w.sumF * 256 / (w.sumL + 1) then 65535 else w.sumF * 256 / (w.sumL + 1)))
  ∧ (∀ (threshold : Nat) (t : TrackContext) (low x y k : Nat), t.probeOffset = some k → t.moveDue = false →
    let up := min (t.step + k) 4095
    let down := t.step - k
    let cycle := fun (t : TrackContext) (score held : Nat) => trackCycle threshold t (some score) (some held) false
    (t.state = .steady → t.reference * threshold ≤ 100 * x → cycle t x t.step = { t with lowCount := 0 })
    ∧ (t.state = .steady → t.lowCount = 0 → 100 * x < t.reference * threshold → 100 * y < t.reference * threshold →
      (cycle t x t.step).state = .steady ∧ (cycle t x t.step).lowCount = 1
        ∧ cycle (cycle t x t.step) y t.step
          = { t with state := .probeUp, lowScore := some y, moveDue := true, probeOffset := none })
    ∧ (t.state = .steady →
      trackCycle threshold t none none true
        = { t with state := .probeUp, lowCount := 0, lowScore := some t.reference, moveDue := true, probeOffset := none })
    ∧ (t.state = .probeUp → t.lowScore = some low →
      (low < x → cycle t x up = { t with step := up, reference := x, state := .steady })
      ∧ (x ≤ low → cycle t x up = { t with state := .probeDown, moveDue := true, probeOffset := none })
      ∧ (∀ held, held ≠ up → cycle t x held = t))
    ∧ (t.state = .probeDown → t.lowScore = some low →
      (low < x → cycle t x down = { t with step := down, reference := x, state := .steady })
      ∧ (x ≤ low → cycle t x down = { t with state := .goBack, moveDue := true, probeOffset := none })
      ∧ (∀ held, held ≠ down → cycle t x held = t))
    ∧ (t.state = .goBack → ∀ score held splice, trackCycle threshold t score held splice = t)
    ∧ (∀ d : Dev, d.focus.track = some t → t.state ≠ .goBack →
      (pauseTrack d).focus.track
        = some { t with restoreStep := if t.state = .probeUp then up else if t.state = .probeDown then down else t.step }))
  ∧ (∀ (d : Dev) (r : RunRecord) (q : ResumePoint) (t : TrackContext), d.scan.run = some r → r.focus = .track → r.resume = some q →
    d.focus.track = some t →
    (d.focus.lens.state = .idle → t.restoreStep ≠ d.focus.lens.step →
      (restoreLens d).focus.lens.state = .moving
        ∧ (restoreLens d).focus.lens.move.map (·.target) = some t.restoreStep ∧ (restoreLens d).focus.track = some t)
    ∧ (d.focus.lens.state = .unhomed ∨ d.focus.lens.state = .fault ∨ d.focus.lens.state = .homing →
      (restoreLens d).focus.track = none ∧ (restoreLens d).focus.outcome = .trackLost ∧ eventSet (restoreLens d) .capture .focus
        ∧ (restoreLens d).scan.run = some { r with trackLost := true }))
  ∧ (∀ (d : Dev) (r : RunRecord), d.scan.run = some r → d.transport.grant = .scan →
    d.transport.motion = .idle ∨ d.transport.motion = .parked → d.inputs.driveReady = true →
    let t := startPreparation d
    let searches := r.started = false ∧ ((r.focus = .search ∧ d.focus.runStep = none)
      ∨ (r.focus = .track ∧ d.focus.track = none ∧ r.trackLost = false))
    let start := match r.resume with
      | some q => q.position
      | none => r.base
    let stopAt := match r.endCondition with
      | .untilPosition e => some e
      | _ => none
    let gives := fun (kind : OrderKind) (step : PrepStep) => t.transport.motion = .seek
      ∧ t.scan.run = some { r with state := .preparing, resumePermitted := true, prep := step }
      ∧ ∃ c, t.transport.current = some c ∧ c.order = { owner := .scan, kind := kind }
    (searches → gives (.seek r.base none) .searchSeek)
      ∧ (¬ searches → gives (.scan start r.speed r.pitch r.savedLine stopAt) .scanOrder))

/-! ### Scan runs -/

/-- A taken SCAN_START makes the run QUEUED under the run number counter's value, which moves on, and answers run number, effective speed
and base; it is refused with STATE while a run is under way, on a roll that is not READY, during an import, and with a focus code other
than NONE's while the lens is UNHOMED or FAULT. That an unlisted code is refused so too, before BAD_VALUE, is the model's choice (log
entry 49). -/
def Obligations.ScanStartQueuesTheRun : Prop :=
  ∀ (s : State) (tag : Byte) (p x : List Byte) (m : StartMode) (e : EndCondition) (f : FocusOption) (y : YieldPolicy) (base : Int)
    (st : ResumeState), takes s .capture p → 16 ≤ p.length →
    let d := heard .capture (requestFrame tag p x) s
    let q := scanRequestOf p
    let top := s.dev.lines.maxRate * q.pitch
    let v := if top < q.speed * 256000 then top / 256000 else q.speed
    (s.dev.roll.state ≠ .ready ∨ runIn s.dev [.queued, .preparing, .running, .suspending, .suspended, .ending] = true
        ∨ s.dev.index.session ≠ none
        ∨ (q.focusCode ≠ 0 ∧ (s.dev.focus.lens.state = .unhomed ∨ s.dev.focus.lens.state = .fault)) →
      exec (.scanStart .capture (requestFrame tag p x)) s = .next (answers s .capture tag .state [] d))
    ∧ (s.dev.roll.state = .ready → s.dev.scan.run = none → s.dev.index.session = none →
      q.focusCode = 0 ∨ s.dev.focus.lens.state = .idle ∨ s.dev.focus.lens.state = .moving ∨ s.dev.focus.lens.state = .homing →
      startModeOf q = some m → endConditionOf q = some e → focusOptionOf q.focusCode = some f →
      yieldPolicyOf q.policyCode = some y → 1 ≤ q.speed → q.speed ≤ 1000 → 256 ≤ q.pitch → v ≠ 0 →
      (∀ k, e = .frameCount k → 1 ≤ k ∧ k ≤ 8192) →
      (∀ u, e = .untilPosition u → -2000000 ≤ u ∧ u ≤ upperLimit s.dev ∧ base < u) →
      -2000000 ≤ base → base ≤ upperLimit s.dev →
      (m = .atPosition ∧ base = leInt q.startParam ∧ st = .unknown)
        ∨ (∃ n entry, m = .atFrame n ∧ s.dev.index.entries[n]? = some entry
          ∧ base = entry.start - 2 * s.dev.detector.cfg.minGap ∧ st = .unknown)
        ∨ (∃ entry, m = .continue_ ∧ s.dev.index.entries.getLast? = some entry ∧ base = entry.start + entry.length ∧ st = .inGap)
        ∨ (m = .continue_ ∧ s.dev.index.entries = [] ∧ base = s.dev.metering.counter ∧ st = .unknown) →
      exec (.scanStart .capture (requestFrame tag p x)) s
        = .next (answers s .capture tag .accepted (leBytes 1 s.dev.scan.runCounter ++ leBytes 2 v ++ leSigned 4 base)
            (settle (raise .capture .run (d.setScan
              { d.scan with
                runCounter := if 254 ≤ d.scan.runCounter then 1 else d.scan.runCounter + 1
                run := some
                  { number := d.scan.runCounter, startMode := m, base := base, initialGap := st, endCondition := e, speed := v
                    pitch := q.pitch, focus := f, policy := y, state := .queued, savedLine := 0, framesClosed := 0
                    started := false, boundary := none, resume := none, resumePermitted := true, cause := none
                    prep := .none, trackLost := false } })))))

/-- SCAN_PAUSE, SCAN_RESUME and SCAN_ABORT by the run state, NONE among them. The close that completes a suspension disarms, gives STOP, releases the
grant when the stop ends, and leaves the run SUSPENDED with the close's boundary point as its resume point, less an applied correction.
A halt suspends a RUNNING or SUSPENDING run with cause FAULT, at its last boundary point, else its resume point, else S with UNKNOWN.
That the point drops with the correction of the same disarm is log entry 25 (DEDUCED). When the policy admits an eligible request, a
RUNNING run becomes SUSPENDING and a PREPARING one SUSPENDED, both with cause YIELD, and neither reacts otherwise; where a step settles
this comes after the reports and a release that is due (log entry 7, DESIGN CHOICE). -/
def Obligations.RunsPauseResumeAndAbort : Prop :=
  (∀ (s : State) (port : PortId) (tag : Byte) (p x : List Byte), takes s port p → port ≠ .request →
    let d := heard port (requestFrame tag p x) s
    let refused := answers s port tag .state [] d
    (s.dev.scan.run = none → exec (.scanAbort port (requestFrame tag p x)) s = .next refused)
    ∧ (s.dev.scan.run = none → port = .capture → exec (.scanPause port (requestFrame tag p x)) s = .next refused
      ∧ exec (.scanResume port (requestFrame tag p x)) s = .next refused)
    ∧ ∀ r, s.dev.scan.run = some r → Settled s.dev →
      let ok := fun (d' : Dev) => answers s port tag .ok [] d'
      (r.state = .queued ∨ r.state = .suspended →
        exec (.scanAbort port (requestFrame tag p x)) s
          = .next (ok (settle (((raise .capture .run (d.setScan
              { d.scan with
                run := some
                  { r with state := .ended, cause := some .aborted, resume := none, boundary := none, prep := .none } })).setFocus
              { d.focus with track := none, runStep := none }).setDetector
              { d.detector with marks := [], openMark := none, markLost := false }))))
      ∧ (r.state = .preparing ∨ r.state = .running ∨ r.state = .suspending →
        ∃ t r', exec (.scanAbort port (requestFrame tag p x)) s = .next t ∧ t.pending = s.pending
          ∧ (t.dev.ports.get port).response = some { tag := tag, result := .ok, payload := [] }
          ∧ t.dev.scan.run = some r' ∧ (r'.state = .ending ∨ r'.state = .ended) ∧ r'.cause = some .aborted
          ∧ t.dev.trigger.arm = none ∧ t.dev.focus.search = none ∧ eventSet t.dev .capture .run)
      ∧ (r.state = .ending → exec (.scanAbort port (requestFrame tag p x)) s = .next (ok d))
      ∧ (r.state = .ended → exec (.scanAbort port (requestFrame tag p x)) s = .next refused))
  ∧ ∀ (s : State) (tag : Byte) (p x : List Byte) (r : RunRecord), takes s .capture p → s.dev.scan.run = some r → Settled s.dev →
    let d := heard .capture (requestFrame tag p x) s
    let withRun := fun (r' : RunRecord) => d.setScan { d.scan with run := some r' }
    let ok := fun (d' : Dev) => answers s .capture tag .ok [] d'
    let refused := answers s .capture tag .state [] d
    ((r.state = .queued →
      exec (.scanPause .capture (requestFrame tag p x)) s
        = .next (ok (raise .capture .run (withRun
            { r with state := .suspended, cause := some .pause, resumePermitted := false, boundary := none, prep := .none }))))
    ∧ (r.state = .preparing →
      ∃ t r', exec (.scanPause .capture (requestFrame tag p x)) s = .next t ∧ t.pending = s.pending
        ∧ t.dev.scan.run = some r' ∧ r'.state = .suspended ∧ r'.cause = some .pause ∧ r'.resumePermitted = false
        ∧ (s.dev.roll.pendingCorrection = none →
          r'.resume = some (r.resume.getD { position := r.base, state := r.initialGap })) ∧ t.dev.trigger.arm = none
        ∧ t.dev.focus.search = none ∧ eventSet t.dev .capture .run)
    ∧ (r.state = .running →
      exec (.scanPause .capture (requestFrame tag p x)) s
        = .next (ok (raise .capture .run (withRun { r with state := .suspending, cause := some .pause }))))
    ∧ (r.state = .suspending →
      exec (.scanPause .capture (requestFrame tag p x)) s = .next (ok (withRun { r with cause := some .pause })))
    ∧ (r.state = .suspended → r.cause = some .yield ∨ r.cause = some .backlog →
      exec (.scanPause .capture (requestFrame tag p x)) s
        = .next (ok (withRun { r with cause := some .pause, resumePermitted := false })))
    ∧ (r.state = .suspended → r.cause = some .pause ∨ r.cause = some .fault →
      exec (.scanPause .capture (requestFrame tag p x)) s = .next (ok d))
    ∧ (r.state = .ending ∨ r.state = .ended → exec (.scanPause .capture (requestFrame tag p x)) s = .next refused))
    ∧ ((r.state ≠ .suspended → exec (.scanResume .capture (requestFrame tag p x)) s = .next refused)
    ∧ (r.state = .suspended → r.cause = some .yield ∨ r.cause = some .backlog →
      exec (.scanResume .capture (requestFrame tag p x)) s = .next (ok d))
    ∧ (r.state = .suspended → r.cause = some .pause ∨ r.cause = some .fault →
      s.dev.transport.motion = .halted ∨ s.dev.roll.state ≠ .ready →
      exec (.scanResume .capture (requestFrame tag p x)) s = .next refused)
    ∧ (r.state = .suspended → r.cause = some .pause ∨ r.cause = some .fault → s.dev.transport.motion ≠ .halted →
      s.dev.roll.state = .ready →
      exec (.scanResume .capture (requestFrame tag p x)) s = .next (ok (settle (withRun { r with resumePermitted := true })))))
    ∧ (∀ (e : Dev) (f : ClosedFrame) (i : IndexAnswer) (a : Arm) (c : RunCause) (delta : Int), e.scan.run = some r →
      r.state = .suspending → r.cause = some c → (∀ k, r.endCondition = .frameCount k → r.framesClosed + 1 < k) →
      e.trigger.arm = some a → a.mode = .scan → e.transport.grant = .scan → e.transport.motion = .scan →
      (e.roll.pendingCorrection.getD 0) = delta →
      let t := scanTakesClose f i e
      t.trigger.arm = none ∧ t.transport.motion = .stopping ∧ t.transport.stopReason = some .order ∧ t.transport.grant = .scan
        ∧ t.transport.releasePending = true ∧ t.detector.activity = .idle ∧ t.scan.gate = false
        ∧ t.scan.notices = e.scan.notices ++ [frameNotice r.number f i] ∧ eventSet t .capture .run
        ∧ t.scan.run = some
          { r with
            state := .suspended, framesClosed := r.framesClosed + 1, savedLine := e.trigger.lineCounter, boundary := none
            resume := some { position := f.boundary - delta, state := f.resumeState }
            resumePermitted := decide (c ≠ .pause), prep := .none })
    ∧ (∀ (e : Dev) (a : Arm) (cause : HaltCause) (delta : Int), e.scan.run = some r → r.state = .running ∨ r.state = .suspending →
      e.transport.motion ≠ .halted → e.trigger.arm = some a → a.mode = .scan → (e.roll.pendingCorrection.getD 0) = delta →
      let t := halt cause e
      let point := fun (q : ResumePoint) => t.scan.run = some
        { r with
          state := .suspended, cause := some .fault, resumePermitted := false, boundary := none, resume := some q
          savedLine := e.trigger.lineCounter, prep := .none }
      (∀ q, r.boundary = some q → point { q with position := q.position - delta })
        ∧ (∀ q, r.boundary = none → r.resume = some q → point { q with position := q.position - delta })
        ∧ (r.boundary = none → r.resume = none → point { position := r.base, state := .unknown }))
    ∧ (∀ e : Dev, e.scan.run = some r →
      let admitted := fun (q : RetrievalRequest) => q ∈ e.retrieval.queue ∧ q.state = .waiting ∧ e.roll.datum = true
        ∧ (r.policy = .yieldAll ∨ (r.policy = .yieldUrgent ∧ q.class_ = .urgent))
      let demand := ∃ q, admitted q
      (r.state = .running → demand →
        runReaction e = some (raise .capture .run (e.setScan
          { e.scan with run := some { r with state := .suspending, cause := some .yield } })))
      ∧ (r.state = .preparing → demand → ∃ t r', runReaction e = some t ∧ t.scan.run = some r' ∧ r'.state = .suspended
        ∧ r'.cause = some .yield ∧ r'.resumePermitted = true ∧ t.trigger.arm = none ∧ t.focus.search = none
        ∧ eventSet t .capture .run ∧ (e.transport.grant = .scan → t.transport.grant = .nobody ∨ t.transport.releasePending = true)
        ∧ (e.roll.pendingCorrection = none → r'.resume = some (r.resume.getD { position := r.base, state := r.initialGap })))
      ∧ (r.state = .running ∨ r.state = .preparing → ¬ demand → runReaction e = none)
      ∧ (r.state = .queued ∨ r.state = .suspending ∨ r.state = .suspended ∨ r.state = .ended → runReaction e = none)
      ∧ (∀ t, e.inbox = [] → ¬ (e.transport.releasePending = true ∧ atRest e = true) → runReaction e = some t →
        reaction e = some t))

/-- NOTICES_READ hands out the oldest notice with the count that remains, COMPLETIONS_READ the first records, at most 4, with the count
that remains; an empty queue or list is answered NOT_FOUND. A notice joins the end of the queue, sets the backlog hold at 28 or more and
raises NOTICE when the queue was empty. A close of a RUNNING run counts its frame and sets the last boundary point; at its frame count the
run is ENDING with cause COMPLETE, and when its notice sets the backlog hold it is SUSPENDING with cause BACKLOG. The notice has its 30
bytes and the completion record its 13 at the offsets of section 11.4, with the codes of Table 11-4, an absent frame number as all ones,
and the completion flags in their bits. -/
def Obligations.QueuesAreReadOldestFirst : Prop :=
  ∀ (s : State) (tag : Byte) (p x : List Byte),
    (takes s .capture p →
      (s.dev.scan.notices = [] →
        exec (.noticesRead .capture (requestFrame tag p x)) s
          = .next (answers s .capture tag .notFound [] (heard .capture (requestFrame tag p x) s)))
      ∧ (∀ n rest, s.dev.scan.notices = n :: rest →
        let d := heard .capture (requestFrame tag p x) s
        exec (.noticesRead .capture (requestFrame tag p x)) s
          = .next (answers s .capture tag .ok (leBytes 1 rest.length ++ noticeBytes n)
              (settle (d.setScan
                { d.scan with notices := rest, backlog := d.scan.backlog && decide (8 < rest.length) })))))
    ∧ (takes s .request p →
      (s.dev.retrieval.completions = [] →
        exec (.completionsRead .request (requestFrame tag p x)) s
          = .next (answers s .request tag .notFound [] (heard .request (requestFrame tag p x) s)))
      ∧ (s.dev.retrieval.completions ≠ [] →
        let d := heard .request (requestFrame tag p x) s
        exec (.completionsRead .request (requestFrame tag p x)) s
          = .next (answers s .request tag .ok
              (leBytes 1 (s.dev.retrieval.completions.length - 4)
                ++ (s.dev.retrieval.completions.take 4).flatMap completionBytes)
              (d.setRetrieval { d.retrieval with completions := s.dev.retrieval.completions.drop 4 }))))
    ∧ (∀ (d : Dev) (n : Notice),
      (pushNotice n d).scan
          = { d.scan with notices := d.scan.notices ++ [n], backlog := d.scan.backlog || decide (28 ≤ d.scan.notices.length + 1) }
        ∧ (d.scan.notices = [] → eventSet (pushNotice n d) .capture .notice)
        ∧ (d.scan.notices ≠ [] → (pushNotice n d).ports = d.ports))
    ∧ (∀ (d : Dev) (f : ClosedFrame) (i : IndexAnswer) (r : RunRecord), d.scan.run = some r → r.state = .running →
      let t := scanTakesClose f i d
      let reached := ∃ k, r.endCondition = .frameCount k ∧ k ≤ r.framesClosed + 1
      let closed : RunRecord :=
        { r with framesClosed := r.framesClosed + 1, boundary := some { position := f.boundary, state := f.resumeState } }
      let full := 28 ≤ d.scan.notices.length + 1
      t.scan.gate = false ∧ t.scan.notices = d.scan.notices ++ [frameNotice r.number f i]
        ∧ (¬ reached → d.scan.backlog = true ∨ ¬ full → t.scan.run = some closed ∧ t.trigger = d.trigger)
        ∧ (¬ reached → d.scan.backlog = false → full →
          t.scan.backlog = true ∧ t.trigger = d.trigger ∧ eventSet t .capture .run
            ∧ t.scan.run = some { closed with state := .suspending, cause := some .backlog })
        ∧ (reached → t.trigger.arm = none ∧ ∃ r', t.scan.run = some r' ∧ r'.state = .ending ∧ r'.cause = some .complete
          ∧ r'.framesClosed = r.framesClosed + 1))
    ∧ (∀ n : Notice,
      let holds := fun (offset : Nat) (bytes : List Byte) => ((noticeBytes n).drop offset).take bytes.length = bytes
      (noticeBytes n).length = 30 ∧ holds 0 (leBytes 1 n.run) ∧ holds 1 (leBytes 1 (noticeKindCode n.kind))
        ∧ holds 2 (leBytes 2 (n.frame.getD 0xFFFF)) ∧ holds 4 (leBytes 4 n.firstLine) ∧ holds 8 (leBytes 4 n.lastLine)
        ∧ holds 12 (leSigned 4 n.start) ∧ holds 16 (leBytes 3 n.length) ∧ holds 19 (leBytes 2 n.address.batch)
        ∧ holds 21 (leBytes 2 n.address.doc) ∧ holds 23 (leBytes 2 n.address.page)
        ∧ holds 25 (leBytes 2 ((n.focusStep.getD 16384) + 4096 * n.markLevel)) ∧ holds 27 (leBytes 2 (frameFlagBits n.flags))
        ∧ holds 29 (leBytes 1 (matchKindCode n.matchKind)))
    ∧ (∀ c : Completion,
      let holds := fun (offset : Nat) (bytes : List Byte) => ((completionBytes c).drop offset).take bytes.length = bytes
      (completionBytes c).length = 13 ∧ holds 0 (leBytes 1 c.ticket) ∧ holds 1 (leBytes 1 (completionResultCode c.result))
        ∧ holds 2 (leBytes 1 (completionFlagBits c.flags)) ∧ holds 3 (leBytes 2 (c.frame.getD 0xFFFF))
        ∧ holds 5 (leSigned 4 c.position) ∧ holds 9 (leSigned 2 c.correction) ∧ holds 11 (leBytes 2 c.lensStep))
    ∧ (∀ f : CompletionFlags, completionFlagBits f < 64 ∧ (List.range 6).map (fun i => (completionFlagBits f).testBit i)
      = [decide (f.edge = some .confirmed), decide (f.edge = some .unconfirmed), decide (f.edge = some .mismatch),
          decide (f.recallReport = .recalled), decide (f.recallReport = .notStored), f.retried])
    ∧ ([NoticeKind.frame, .truncated].map noticeKindCode = [0, 1]
      ∧ [MatchKind.appended, .verified, .mismatch, .unmatched, .unindexed, .notAppended].map matchKindCode = List.range 6
      ∧ [CompletionResult.done, .notFound, .expired, .cancelled, .motionFailed, .rollReleased].map completionResultCode
        = List.range 6)

/-! ### Retrieval -/

/-- A taken RETRIEVE issues a ticket from 1 to 255 that is neither in the queue nor in the completion list, and joins the queue; a wrong
roll identifier is refused with WRONG_ROLL, and a full queue with FULL. -/
def Obligations.RetrieveIssuesAFreshTicket : Prop :=
  ∀ (s : State) (tag : Byte) (p x : List Byte) (record : RollRecord) (target : Target) (c : RequestClass), takes s .request p →
    12 ≤ p.length → s.dev.roll.record = some record → targetOf (natAt p 4 1) p = some target →
    requestClassOf (natAt p 11 1) = some c → targetOk s.dev target (optionsOf p).1 = true →
    1 ≤ s.dev.retrieval.ticketCounter → s.dev.retrieval.ticketCounter ≤ 255 →
    let d := heard .request (requestFrame tag p x) s
    let queue := s.dev.retrieval.queue
    let completions := s.dev.retrieval.completions
    (record.ident ≠ natAt p 0 4 →
      exec (.retrieve .request (requestFrame tag p x)) s = .next (answers s .request tag .wrongRoll [] d))
    ∧ (record.ident = natAt p 0 4 → queue.length = 16 ∨ queue.length + completions.length = 24 →
      exec (.retrieve .request (requestFrame tag p x)) s = .next (answers s .request tag .full [] d))
    ∧ (record.ident = natAt p 0 4 → queue.length < 16 → queue.length + completions.length < 24 →
      ∃ ticket, 1 ≤ ticket ∧ ticket ≤ 255 ∧ (∀ r ∈ queue, r.ticket ≠ ticket) ∧ (∀ r ∈ completions, r.ticket ≠ ticket)
        ∧ exec (.retrieve .request (requestFrame tag p x)) s
          = .next (answers s .request tag .accepted (leBytes 1 ticket)
              (settle (admitRequest
                { ticket := ticket, target := target, class_ := c, confirmEdge := (optionsOf p).1
                  recallFocus := (optionsOf p).2, state := .deferred, position := none, frame := none, bypass := 0
                  retried := false, age := 0, holdsLens := false } d))))

/-- A RETRIEVE of an indexed frame on a READY roll with a free grant and the film at rest under tension begins its seek to the middle of
the frame in the same step: the grant is RETRIEVAL's, the request ACTIVE. A selection takes the earliest request by arrival that is at the
bypass limit, else the nearest that lies ahead in the last direction of travel, else the nearest behind, the earliest by arrival at one
position, and the other considered requests have their bypass counts raised to at most 15. A recall takes the step of the nearest frame
within 10, the lower-numbered first. An attempt with CONFIRM_EDGE seeks to the entry's start less 2G and W_c; its measured start disarms,
gives the edge flag, and for a drift within W_c the correction, and the SEEK to the resolved position replaces the creep, with its
distance in the corrected counting. A grant that is NONE in IDLE, PARKED or RETENSIONING is given for an eligible URGENT request first,
then for the scan claim, an eligible NORMAL request, and the newest hint, as their conditions stand (log entry 10, DEDUCED); with tension RELEASE it begins RETENSIONING. The grant is given
where a step settles: after the reports, a release that is due, and the reactions of the run and of the scheduler, an order that is the
model's (log entry 7, DESIGN CHOICE). -/
def Obligations.RetrieveStartsItsSeek : Prop :=
  (∀ (s : State) (tag : Byte) (p x : List Byte) (record : RollRecord) (n : Nat) (entry : IndexEntry) (c : RequestClass),
    takes s .request p → 13 ≤ p.length → p[12]? = some 0 → s.dev.roll.record = some record → record.ident = natAt p 0 4 →
    natAt p 4 1 = 0 → natAt p 5 2 = n → n ≤ 8191 → requestClassOf (natAt p 11 1) = some c →
    s.dev.index.entries[n]? = some entry → s.dev.roll.datum = true → s.dev.scan.run = none → s.dev.retrieval.queue = [] →
    s.dev.retrieval.completions = [] → s.dev.retrieval.hold = none → s.dev.retrieval.attempt = none →
    1 ≤ s.dev.retrieval.ticketCounter → s.dev.retrieval.ticketCounter ≤ 255 → s.dev.transport.grant = .nobody →
    s.dev.transport.motion = .idle → s.dev.transport.tension = .hold → s.dev.transport.current = none →
    s.dev.transport.held = none → s.dev.inputs.driveReady = true → Settled s.dev →
    let middle := entry.start + (entry.length / 2 : Nat)
    ∃ t r k a, exec (.retrieve .request (requestFrame tag p x)) s = .next t ∧ t.pending = s.pending
      ∧ (t.dev.ports.get .request).response
        = some { tag := tag, result := .accepted, payload := leBytes 1 s.dev.retrieval.ticketCounter }
      ∧ t.dev.retrieval.queue = [r] ∧ r.ticket = s.dev.retrieval.ticketCounter ∧ r.state = .active ∧ r.class_ = c
      ∧ r.position = some middle ∧ r.frame = some n
      ∧ t.dev.retrieval.attempt = some a ∧ a.phase = .present ∧ a.subject = .ticket r.ticket
      ∧ t.dev.transport.grant = .retrieval ∧ t.dev.transport.motion = .seek
      ∧ t.dev.transport.current = some k ∧ k.order = { owner := .retrieval, kind := .seek middle none }
      ∧ k.seek.map (·.target) = some (clampLimits s.dev middle))
  ∧ (∀ (d : Dev) (r : RetrievalRequest), chooseRequest d = some r →
    let class_ := if anyUrgent d = true then RequestClass.urgent else .normal
    let among := fun (q : RetrievalRequest) => q ∈ d.retrieval.queue ∧ q.state = .waiting ∧ q.class_ = class_
    let limit := fun (q : RetrievalRequest) => d.retrieval.cfg.bypassLimit ≤ q.bypass
    let distance := fun (q : RetrievalRequest) => (whereLies d q - d.metering.counter).natAbs
    let ahead := fun (q : RetrievalRequest) =>
      if d.transport.lastDirection = .forward then d.metering.counter ≤ whereLies d q else whereLies d q ≤ d.metering.counter
    among r ∧ d.roll.datum = true
      ∧ (∀ pre q post, d.retrieval.queue = pre ++ q :: post → among q → limit q → (∀ x ∈ pre, among x → ¬ limit x) → r = q)
      ∧ ((∀ q, among q → ¬ limit q) → ∃ pre post, d.retrieval.queue = pre ++ r :: post
        ∧ ∀ x ∈ pre, among x → whereLies d x ≠ whereLies d r)
      ∧ ((∀ q, among q → ¬ limit q) → (∃ q, among q ∧ ahead q) → ahead r ∧ ∀ q, among q → ahead q → distance r ≤ distance q)
      ∧ ((∀ q, among q → ¬ limit q) → (∀ q, among q → ¬ ahead q) → ∀ q, among q → distance r ≤ distance q)
      ∧ ∀ q, among q → q.ticket ≠ r.ticket → { q with bypass := min 15 (q.bypass + 1) } ∈ (markChosen r d).retrieval.queue)
  ∧ (∀ (d : Dev) (n : Nat),
    (∀ st, nearestStep d n = some st → ∃ m, m ≤ n + 10 ∧ n ≤ m + 10 ∧ storedStep d m = some st
      ∧ (∀ j : Nat, ((n : Int) - j).natAbs < ((n : Int) - m).natAbs → storedStep d j = none)
      ∧ (∀ j : Nat, j < m → ((n : Int) - j).natAbs = ((n : Int) - m).natAbs → storedStep d j = none))
    ∧ (nearestStep d n = none → ∀ m, m ≤ n + 10 → n ≤ m + 10 → storedStep d m = none))
  ∧ (∀ (d : Dev) (r : RetrievalRequest) (n : Nat) (e : IndexEntry), r.confirmEdge = true → r.recallFocus = false → r.frame = some n →
    d.index.entries[n]? = some e → d.transport.grant = .retrieval → d.transport.motion = .idle → d.inputs.driveReady = true →
    ∃ k a, (startAttempt r d).transport.current = some k ∧ (startAttempt r d).transport.motion = .seek
      ∧ k.order = { owner := .retrieval
                    kind := .seek (e.start - (2 * d.detector.cfg.minGap + d.roll.cfg.correctionWindow : Nat)) none }
      ∧ (startAttempt r d).retrieval.attempt = some a ∧ a.phase = .approach ∧ a.subject = .ticket r.ticket)
  ∧ (∀ (d : Dev) (a : Attempt) (r : RetrievalRequest) (n : Nat) (e : IndexEntry) (m : Int), d.retrieval.attempt = some a →
    a.subject = .ticket r.ticket → a.phase = .confirm → requestOf d r.ticket = some r → r.frame = some n →
    d.index.entries[n]? = some e → d.trigger.arm = none ∨ (∃ w, d.trigger.arm = some w ∧ w.owner = .retrieval) →
    d.roll.pendingCorrection = none → a.correctionWindow = d.roll.cfg.correctionWindow →
    a.correctionWindow ≤ a.matchWindow → a.edge = none → a.correction = 0 →
    let t := takeMeasuredStart m d
    let delta := m - e.start
    t.trigger.arm = none ∧ t.retrieval.queue = d.retrieval.queue
    ∧ (∀ x, r.position = some x → d.transport.grant = .retrieval → d.transport.motion = .creep ∨ d.transport.motion = .idle →
      d.inputs.driveReady = true →
      ∃ k g, t.transport.current = some k ∧ k.order = { owner := .retrieval, kind := .seek x none }
        ∧ t.transport.motion = .seek ∧ t.transport.grant = .retrieval ∧ k.seek = some g ∧ g.target = clampLimits t x
        ∧ g.distance = g.target - t.metering.counter)
    ∧ (delta.natAbs ≤ a.correctionWindow →
      t.retrieval.attempt = some { a with phase := .present, edge := some .confirmed, correction := delta }
        ∧ t.roll.lastCorrection = delta ∧ t.metering.counter = max (-2147483648) (min 2147483647 (d.metering.counter - delta)))
    ∧ (a.correctionWindow < delta.natAbs → delta.natAbs ≤ a.matchWindow →
      t.retrieval.attempt = some { a with phase := .present, edge := some .mismatch } ∧ t.metering = d.metering
        ∧ eventSet t .service .drift)
    ∧ (a.matchWindow < delta.natAbs →
      t.retrieval.attempt = some { a with phase := .present, edge := some .unconfirmed } ∧ t.roll = d.roll
        ∧ t.metering = d.metering))
  ∧ (∀ d : Dev,
    let tr := d.transport
    let free := tr.grant = .nobody ∧ (tr.motion = .idle ∨ tr.motion = .parked ∨ tr.motion = .retensioning)
    let eligibleRequest := fun (q : RetrievalRequest) => q ∈ d.retrieval.queue ∧ q.state = .waiting ∧ d.roll.datum = true
    let any := ∃ q, eligibleRequest q
    let urgent := ∃ q, eligibleRequest q ∧ q.class_ = .urgent
    let scan := ∃ r, d.scan.run = some r ∧ (r.state = .queued ∨ (r.state = .suspended ∧ r.resumePermitted = true))
      ∧ d.roll.state = .ready ∧ d.scan.backlog = false ∧ ¬ (r.policy = .yieldUrgent ∧ urgent) ∧ ¬ (r.policy = .yieldAll ∧ any)
    let hint := (∃ n ∈ d.retrieval.hints.head?, n < d.index.entries.length) ∧ tr.motion = .idle ∧ tr.tension = .hold
      ∧ d.roll.datum = true
      ∧ ∀ r, d.scan.run = some r → r.state ≠ .preparing ∧ r.state ≠ .running ∧ r.state ≠ .suspending
    (anyUrgent d = true ↔ urgent) ∧ (anyEligible d = true ↔ any) ∧ (scanClaim d = true ↔ scan)
    ∧ (¬ free → grantReaction d = none)
    ∧ (free → urgent → grantReaction d = some (selectNext (giveGrant .retrieval d)))
    ∧ (free → ¬ urgent → scan → grantReaction d = some (startPreparation (giveGrant .scan d)))
    ∧ (free → ¬ urgent → ¬ scan → any → grantReaction d = some (selectNext (giveGrant .retrieval d)))
    ∧ (free → ¬ any → ¬ scan → hint → grantReaction d = some (serveHint (giveGrant .retrieval d)))
    ∧ (free → ¬ any → ¬ scan → ¬ hint → grantReaction d = none)
    ∧ (∀ o, giveGrant o d = d.setTransport (
        if tr.tension = .release then
          { tr with
            grant := o, releasePending := false, parkTimer := 0, motion := .retensioning, tension := .hold, driveEnable := true
            demand := 0, tensionedAt := some (d.time + tr.cfg.tensionSettle) }
        else { tr with grant := o, releasePending := false, parkTimer := 0 }))
    ∧ (any → ∃ q, chooseRequest d = some q ∧ selectNext d = startAttempt q d)
    ∧ (¬ any → selectNext d = releaseGrant .retrieval d))
  ∧ (∀ (d t : Dev) (n : Nat),
    let releases := d.transport.releasePending = true ∧ atRest d = true
    (∀ report rest, d.inbox = report :: rest → reaction d = some (takeReport report (d.setInbox rest)))
    ∧ (d.inbox = [] → releases → reaction d = some (dropGrant d))
    ∧ (d.inbox = [] → ¬ releases → runReaction d = none → retrievalReaction d = none → reaction d = grantReaction d)
    ∧ settle d = stopParkTimer (settleFor Config.cascadeBound d)
    ∧ (reaction d = some t → settleFor (n + 1) d = settleFor n t) ∧ (reaction d = none → settleFor n d = d))

/-- CANCEL and DEFERRAL_EXPIRY: a request that waits leaves the queue with one record CANCELLED or EXPIRED at the end of the completion
list; an ACTIVE one under way gets a STOP first; a ticket of no request is answered NOT_FOUND, and an expiry before its time does
nothing. The record of a request that is not ACTIVE carries RETRIED alone of the flags and correction 0 (log entry 18, DEDUCED), and
its completion makes no keep decision while RETRIEVAL holds the grant (log entry 41, DESIGN CHOICE). An attempt
whose seek fails goes back to WAITING once and then completes MOTION_FAILED. -/
def Obligations.WaitingRequestsLeaveWithOneRecord : Prop :=
  (∀ (s : State) (tag : Byte) (p x : List Byte) (r : RetrievalRequest),
    let leaves := fun (result : CompletionResult) (d : Dev) =>
      let d' := d.setRetrieval
        { d.retrieval with
          queue := removeTicket r.ticket d.retrieval.queue
          completions := d.retrieval.completions ++
            [{ ticket := r.ticket, result := result, flags := { edge := none, recallReport := .neither, retried := r.retried }
               frame := r.frame, position := d.metering.counter, correction := 0, lensStep := d.focus.lens.step }] }
      settle (if d.retrieval.completions = [] then raise .request .done d' else d')
    (takes s .request p → 1 ≤ p.length →
      let d := heard .request (requestFrame tag p x) s
      ((∀ q ∈ s.dev.retrieval.queue, q.ticket ≠ natAt p 0 1) →
        exec (.cancel .request (requestFrame tag p x)) s = .next (answers s .request tag .notFound [] d))
      ∧ (requestOf s.dev (natAt p 0 1) = some r → r.state = .deferred ∨ r.state = .waiting →
        exec (.cancel .request (requestFrame tag p x)) s = .next (answers s .request tag .ok [] (leaves .cancelled d)))
      ∧ (∀ a, requestOf s.dev (natAt p 0 1) = some r → r.state = .active → s.dev.retrieval.attempt = some a →
        a.phase = .present ∨ a.phase = .approach → s.dev.transport.grant = .retrieval → s.dev.transport.motion = .seek →
        s.dev.trigger.arm = none → Settled s.dev →
        exec (.cancel .request (requestFrame tag p x)) s
          = .next (answers s .request tag .ok []
              ((d.setRetrieval { d.retrieval with attempt := some { a with phase := .cancelling } }).setTransport
                { d.transport with
                  motion := .stopping, stopReason := some .order
                  current := some
                    { order := { owner := .retrieval, kind := .stop }, seek := none, speed := 0, runPhase := false
                      baseReported := false } }))))
    ∧ (requestOf s.dev r.ticket = some r →
      let due := r.state = .deferred ∧ s.dev.retrieval.cfg.deferralTimeout ≠ 0
        ∧ s.dev.retrieval.cfg.deferralTimeout * 1000 ≤ r.age
      (due → exec (.deferralExpiry r.ticket) s = .next (s.setDev (leaves .expired s.dev)))
      ∧ (¬ due → exec (.deferralExpiry r.ticket) s = .next s)))
  ∧ (∀ (d : Dev) (a : Attempt) (r : RetrievalRequest), d.retrieval.attempt = some a → a.subject = .ticket r.ticket →
    requestOf d r.ticket = some r → d.retrieval.queue = [r] → r.state = .active → d.trigger.arm = none →
    d.transport.grant = .nobody →
    (r.retried = false → failAttempt d
      = d.setRetrieval { d.retrieval with attempt := none, queue := [{ r with state := .waiting, retried := true }] })
    ∧ (r.retried = true →
      (failAttempt d).retrieval.attempt = none ∧ (failAttempt d).retrieval.queue = []
        ∧ (failAttempt d).retrieval.completions = d.retrieval.completions ++
          [{ ticket := r.ticket, result := .motionFailed
             flags := { edge := a.edge, recallReport := a.recallReport, retried := true }, frame := r.frame
             position := d.metering.counter, correction := a.correction, lensStep := d.focus.lens.step }]))

/-- The end of a hold, by RELEASE_HOLD or by its time: with no request, no run and no hint the grant is released. Without a hold, or
before its time, nothing changes. The arrival of the seek to the resolved position waits for a MOVING lens, and else completes the
request DONE with the flags gathered and begins the hold with its class, a timer of 0 and the hold time in force. -/
def Obligations.HoldsEndAndReleaseTheGrant : Prop :=
  (∀ (s : State) (tag : Byte) (p x : List Byte), takes s .request p →
    let d := heard .request (requestFrame tag p x) s
    let ended := fun (d : Dev) =>
      (d.setRetrieval { d.retrieval with hold := none }).setTransport { d.transport with grant := .nobody, releasePending := false }
    (s.dev.retrieval.hold = none →
      exec (.releaseHold .request (requestFrame tag p x)) s = .next (answers s .request tag .ok [] d)
        ∧ exec .holdTimeout s = .next s)
    ∧ (∀ h, s.dev.retrieval.hold = some h → h.timer < h.time → exec .holdTimeout s = .next s)
    ∧ (∀ h, s.dev.retrieval.hold = some h → s.dev.retrieval.queue = [] → s.dev.retrieval.attempt = none →
      s.dev.retrieval.hints = [] → s.dev.scan.run = none → s.dev.trigger.arm = none → s.dev.transport.grant = .retrieval →
      s.dev.transport.motion = .idle → s.dev.transport.current = none → s.dev.transport.held = none → Settled s.dev →
      exec (.releaseHold .request (requestFrame tag p x)) s = .next (answers s .request tag .ok [] (ended d))
        ∧ (h.time ≤ h.timer → exec .holdTimeout s = .next (s.setDev (ended s.dev)))))
  ∧ (∀ (d : Dev) (a : Attempt) (r : RetrievalRequest), d.retrieval.attempt = some a → a.subject = .ticket r.ticket →
    requestOf d r.ticket = some r → d.retrieval.cfg.holdTime ≠ 0 →
    (d.focus.lens.state = .moving →
      presentArrived d = d.setRetrieval { d.retrieval with attempt := some { a with phase := .lensWait } })
    ∧ (d.focus.lens.state ≠ .moving →
      (presentArrived d).retrieval
        = { d.retrieval with
          attempt := none, queue := removeTicket r.ticket d.retrieval.queue
          hold := some { class_ := r.class_, timer := 0, time := d.retrieval.cfg.holdTime }
          completions := d.retrieval.completions ++
            [{ ticket := r.ticket, result := .done
               flags := { edge := a.edge, recallReport := a.recallReport, retried := r.retried }, frame := r.frame
               position := d.metering.counter, correction := a.correction, lensStep := d.focus.lens.step }] }
        ∧ (d.retrieval.completions = [] → eventSet (presentArrived d) .request .done)))

/-- A hint goes to the newest place of the list, once, and the list keeps at most its newest 4. A HINT of an indexed frame, with the part
at rest under tension and nothing else to do, is served at once: RETRIEVAL holds the grant and seeks to the frame's middle. The seek is
abandoned with STOP the moment a request is eligible or the scan claim is raised; when it ends, served, failed or stopped, RETRIEVAL
keeps the grant for an eligible URGENT request, or a NORMAL one with no scan claim, and releases it otherwise. -/
def Obligations.HintsKeepTheNewestFour : Prop :=
  (∀ (s : State) (tag : Byte) (p x : List Byte), takes s .request p → 2 ≤ p.length →
    let d := heard .request (requestFrame tag p x) s
    exec (.hint .request (requestFrame tag p x)) s
      = .next (answers s .request tag .ok []
          (settle (d.setRetrieval { d.retrieval with hints := addHint (natAt p 0 2) d.retrieval.hints }))))
  ∧ (∀ (n : Nat) (hints : List Nat), hints.Nodup → hints.length ≤ 4 →
      ((addHint n hints).Nodup ∧ (addHint n hints).length ≤ 4 ∧ (addHint n hints).head? = some n
      ∧ (∀ m, m ≠ n → m ∈ addHint n hints → m ∈ hints)
      ∧ (hints.length < 4 ∨ n ∈ hints → ∀ m ∈ hints, m ∈ addHint n hints)))
  ∧ (∀ (s : State) (tag : Byte) (p x : List Byte) (n : Nat) (e : IndexEntry), takes s .request p → 2 ≤ p.length → natAt p 0 2 = n →
    s.dev.index.entries[n]? = some e → s.dev.roll.datum = true → s.dev.scan.run = none → s.dev.retrieval.queue = [] →
    s.dev.retrieval.hold = none → s.dev.retrieval.attempt = none → s.dev.transport.grant = .nobody →
    s.dev.transport.motion = .idle → s.dev.transport.tension = .hold → s.dev.transport.current = none →
    s.dev.transport.held = none → s.dev.inputs.driveReady = true → s.dev.focus.search = none → Settled s.dev →
    let middle := e.start + (e.length / 2 : Nat)
    ∃ t k a, exec (.hint .request (requestFrame tag p x)) s = .next t ∧ t.pending = s.pending
      ∧ t.dev.retrieval.hints = (s.dev.retrieval.hints.filter fun m => decide (m ≠ n)).take 3
      ∧ t.dev.retrieval.attempt = some a ∧ a.subject = .hint n ∧ a.phase = .hintSeek ∧ t.dev.retrieval.queue = []
      ∧ t.dev.transport.grant = .retrieval ∧ t.dev.transport.motion = .seek ∧ t.dev.transport.current = some k
      ∧ k.order = { owner := .retrieval, kind := .seek middle none } ∧ k.seek.map (·.target) = some (clampLimits s.dev middle))
  ∧ (∀ (d : Dev) (a : Attempt), d.retrieval.attempt = some a → a.phase = .hintSeek →
    let gone := d.setRetrieval { d.retrieval with attempt := none }
    let waits := anyEligible d = true ∨ scanClaim d = true
    (d.retrieval.hold = none → waits →
      retrievalReaction d
        = some (giveStop .retrieval (d.setRetrieval { d.retrieval with attempt := some { a with phase := .hintStop } })))
    ∧ (∀ (b : Attempt) (o : OrderOutcome) (begun : Bool), o ≠ .failed .halted → b = a ∧ (o = .arrived ∨ ∃ c, o = .failed c)
        ∨ b = { a with phase := .hintStop } →
      let t := takeReport (.orderEnded .retrieval o begun) (d.setRetrieval { d.retrieval with attempt := some b })
      (d.transport.grant ≠ .retrieval → t = gone)
      ∧ (d.transport.grant = .retrieval → anyUrgent d = true ∨ (anyEligible d = true ∧ scanClaim d = false) → t = selectNext gone)
      ∧ (d.transport.grant = .retrieval → anyUrgent d = false → anyEligible d = false ∨ scanClaim d = true →
        t = releaseGrant .retrieval gone)))

/-! ### The frame index -/

/-- The import: BEGIN makes the session, ENTRY takes an entry that passes its checks or aborts the import with the failing frame number,
END makes the received entries the table. An entry passes with the next frame number below the declared count, a length from 1 to
1,000,000, an end that fits, a well-formed packed field, and a start and an address in order after the entry before it. A request of
two entries takes both or neither, and one of none or more than two aborts the import. -/
def Obligations.ImportBuildsTheIndex : Prop :=
  (∀ (declared : Nat) (received : List IndexEntry) (e : ImportedEntry), importEntryOk declared received e = true ↔
    e.frame = received.length ∧ e.frame < declared ∧ 1 ≤ e.entry.length ∧ e.entry.length ≤ 1000000
      ∧ e.entry.start + e.entry.length ≤ 2147483647 ∧ e.packed < 32768
      ∧ (e.packed.testBit 14 = true → ∀ k, k < 12 → e.packed.testBit k = false)
      ∧ ∀ prev, received.getLast? = some prev → prev.start + prev.length < e.entry.start
        ∧ (prev.address.batch < e.entry.address.batch ∨ (prev.address.batch = e.entry.address.batch
          ∧ (prev.address.doc < e.entry.address.doc ∨ (prev.address.doc = e.entry.address.doc
            ∧ prev.address.page ≤ e.entry.address.page)))))
  ∧ ∀ (s : State) (tag : Byte) (p x : List Byte), takes s .service p →
    let d := heard .service (requestFrame tag p x) s
    let ok := fun (payload : List Byte) (d' : Dev) => answers s .service tag .ok payload d'
    (∀ record, 6 ≤ p.length → s.dev.roll.record = some record → record.ident = natAt p 0 4 →
      s.dev.roll.state = .threaded ∨ s.dev.roll.state = .ready → s.dev.index.state = .empty → s.dev.scan.run = none →
      1 ≤ natAt p 4 2 → natAt p 4 2 ≤ 8192 →
      exec (.indexImportBegin .service (requestFrame tag p x)) s
        = .next (ok [] (d.setIndex { d.index with session := some { declared := natAt p 4 2, received := [] } })))
    ∧ (∀ session e, 20 ≤ p.length → natAt p 0 1 = 1 → s.dev.index.session = some session → importedEntryOf (p.drop 1) = e →
      (importEntryOk session.declared session.received e = true →
        exec (.indexImportEntry .service (requestFrame tag p x)) s
          = .next (ok (leBytes 2 (session.received.length + 1))
              (d.setIndex { d.index with session := some { session with received := session.received ++ [e.entry] } })))
      ∧ (importEntryOk session.declared session.received e = false →
        exec (.indexImportEntry .service (requestFrame tag p x)) s
          = .next (answers s .service tag .badValue (leBytes 2 e.frame) (d.setIndex { d.index with session := none }))))
    ∧ (∀ session e f, 39 ≤ p.length → natAt p 0 1 = 2 → s.dev.index.session = some session → importedEntryOf (p.drop 1) = e →
      importedEntryOf (p.drop 20) = f →
      let fails := fun (n : Nat) => exec (.indexImportEntry .service (requestFrame tag p x)) s
        = .next (answers s .service tag .badValue (leBytes 2 n) (d.setIndex { d.index with session := none }))
      (importEntryOk session.declared session.received e = false → fails e.frame)
      ∧ (importEntryOk session.declared session.received e = true →
        (importEntryOk session.declared (session.received ++ [e.entry]) f = false → fails f.frame)
        ∧ (importEntryOk session.declared (session.received ++ [e.entry]) f = true →
          exec (.indexImportEntry .service (requestFrame tag p x)) s
            = .next (ok (leBytes 2 (session.received.length + 2))
                (d.setIndex { d.index with session := some { session with received := session.received ++ [e.entry, f.entry] } })))))
    ∧ (∀ session, 1 ≤ p.length → natAt p 0 1 = 0 ∨ 2 < natAt p 0 1 → s.dev.index.session = some session →
      exec (.indexImportEntry .service (requestFrame tag p x)) s
        = .next (answers s .service tag .badValue (leBytes 2 session.received.length) (d.setIndex { d.index with session := none })))
    ∧ (∀ session, s.dev.index.session = some session → session.received.length = session.declared →
      session.declared < 8192 → s.dev.index.state = .empty → s.dev.retrieval.queue = [] → s.dev.retrieval.hints = [] →
      Settled s.dev →
      exec (.indexImportEnd .service (requestFrame tag p x)) s
        = .next (ok (leBytes 2 session.declared)
            (raise .service .index (raise .request .index (raise .capture .index (d.setIndex
              { entries := session.received, state := .imported, closeCause := none, session := none }))))))

/-- INDEX_CLOSE closes an OPEN or IMPORTED index with cause REQUEST, leaves a CLOSED one, and is refused with STATE when EMPTY;
INDEX_REOPEN makes a CLOSED one OPEN unless the roll is in RUNOUT or the table is full. -/
def Obligations.IndexClosesAndReopens : Prop :=
  ∀ (s : State) (tag : Byte) (p x : List Byte), takes s .service p → Settled s.dev → s.dev.retrieval.queue = [] →
    let d := heard .service (requestFrame tag p x) s
    let becomes := fun (st : IndexState) (cause : Option CloseCause) =>
      raise .service .index (raise .request .index (raise .capture .index (d.setIndex
        { d.index with state := st, closeCause := cause })))
    (s.dev.index.state = .empty →
      exec (.indexClose .service (requestFrame tag p x)) s = .next (answers s .service tag .state [] d))
    ∧ (s.dev.index.state = .closed →
      exec (.indexClose .service (requestFrame tag p x)) s = .next (answers s .service tag .ok [] d))
    ∧ (s.dev.index.state = .open_ ∨ s.dev.index.state = .imported →
      exec (.indexClose .service (requestFrame tag p x)) s
        = .next (answers s .service tag .ok [] (becomes .closed (some .request))))
    ∧ (s.dev.index.state ≠ .closed ∨ s.dev.roll.state = .runout ∨ s.dev.index.entries.length = 8192 →
      exec (.indexReopen .service (requestFrame tag p x)) s = .next (answers s .service tag .state [] d))
    ∧ (s.dev.index.state = .closed → s.dev.roll.state ≠ .runout → s.dev.index.entries.length ≠ 8192 →
      exec (.indexReopen .service (requestFrame tag p x)) s = .next (answers s .service tag .ok [] (becomes .open_ none)))

/-! ### Configuration -/

/-- A speed, time, window or count is clamped to its range and stored, and the stored value is answered: the items of the transport, the
focus controller, the retrieval scheduler, the roll context and the maximum line rate. The acceleration is refused with STATE outside
IDLE and PARKED, and windows out of order with BAD_VALUE. The ranges are those of Tables 1-3, 2-5, 5-3 and 9-4, each item writes its own
field, and the identifiers and widths are those of Table 11-5. -/
def Obligations.ClampedItemsAreStored : Prop :=
  ∀ (s : State) (tag len : Byte) (v : List Byte) (w : Nat), (s.dev.ports.get .service).state = .idle → 1 + w ≤ len.toNat →
    len.toNat ≤ 60 → len.toNat ≤ 1 + v.length →
    let d := fun (id : Nat) => heard .service (tag :: len :: BitVec.ofNat 8 id :: v) s
    let clamped := fun (range : Nat × Nat) => max range.1 (min range.2 (leNat (v.take w)))
    let ok := fun (id n : Nat) (d' : Dev) => answers s .service tag .ok (BitVec.ofNat 8 id :: leBytes w n) d'
    (∀ i, w = configItemWidth (.transport i) →
      i = .acceleration → s.dev.transport.motion ≠ .idle ∧ s.dev.transport.motion ≠ .parked →
      exec (.configWriteTransportItem .service tag len i v) s
        = .next (answers s .service tag .state [] (d (transportItemId i))))
    ∧ (∀ i, w = configItemWidth (.transport i) →
      i ≠ .acceleration ∨ s.dev.transport.motion = .idle ∨ s.dev.transport.motion = .parked →
      exec (.configWriteTransportItem .service tag len i v) s
        = .next (ok (transportItemId i) (clamped (transportRange i)) ((d (transportItemId i)).setTransport
            { s.dev.transport with cfg := setTransportItem i (clamped (transportRange i)) s.dev.transport.cfg })))
    ∧ (∀ i, w = configItemWidth (.focus i) →
      exec (.configWriteFocusItem .service tag len i v) s
        = .next (ok (focusItemId i) (clamped (focusRange i)) ((d (focusItemId i)).setFocus
            { s.dev.focus with cfg := setFocusItem i (clamped (focusRange i)) s.dev.focus.cfg })))
    ∧ (∀ i, w = configItemWidth (.retrieval i) →
      exec (.configWriteRetrievalItem .service tag len i v) s
        = .next (ok (retrievalItemId i) (clamped (retrievalRange i)) ((d (retrievalItemId i)).setRetrieval
            { s.dev.retrieval with cfg := setRetrievalItem i (clamped (retrievalRange i)) s.dev.retrieval.cfg })))
    ∧ (w = 4 →
      exec (.configWriteLineRate .service tag len v) s
        = .next (ok (configItemId .lineRate) (clamped (1000, 100000)) ((d (configItemId .lineRate)).setLines
            { s.dev.lines with maxRate := clamped (1000, 100000) })))
    ∧ (∀ i, w = configItemWidth (.roll i) →
      let cfg := setRollItem i (clamped (rollRange i)) s.dev.roll.cfg
      (cfg.matchWindow < cfg.correctionWindow →
        exec (.configWriteRollItem .service tag len i v) s = .next (answers s .service tag .badValue [] (d (rollItemId i))))
      ∧ (cfg.correctionWindow ≤ cfg.matchWindow → s.dev.roll.pendingCorrection = none →
        exec (.configWriteRollItem .service tag len i v) s
          = .next (ok (rollItemId i) (clamped (rollRange i)) ((d (rollItemId i)).setRoll { s.dev.roll with cfg := cfg }))))
    ∧ ([RollItem.spliceOffset, .correctionWindow, .matchWindow].map rollRange = [(0, 500000), (0, 2000), (100, 20000)]
      ∧ [TransportItem.acceleration, .seekMaximum, .seekMargin, .arrivalWindow, .spliceZone, .spliceSpeed, .runUpMargin, .creepSpeed,
          .probeSpeed, .jogSpeed, .tensionSettle, .parkTimeout].map transportRange
        = [(1, 20), (100, 5000), (100, 60000), (5, 500), (0, 200000), (10, 1000), (0, 50000), (1, 50), (1, 100), (1, 500), (0, 5000),
            (0, 3600)]
      ∧ [FocusItem.stepRate, .lensSettle, .focusWindow, .coarseStep, .searchTravel, .minimumScore, .searchPitch, .trackThreshold,
          .probeOffset].map focusRange
        = [(100, 20000), (0, 500), (16, 1024), (8, 256), (1000, 200000), (0, 65535), (256, 65535), (50, 99), (1, 64)]
      ∧ [RetrievalItem.holdTime, .deferralTimeout, .bypassLimit, .confirmPitch].map retrievalRange
        = [(0, 60000), (0, 3600), (1, 15), (256, 65535)])
    ∧ (∀ c : RollConfig, [RollItem.spliceOffset, .correctionWindow, .matchWindow].map (rollValue c)
        = [c.spliceOffset, c.correctionWindow, c.matchWindow]
      ∧ ∀ i n, rollValue (setRollItem i n c) i = n ∧ ∀ j, j ≠ i → rollValue (setRollItem i n c) j = rollValue c j)
    ∧ (∀ c : TransportConfig,
      [TransportItem.acceleration, .seekMaximum, .seekMargin, .arrivalWindow, .spliceZone, .spliceSpeed, .runUpMargin, .creepSpeed,
          .probeSpeed, .jogSpeed, .tensionSettle, .parkTimeout].map (transportValue c)
        = [c.acceleration, c.seekMaximum, c.seekMargin, c.arrivalWindow, c.spliceZone, c.spliceSpeed, c.runUpMargin, c.creepSpeed,
            c.probeSpeed, c.jogSpeed, c.tensionSettle, c.parkTimeout]
      ∧ ∀ i n, transportValue (setTransportItem i n c) i = n
        ∧ ∀ j, j ≠ i → transportValue (setTransportItem i n c) j = transportValue c j)
    ∧ (∀ c : FocusConfig,
      [FocusItem.stepRate, .lensSettle, .focusWindow, .coarseStep, .searchTravel, .minimumScore, .searchPitch, .trackThreshold,
          .probeOffset].map (focusValue c)
        = [c.stepRate, c.lensSettle, c.focusWindow, c.coarseStep, c.searchTravel, c.minimumScore, c.searchPitch, c.trackThreshold,
            c.probeOffset]
      ∧ ∀ i n, focusValue (setFocusItem i n c) i = n ∧ ∀ j, j ≠ i → focusValue (setFocusItem i n c) j = focusValue c j)
    ∧ (∀ c : RetrievalConfig, [RetrievalItem.holdTime, .deferralTimeout, .bypassLimit, .confirmPitch].map (retrievalValue c)
        = [c.holdTime, c.deferralTimeout, c.bypassLimit, c.confirmPitch]
      ∧ ∀ i n, retrievalValue (setRetrievalItem i n c) i = n
        ∧ ∀ j, j ≠ i → retrievalValue (setRetrievalItem i n c) j = retrievalValue c j)
    ∧ allConfigItems.map (fun c => (configItemId c, configItemWidth c))
      = [(0x01, 4), (0x02, 2), (0x03, 2), (0x10, 1), (0x11, 2), (0x12, 2), (0x13, 2), (0x14, 4), (0x15, 2), (0x16, 2), (0x17, 1),
          (0x18, 1), (0x19, 2), (0x1A, 2), (0x1B, 2), (0x20, 2), (0x21, 1), (0x28, 4), (0x29, 8), (0x2A, 1), (0x30, 2), (0x31, 2),
          (0x32, 2), (0x33, 2), (0x34, 4), (0x35, 2), (0x36, 2), (0x37, 1), (0x38, 1), (0x40, 1), (0x41, 1), (0x42, 1), (0x43, 1),
          (0x44, 2), (0x45, 4), (0x46, 2), (0x47, 1), (0x48, 2), (0x49, 2), (0x4A, 2), (0x4B, 2), (0x50, 2), (0x51, 2), (0x52, 1),
          (0x53, 2)]

/-- A named choice, a threshold or a locked item is not clamped: bus speed, combine mode, tap map, stride and the level thresholds are
stored as written or refused. The lock of the tap map and the stride is a run from QUEUED to SUSPENDED or a PROBE arm: STATE goes before
BAD_VALUE, which a map with an entry that is no group nor DEAD, a map all DEAD, and a stride outside 1 to 4 get. Every other detector item is stored, the windows of Table 6-5 clamped and
the mark thresholds kept in their order or refused with BAD_VALUE, with STATE under its lock. An identifier of no item is refused with
BAD_VALUE, and a frame without one with BAD_LENGTH. -/
def Obligations.ChosenItemsAreRefusedOrStored : Prop :=
  ∀ (s : State) (tag len : Byte) (v : List Byte), (s.dev.ports.get .service).state = .idle → len.toNat ≤ 60 →
    len.toNat ≤ 1 + v.length →
    let d := fun (id : Nat) => heard .service (tag :: len :: BitVec.ofNat 8 id :: v) s
    let ok := fun (id : Nat) (value : List Byte) (d' : Dev) => answers s .service tag .ok (BitVec.ofNat 8 id :: value) d'
    let refused := fun (r : Result) (id : Nat) => answers s .service tag r [] (d id)
    let locked := runIn s.dev [.queued, .preparing, .running, .suspending, .suspended] = true
    let arranged := locked ∨ ∃ a, s.dev.trigger.arm = some a ∧ a.mode = .probe
    (3 ≤ len.toNat →
      (leNat (v.take 2) = 100 ∨ leNat (v.take 2) = 400 →
        exec (.configWriteBusSpeed .service tag len v) s
          = .next (ok 0x20 (leBytes 2 (leNat (v.take 2))) ((d 0x20).setGuard
              { s.dev.guard with busSpeed := leNat (v.take 2) })))
      ∧ (leNat (v.take 2) ≠ 100 → leNat (v.take 2) ≠ 400 →
        exec (.configWriteBusSpeed .service tag len v) s = .next (refused .badValue 0x20)))
    ∧ (2 ≤ len.toNat →
      (∀ m, combineModeOf (leNat (v.take 1)) = some m →
        ∃ t, exec (.configWriteCombineMode .service tag len v) s = .next t ∧ t.pending = s.pending
          ∧ t.dev.guard.combineMode = m ∧ t.dev.guard.stopCondition = stopConditionOf t.dev.guard
          ∧ (t.dev.ports.get .service).response
            = some { tag := tag, result := .ok, payload := BitVec.ofNat 8 0x21 :: leBytes 1 (combineModeCode m) })
      ∧ (1 < leNat (v.take 1) → exec (.configWriteCombineMode .service tag len v) s = .next (refused .badValue 0x21))
      ∧ (arranged → exec (.configWriteStride .service tag len v) s = .next (refused .state (configItemId .stride)))
      ∧ (¬ arranged → leNat (v.take 1) < 1 ∨ 4 < leNat (v.take 1) →
        exec (.configWriteStride .service tag len v) s = .next (refused .badValue (configItemId .stride)))
      ∧ (¬ arranged → 1 ≤ leNat (v.take 1) → leNat (v.take 1) ≤ 4 →
        exec (.configWriteStride .service tag len v) s
          = .next (ok (configItemId .stride) (leBytes 1 (leNat (v.take 1))) ((d (configItemId .stride)).setLines
              { s.dev.lines with stride := leNat (v.take 1) })))
      ∧ (∀ i ∈ [DetectorItem.enterNeg, .leaveNeg, .enterPos, .leavePos], locked →
        exec (.configWriteDetectorItem .service tag len i v) s = .next (refused .state (detectorItemId i)))
      ∧ (¬ locked → s.dev.detector.activity ≠ .confirm → s.dev.detector.cfg.leaveNeg ≤ leNat (v.take 1) →
        leNat (v.take 1) ≤ 255 →
        exec (.configWriteDetectorItem .service tag len .enterNeg v) s
          = .next (ok 0x40 (leBytes 1 (leNat (v.take 1))) ((d 0x40).setDetector
              { s.dev.detector with cfg := { s.dev.detector.cfg with enterNeg := leNat (v.take 1) } })))
      ∧ (¬ locked → s.dev.detector.activity ≠ .confirm → leNat (v.take 1) < s.dev.detector.cfg.leaveNeg →
        exec (.configWriteDetectorItem .service tag len .enterNeg v) s = .next (refused .badValue 0x40)))
    ∧ (∀ i, 1 + configItemWidth (.detector i) ≤ len.toNat →
      let n := leNat (v.take (configItemWidth (.detector i)))
      let c := s.dev.detector.cfg
      let scanning := runIn s.dev [.running, .suspending] = true
      let gapLock := locked ∨ s.dev.detector.activity = .confirm
      let byte := leBytes (configItemWidth (.detector i))
      let stores := fun (value : Nat) (cfg : DetectorConfig) =>
        exec (.configWriteDetectorItem .service tag len i v) s
          = .next (ok (detectorItemId i) (byte value) ((d (detectorItemId i)).setDetector { s.dev.detector with cfg := cfg }))
      let refuses := fun (r : Result) => exec (.configWriteDetectorItem .service tag len i v) s = .next (refused r (detectorItemId i))
      (i = .minGap → (gapLock → refuses .state)
        ∧ (¬ gapLock → stores (max 50 (min 20000 n)) { c with minGap := max 50 (min 20000 n) }))
      ∧ (i = .maxFrame → stores (max 1000 (min 400000 n)) { c with maxFrame := max 1000 (min 400000 n) })
      ∧ (i = .leaveNeg → ¬ gapLock →
        (n ≤ c.enterNeg → n ≤ 255 → stores n { c with leaveNeg := n }) ∧ (c.enterNeg < n → refuses .badValue))
      ∧ (i = .enterPos → ¬ gapLock →
        (n ≤ c.leavePos → n ≤ 255 → stores n { c with enterPos := n }) ∧ (c.leavePos < n → refuses .badValue))
      ∧ (i = .leavePos → ¬ gapLock →
        (c.enterPos ≤ n → n ≤ 255 → stores n { c with leavePos := n }) ∧ (n < c.enterPos → refuses .badValue))
      ∧ (i ∈ [DetectorItem.blipOffset, .blipActive, .l1Min, .l2Min, .l3Min, .maxMark] → scanning → refuses .state)
      ∧ (¬ scanning →
        (i = .blipOffset → stores (min 50000 n) { c with blipOffset := min 50000 n })
        ∧ (i = .blipActive → (n = 0 → stores 0 { c with blipActive := .high }) ∧ (n = 1 → stores 1 { c with blipActive := .low })
          ∧ (1 < n → refuses .badValue))
        ∧ (i = .l1Min → (1 ≤ n → n ≤ 50000 → n < c.l2Min → stores n { c with l1Min := n })
          ∧ (n < 1 ∨ 50000 < n ∨ c.l2Min ≤ n → refuses .badValue))
        ∧ (i = .l2Min → (1 ≤ n → n ≤ 50000 → c.l1Min < n → n < c.l3Min → stores n { c with l2Min := n })
          ∧ (n < 1 ∨ 50000 < n ∨ n ≤ c.l1Min ∨ c.l3Min ≤ n → refuses .badValue))
        ∧ (i = .l3Min → (1 ≤ n → n ≤ 50000 → c.l2Min < n → n ≤ c.maxMark → stores n { c with l3Min := n })
          ∧ (n < 1 ∨ 50000 < n ∨ n ≤ c.l2Min ∨ c.maxMark < n → refuses .badValue))
        ∧ (i = .maxMark → (1 ≤ n → n ≤ 50000 → c.l3Min ≤ n → stores n { c with maxMark := n })
          ∧ (n < 1 ∨ 50000 < n ∨ n < c.l3Min → refuses .badValue))))
    ∧ (9 ≤ len.toNat →
      (arranged → exec (.configWriteTapMap .service tag len v) s = .next (refused .state (configItemId .tapMap)))
      ∧ (¬ arranged → (∃ b ∈ v.take 8, 8 ≤ b.toNat ∧ b ≠ 0xFF) ∨ v.take 8 = List.replicate 8 0xFF →
        exec (.configWriteTapMap .service tag len v) s = .next (refused .badValue (configItemId .tapMap)))
      ∧ (¬ arranged → (∀ b ∈ v.take 8, b.toNat < 8 ∨ b = 0xFF) → v.take 8 ≠ List.replicate 8 0xFF →
        ∃ m, exec (.configWriteTapMap .service tag len v) s
            = .next (ok (configItemId .tapMap) (v.take 8) ((d (configItemId .tapMap)).setLines { s.dev.lines with tapMap := m }))
          ∧ ∀ j b, j < 8 → v[j]? = some b →
            m.toList[j]? = some (if h : b.toNat < 8 then some ⟨b.toNat, h⟩ else none)))
    ∧ (∀ item, 1 ≤ len.toNat → configItemOf item = none →
      exec (.configWriteUnknownItem .service tag len (some item) v) s
        = .next (answers s .service tag .badValue [] (heard .service (tag :: len :: item :: v) s)))
    ∧ (exec (.configWriteUnknownItem .service tag 0 none []) s
      = .next (answers s .service tag .badLength [] (heard .service [tag, 0] s)))

/-! ### Frame detection -/

/-- Blip edges while the run is RUNNING or SUSPENDING: a start edge records the open mark at the counter plus the blip offset, and an
end edge makes a mark of it, ignored below L1min and faulted above the maximum; otherwise only the level of BLIP_IN changes. The
pending mark list stays in ascending order of position, and a mark goes after every mark at or below its position. Classification
by polarity and hysteresis, and the advance of the address by a mark level. -/
def Obligations.MarksClassesAndAddresses : Prop :=
  (∀ s : State,
    let c := s.dev.detector.cfg
    let at_ := s.dev.metering.counter + c.blipOffset
    let level := fun (active : Bool) =>
      s.dev.setInputs { s.dev.inputs with blipIn := if c.blipActive = .high then active else !active }
    (runIn s.dev [.running, .suspending] = false →
      exec .blipStartEdge s = .next (s.setDev (level true)) ∧ exec .blipEndEdge s = .next (s.setDev (level false)))
    ∧ (runIn s.dev [.running, .suspending] = true →
      exec .blipStartEdge s = .next (s.setDev ((level true).setDetector { s.dev.detector with openMark := some at_ }))
      ∧ (s.dev.detector.openMark = none → exec .blipEndEdge s = .next (s.setDev (level false)))
      ∧ ∀ x, s.dev.detector.openMark = some x →
        (at_ - x ≤ 0 ∨ at_ - x < c.l1Min →
          exec .blipEndEdge s = .next (s.setDev ((level false).setDetector { s.dev.detector with openMark := none })))
        ∧ (∀ lv, 0 < at_ - x → (c.l1Min : Int) ≤ at_ - x → s.dev.detector.marks.length < 16 →
          (at_ - x < c.l2Min ∧ lv = some 1)
            ∨ ((c.l2Min : Int) ≤ at_ - x ∧ at_ - x < c.l3Min ∧ lv = some 2)
            ∨ ((c.l2Min : Int) ≤ at_ - x ∧ (c.l3Min : Int) ≤ at_ - x ∧ at_ - x ≤ c.maxMark ∧ lv = some 3)
            ∨ ((c.l2Min : Int) ≤ at_ - x ∧ (c.l3Min : Int) ≤ at_ - x ∧ c.maxMark < at_ - x ∧ lv = none) →
          exec .blipEndEdge s
            = .next (s.setDev ((level false).setDetector
                { s.dev.detector with
                  openMark := none, sinceClose := s.dev.detector.sinceClose + 1
                  marks := insertMark { position := x, level := lv } s.dev.detector.marks })))
        ∧ (0 < at_ - x → (c.l1Min : Int) ≤ at_ - x → 16 ≤ s.dev.detector.marks.length →
          exec .blipEndEdge s
            = .next (s.setDev ((level false).setDetector { s.dev.detector with openMark := none, markLost := true })))))
  ∧ (∀ (m : Mark) (marks : List Mark), marks.Pairwise (fun a b => a.position ≤ b.position) →
    ∃ below above, insertMark m marks = below ++ m :: above ∧ marks = below ++ above
      ∧ (∀ a ∈ below, a.position ≤ m.position) ∧ (∀ a ∈ above, m.position < a.position))
  ∧ ((∀ (c : DetectorConfig) (prev : LineClass) (l : Nat),
    (classify .negative c prev (some l) = .gapLike ↔ c.enterNeg ≤ l ∨ (c.leaveNeg ≤ l ∧ prev = .gapLike))
    ∧ (classify .positive c prev (some l) = .gapLike ↔ l ≤ c.enterPos ∨ (l ≤ c.leavePos ∧ prev = .gapLike))
    ∧ ∀ pol, classify pol c prev none = prev)
  ∧ (∀ a : Address,
    advanceAddress a 0 = (a, false)
    ∧ (a.page < 65535 → advanceAddress a 1 = ({ a with page := a.page + 1 }, false))
    ∧ (a.doc < 65535 → advanceAddress a 2 = ({ batch := a.batch, doc := a.doc + 1, page := 1 }, false))
    ∧ (a.batch < 65535 → advanceAddress a 3 = ({ batch := a.batch + 1, doc := 1, page := 1 }, false))
    ∧ (a.page = 65535 → advanceAddress a 1 = (a, true)) ∧ (a.doc = 65535 → advanceAddress a 2 = (a, true))
    ∧ (a.batch = 65535 → advanceAddress a 3 = (a, true)))
  ∧ (∀ (a : Address) (level : Nat), a.batch ≤ 65535 → a.doc ≤ 65535 → a.page ≤ 65535 →
    (advanceAddress a level).1.batch ≤ 65535 ∧ (advanceAddress a level).1.doc ≤ 65535
      ∧ (advanceAddress a level).1.page ≤ 65535 ∧ addressBelow (advanceAddress a level).1 a = false))

/-- An append leaves the table in order: when the entries' spans are ascending and apart, a frame that matches no entry and lies beyond
the last one extends them so. A frame matches an entry that its span, widened by W_m, touches and whose start is nearest and within W_m;
its drift report gives VERIFIED and, under an arm, the pending correction, or beyond W_c MISMATCH with DRIFT; the frame takes the
entry's number and address. A frame that matches none is UNMATCHED at or below the last entry's end, UNINDEXED beyond it when CLOSED, and
otherwise APPENDED with the number of entries so far, unless its address lies below the last entry's: then it is NOT_APPENDED, with that
address for the counters. An append makes an EMPTY or IMPORTED index OPEN, and the 8,192nd entry closes it with cause FULL. Any other
answer leaves everything as it was, and its frame keeps its own address in the notice. -/
def Obligations.AppendKeepsTheTableInOrder : Prop :=
  (∀ (d : Dev) (run : Nat) (f : ClosedFrame), d.index.entries.Pairwise (fun a b => a.stop ≤ b.start) →
    (indexTakes run f d).1.kind = .appended →
    (indexTakes run f d).2.index.entries = d.index.entries ++ [appendedEntry run f]
    ∧ (d.index.entries ++ [appendedEntry run f]).Pairwise (fun a b => a.stop ≤ b.start))
  ∧ (∀ (d : Dev) (m : Int) (l : Nat),
    let window : Nat := d.roll.cfg.matchWindow
    let candidate := fun (e : IndexEntry) => e.start < m + l + window ∧ m - window < e.start + e.length
    (∀ (n : Nat) (e : IndexEntry), matchEntry d m l = some (n, e) →
      d.index.entries[n]? = some e ∧ candidate e ∧ (m - e.start).natAbs ≤ window
      ∧ (∀ (k : Nat) (g : IndexEntry), d.index.entries[k]? = some g → candidate g →
        (m - e.start).natAbs < (m - g.start).natAbs ∨ ((m - e.start).natAbs = (m - g.start).natAbs ∧ n ≤ k)))
    ∧ (matchEntry d m l = none →
      ∀ (k : Nat) (g : IndexEntry), d.index.entries[k]? = some g → candidate g → window < (m - g.start).natAbs))
  ∧ (∀ (d : Dev) (run n : Nat) (f : ClosedFrame) (e : IndexEntry) (a : Arm), matchEntry d f.start f.length = some (n, e) →
    d.trigger.arm = some a →
    let delta := f.start - e.start
    let marked := fun (v : Bool) => d.index.entries.set n { e with flags := { e.flags with verified := v, mismatch := !v } }
    (delta.natAbs ≤ d.roll.cfg.correctionWindow →
      indexTakes run f d = ({ kind := .verified, frame := some n, address := some e.address },
        (d.setRoll { d.roll with pendingCorrection := some delta }).setIndex { d.index with entries := marked true }))
    ∧ (d.roll.cfg.correctionWindow < delta.natAbs →
      indexTakes run f d = ({ kind := .mismatch, frame := some n, address := some e.address },
        raise .service .drift (d.setIndex { d.index with entries := marked false }))))
  ∧ (∀ (d : Dev) (run : Nat) (f : ClosedFrame), matchEntry d f.start f.length = none →
    let i := (indexTakes run f d).1
    (i.kind = .appended ∨ i.kind = .unmatched ∨ i.kind = .unindexed ∨ i.kind = .notAppended)
      ∧ (i.kind ≠ .appended → (indexTakes run f d).2 = d ∧ i.frame = none)
      ∧ (frameNotice run f i).address = f.address)
  ∧ (∀ (d : Dev) (run : Nat) (f : ClosedFrame), matchEntry d f.start f.length = none →
    let answer := indexTakes run f d
    let below := fun (a b : Address) => a.batch < b.batch
      ∨ (a.batch = b.batch ∧ (a.doc < b.doc ∨ (a.doc = b.doc ∧ a.page < b.page)))
    let appends := answer.1 = { kind := .appended, frame := some d.index.entries.length, address := none }
      ∧ answer.2.index.entries = d.index.entries ++
          [{ start := f.start, length := f.length, address := f.address, markLevel := f.markLevel, focusStep := f.focusStep
             flags := { f.flags with imported := false, verified := false, mismatch := false }, run := some run
             firstLine := some f.firstLine, lastLine := some f.lastLine }]
      ∧ (d.index.entries.length + 1 ≠ 8192 → answer.2.index.state = .open_)
      ∧ (d.index.entries.length + 1 = 8192 → answer.2.index.state = .closed ∧ answer.2.index.closeCause = some .full)
      ∧ (d.index.state ≠ .open_ ∨ d.index.entries.length + 1 = 8192 → ∀ port, eventSet answer.2 port .index)
    (∀ last, d.index.entries.getLast? = some last → f.start ≤ last.start + last.length →
      answer = ({ kind := .unmatched, frame := none, address := none }, d))
    ∧ (∀ last, d.index.entries.getLast? = some last → last.start + last.length < f.start → d.index.state = .closed →
      answer = ({ kind := .unindexed, frame := none, address := none }, d))
    ∧ (∀ last, d.index.entries.getLast? = some last → last.start + last.length < f.start → d.index.state ≠ .closed →
      (below f.address last.address →
        answer = ({ kind := .notAppended, frame := none, address := some last.address }, d))
      ∧ (¬ below f.address last.address → appends))
    ∧ (d.index.entries = [] → d.index.state ≠ .closed → appends))

/-! ### Headlines -/

/-- The well-kept device holds at reset. -/
def Obligations.ResetIsWellKept : Prop := wellKept State.reset.dev

/-- Every step keeps the device well kept. -/
def Obligations.StepsKeepTheDeviceWellKept : Prop := ∀ s t : State, wellKept s.dev → step s = .next t → wellKept t.dev

/-- The configuration of every block changes only by the commands that write it, and by pin reset: not by a reset through the port, a
halt, a run, a retrieval or a millisecond. -/
def Obligations.ConfigurationChangesOnlyByItsWrites : Prop :=
  ∀ (c : Instr) (s t : State), writesConfiguration c = false → exec c s = .next t → configuration t.dev = configuration s.dev
end

