-- ==== Sys2Proof/Laws/State.lean ====
section
/-! SUPPORT. One lemma per field per update of the device and of the state, each true by `rfl`, so that no proof unfolds a record
update. -/

namespace Sys2Proof.Machine

@[simp] theorem Dev.setRoll_roll (d : Dev) (x : RollContext) : (d.setRoll x).roll = x := rfl
@[simp] theorem Dev.setRoll_metering (d : Dev) (x : RollContext) : (d.setRoll x).metering = d.metering := rfl
@[simp] theorem Dev.setRoll_transport (d : Dev) (x : RollContext) : (d.setRoll x).transport = d.transport := rfl
@[simp] theorem Dev.setRoll_guard (d : Dev) (x : RollContext) : (d.setRoll x).guard = d.guard := rfl
@[simp] theorem Dev.setRoll_trigger (d : Dev) (x : RollContext) : (d.setRoll x).trigger = d.trigger := rfl
@[simp] theorem Dev.setRoll_lines (d : Dev) (x : RollContext) : (d.setRoll x).lines = d.lines := rfl
@[simp] theorem Dev.setRoll_focus (d : Dev) (x : RollContext) : (d.setRoll x).focus = d.focus := rfl
@[simp] theorem Dev.setRoll_detector (d : Dev) (x : RollContext) : (d.setRoll x).detector = d.detector := rfl
@[simp] theorem Dev.setRoll_index (d : Dev) (x : RollContext) : (d.setRoll x).index = d.index := rfl
@[simp] theorem Dev.setRoll_scan (d : Dev) (x : RollContext) : (d.setRoll x).scan = d.scan := rfl
@[simp] theorem Dev.setRoll_retrieval (d : Dev) (x : RollContext) : (d.setRoll x).retrieval = d.retrieval := rfl
@[simp] theorem Dev.setRoll_ports (d : Dev) (x : RollContext) : (d.setRoll x).ports = d.ports := rfl
@[simp] theorem Dev.setRoll_inputs (d : Dev) (x : RollContext) : (d.setRoll x).inputs = d.inputs := rfl
@[simp] theorem Dev.setRoll_time (d : Dev) (x : RollContext) : (d.setRoll x).time = d.time := rfl
@[simp] theorem Dev.setRoll_inbox (d : Dev) (x : RollContext) : (d.setRoll x).inbox = d.inbox := rfl
@[simp] theorem Dev.setRoll_setRoll (d : Dev) (x y : RollContext) : (d.setRoll x).setRoll y = d.setRoll y := rfl
@[simp] theorem Dev.setRoll_self (d : Dev) : d.setRoll d.roll = d := rfl

@[simp] theorem Dev.setMetering_roll (d : Dev) (x : Metering) : (d.setMetering x).roll = d.roll := rfl
@[simp] theorem Dev.setMetering_metering (d : Dev) (x : Metering) : (d.setMetering x).metering = x := rfl
@[simp] theorem Dev.setMetering_transport (d : Dev) (x : Metering) : (d.setMetering x).transport = d.transport := rfl
@[simp] theorem Dev.setMetering_guard (d : Dev) (x : Metering) : (d.setMetering x).guard = d.guard := rfl
@[simp] theorem Dev.setMetering_trigger (d : Dev) (x : Metering) : (d.setMetering x).trigger = d.trigger := rfl
@[simp] theorem Dev.setMetering_lines (d : Dev) (x : Metering) : (d.setMetering x).lines = d.lines := rfl
@[simp] theorem Dev.setMetering_focus (d : Dev) (x : Metering) : (d.setMetering x).focus = d.focus := rfl
@[simp] theorem Dev.setMetering_detector (d : Dev) (x : Metering) : (d.setMetering x).detector = d.detector := rfl
@[simp] theorem Dev.setMetering_index (d : Dev) (x : Metering) : (d.setMetering x).index = d.index := rfl
@[simp] theorem Dev.setMetering_scan (d : Dev) (x : Metering) : (d.setMetering x).scan = d.scan := rfl
@[simp] theorem Dev.setMetering_retrieval (d : Dev) (x : Metering) : (d.setMetering x).retrieval = d.retrieval := rfl
@[simp] theorem Dev.setMetering_ports (d : Dev) (x : Metering) : (d.setMetering x).ports = d.ports := rfl
@[simp] theorem Dev.setMetering_inputs (d : Dev) (x : Metering) : (d.setMetering x).inputs = d.inputs := rfl
@[simp] theorem Dev.setMetering_time (d : Dev) (x : Metering) : (d.setMetering x).time = d.time := rfl
@[simp] theorem Dev.setMetering_inbox (d : Dev) (x : Metering) : (d.setMetering x).inbox = d.inbox := rfl
@[simp] theorem Dev.setMetering_setMetering (d : Dev) (x y : Metering) : (d.setMetering x).setMetering y = d.setMetering y := rfl
@[simp] theorem Dev.setMetering_self (d : Dev) : d.setMetering d.metering = d := rfl

@[simp] theorem Dev.setTransport_roll (d : Dev) (x : Transport) : (d.setTransport x).roll = d.roll := rfl
@[simp] theorem Dev.setTransport_metering (d : Dev) (x : Transport) : (d.setTransport x).metering = d.metering := rfl
@[simp] theorem Dev.setTransport_transport (d : Dev) (x : Transport) : (d.setTransport x).transport = x := rfl
@[simp] theorem Dev.setTransport_guard (d : Dev) (x : Transport) : (d.setTransport x).guard = d.guard := rfl
@[simp] theorem Dev.setTransport_trigger (d : Dev) (x : Transport) : (d.setTransport x).trigger = d.trigger := rfl
@[simp] theorem Dev.setTransport_lines (d : Dev) (x : Transport) : (d.setTransport x).lines = d.lines := rfl
@[simp] theorem Dev.setTransport_focus (d : Dev) (x : Transport) : (d.setTransport x).focus = d.focus := rfl
@[simp] theorem Dev.setTransport_detector (d : Dev) (x : Transport) : (d.setTransport x).detector = d.detector := rfl
@[simp] theorem Dev.setTransport_index (d : Dev) (x : Transport) : (d.setTransport x).index = d.index := rfl
@[simp] theorem Dev.setTransport_scan (d : Dev) (x : Transport) : (d.setTransport x).scan = d.scan := rfl
@[simp] theorem Dev.setTransport_retrieval (d : Dev) (x : Transport) : (d.setTransport x).retrieval = d.retrieval := rfl
@[simp] theorem Dev.setTransport_ports (d : Dev) (x : Transport) : (d.setTransport x).ports = d.ports := rfl
@[simp] theorem Dev.setTransport_inputs (d : Dev) (x : Transport) : (d.setTransport x).inputs = d.inputs := rfl
@[simp] theorem Dev.setTransport_time (d : Dev) (x : Transport) : (d.setTransport x).time = d.time := rfl
@[simp] theorem Dev.setTransport_inbox (d : Dev) (x : Transport) : (d.setTransport x).inbox = d.inbox := rfl
@[simp] theorem Dev.setTransport_setTransport (d : Dev) (x y : Transport) : (d.setTransport x).setTransport y = d.setTransport y := rfl
@[simp] theorem Dev.setTransport_self (d : Dev) : d.setTransport d.transport = d := rfl

@[simp] theorem Dev.setGuard_roll (d : Dev) (x : Guard) : (d.setGuard x).roll = d.roll := rfl
@[simp] theorem Dev.setGuard_metering (d : Dev) (x : Guard) : (d.setGuard x).metering = d.metering := rfl
@[simp] theorem Dev.setGuard_transport (d : Dev) (x : Guard) : (d.setGuard x).transport = d.transport := rfl
@[simp] theorem Dev.setGuard_guard (d : Dev) (x : Guard) : (d.setGuard x).guard = x := rfl
@[simp] theorem Dev.setGuard_trigger (d : Dev) (x : Guard) : (d.setGuard x).trigger = d.trigger := rfl
@[simp] theorem Dev.setGuard_lines (d : Dev) (x : Guard) : (d.setGuard x).lines = d.lines := rfl
@[simp] theorem Dev.setGuard_focus (d : Dev) (x : Guard) : (d.setGuard x).focus = d.focus := rfl
@[simp] theorem Dev.setGuard_detector (d : Dev) (x : Guard) : (d.setGuard x).detector = d.detector := rfl
@[simp] theorem Dev.setGuard_index (d : Dev) (x : Guard) : (d.setGuard x).index = d.index := rfl
@[simp] theorem Dev.setGuard_scan (d : Dev) (x : Guard) : (d.setGuard x).scan = d.scan := rfl
@[simp] theorem Dev.setGuard_retrieval (d : Dev) (x : Guard) : (d.setGuard x).retrieval = d.retrieval := rfl
@[simp] theorem Dev.setGuard_ports (d : Dev) (x : Guard) : (d.setGuard x).ports = d.ports := rfl
@[simp] theorem Dev.setGuard_inputs (d : Dev) (x : Guard) : (d.setGuard x).inputs = d.inputs := rfl
@[simp] theorem Dev.setGuard_time (d : Dev) (x : Guard) : (d.setGuard x).time = d.time := rfl
@[simp] theorem Dev.setGuard_inbox (d : Dev) (x : Guard) : (d.setGuard x).inbox = d.inbox := rfl
@[simp] theorem Dev.setGuard_setGuard (d : Dev) (x y : Guard) : (d.setGuard x).setGuard y = d.setGuard y := rfl
@[simp] theorem Dev.setGuard_self (d : Dev) : d.setGuard d.guard = d := rfl

@[simp] theorem Dev.setTrigger_roll (d : Dev) (x : Trigger) : (d.setTrigger x).roll = d.roll := rfl
@[simp] theorem Dev.setTrigger_metering (d : Dev) (x : Trigger) : (d.setTrigger x).metering = d.metering := rfl
@[simp] theorem Dev.setTrigger_transport (d : Dev) (x : Trigger) : (d.setTrigger x).transport = d.transport := rfl
@[simp] theorem Dev.setTrigger_guard (d : Dev) (x : Trigger) : (d.setTrigger x).guard = d.guard := rfl
@[simp] theorem Dev.setTrigger_trigger (d : Dev) (x : Trigger) : (d.setTrigger x).trigger = x := rfl
@[simp] theorem Dev.setTrigger_lines (d : Dev) (x : Trigger) : (d.setTrigger x).lines = d.lines := rfl
@[simp] theorem Dev.setTrigger_focus (d : Dev) (x : Trigger) : (d.setTrigger x).focus = d.focus := rfl
@[simp] theorem Dev.setTrigger_detector (d : Dev) (x : Trigger) : (d.setTrigger x).detector = d.detector := rfl
@[simp] theorem Dev.setTrigger_index (d : Dev) (x : Trigger) : (d.setTrigger x).index = d.index := rfl
@[simp] theorem Dev.setTrigger_scan (d : Dev) (x : Trigger) : (d.setTrigger x).scan = d.scan := rfl
@[simp] theorem Dev.setTrigger_retrieval (d : Dev) (x : Trigger) : (d.setTrigger x).retrieval = d.retrieval := rfl
@[simp] theorem Dev.setTrigger_ports (d : Dev) (x : Trigger) : (d.setTrigger x).ports = d.ports := rfl
@[simp] theorem Dev.setTrigger_inputs (d : Dev) (x : Trigger) : (d.setTrigger x).inputs = d.inputs := rfl
@[simp] theorem Dev.setTrigger_time (d : Dev) (x : Trigger) : (d.setTrigger x).time = d.time := rfl
@[simp] theorem Dev.setTrigger_inbox (d : Dev) (x : Trigger) : (d.setTrigger x).inbox = d.inbox := rfl
@[simp] theorem Dev.setTrigger_setTrigger (d : Dev) (x y : Trigger) : (d.setTrigger x).setTrigger y = d.setTrigger y := rfl
@[simp] theorem Dev.setTrigger_self (d : Dev) : d.setTrigger d.trigger = d := rfl

@[simp] theorem Dev.setLines_roll (d : Dev) (x : Lines) : (d.setLines x).roll = d.roll := rfl
@[simp] theorem Dev.setLines_metering (d : Dev) (x : Lines) : (d.setLines x).metering = d.metering := rfl
@[simp] theorem Dev.setLines_transport (d : Dev) (x : Lines) : (d.setLines x).transport = d.transport := rfl
@[simp] theorem Dev.setLines_guard (d : Dev) (x : Lines) : (d.setLines x).guard = d.guard := rfl
@[simp] theorem Dev.setLines_trigger (d : Dev) (x : Lines) : (d.setLines x).trigger = d.trigger := rfl
@[simp] theorem Dev.setLines_lines (d : Dev) (x : Lines) : (d.setLines x).lines = x := rfl
@[simp] theorem Dev.setLines_focus (d : Dev) (x : Lines) : (d.setLines x).focus = d.focus := rfl
@[simp] theorem Dev.setLines_detector (d : Dev) (x : Lines) : (d.setLines x).detector = d.detector := rfl
@[simp] theorem Dev.setLines_index (d : Dev) (x : Lines) : (d.setLines x).index = d.index := rfl
@[simp] theorem Dev.setLines_scan (d : Dev) (x : Lines) : (d.setLines x).scan = d.scan := rfl
@[simp] theorem Dev.setLines_retrieval (d : Dev) (x : Lines) : (d.setLines x).retrieval = d.retrieval := rfl
@[simp] theorem Dev.setLines_ports (d : Dev) (x : Lines) : (d.setLines x).ports = d.ports := rfl
@[simp] theorem Dev.setLines_inputs (d : Dev) (x : Lines) : (d.setLines x).inputs = d.inputs := rfl
@[simp] theorem Dev.setLines_time (d : Dev) (x : Lines) : (d.setLines x).time = d.time := rfl
@[simp] theorem Dev.setLines_inbox (d : Dev) (x : Lines) : (d.setLines x).inbox = d.inbox := rfl
@[simp] theorem Dev.setLines_setLines (d : Dev) (x y : Lines) : (d.setLines x).setLines y = d.setLines y := rfl
@[simp] theorem Dev.setLines_self (d : Dev) : d.setLines d.lines = d := rfl

@[simp] theorem Dev.setFocus_roll (d : Dev) (x : Focus) : (d.setFocus x).roll = d.roll := rfl
@[simp] theorem Dev.setFocus_metering (d : Dev) (x : Focus) : (d.setFocus x).metering = d.metering := rfl
@[simp] theorem Dev.setFocus_transport (d : Dev) (x : Focus) : (d.setFocus x).transport = d.transport := rfl
@[simp] theorem Dev.setFocus_guard (d : Dev) (x : Focus) : (d.setFocus x).guard = d.guard := rfl
@[simp] theorem Dev.setFocus_trigger (d : Dev) (x : Focus) : (d.setFocus x).trigger = d.trigger := rfl
@[simp] theorem Dev.setFocus_lines (d : Dev) (x : Focus) : (d.setFocus x).lines = d.lines := rfl
@[simp] theorem Dev.setFocus_focus (d : Dev) (x : Focus) : (d.setFocus x).focus = x := rfl
@[simp] theorem Dev.setFocus_detector (d : Dev) (x : Focus) : (d.setFocus x).detector = d.detector := rfl
@[simp] theorem Dev.setFocus_index (d : Dev) (x : Focus) : (d.setFocus x).index = d.index := rfl
@[simp] theorem Dev.setFocus_scan (d : Dev) (x : Focus) : (d.setFocus x).scan = d.scan := rfl
@[simp] theorem Dev.setFocus_retrieval (d : Dev) (x : Focus) : (d.setFocus x).retrieval = d.retrieval := rfl
@[simp] theorem Dev.setFocus_ports (d : Dev) (x : Focus) : (d.setFocus x).ports = d.ports := rfl
@[simp] theorem Dev.setFocus_inputs (d : Dev) (x : Focus) : (d.setFocus x).inputs = d.inputs := rfl
@[simp] theorem Dev.setFocus_time (d : Dev) (x : Focus) : (d.setFocus x).time = d.time := rfl
@[simp] theorem Dev.setFocus_inbox (d : Dev) (x : Focus) : (d.setFocus x).inbox = d.inbox := rfl
@[simp] theorem Dev.setFocus_setFocus (d : Dev) (x y : Focus) : (d.setFocus x).setFocus y = d.setFocus y := rfl
@[simp] theorem Dev.setFocus_self (d : Dev) : d.setFocus d.focus = d := rfl

@[simp] theorem Dev.setDetector_roll (d : Dev) (x : Detector) : (d.setDetector x).roll = d.roll := rfl
@[simp] theorem Dev.setDetector_metering (d : Dev) (x : Detector) : (d.setDetector x).metering = d.metering := rfl
@[simp] theorem Dev.setDetector_transport (d : Dev) (x : Detector) : (d.setDetector x).transport = d.transport := rfl
@[simp] theorem Dev.setDetector_guard (d : Dev) (x : Detector) : (d.setDetector x).guard = d.guard := rfl
@[simp] theorem Dev.setDetector_trigger (d : Dev) (x : Detector) : (d.setDetector x).trigger = d.trigger := rfl
@[simp] theorem Dev.setDetector_lines (d : Dev) (x : Detector) : (d.setDetector x).lines = d.lines := rfl
@[simp] theorem Dev.setDetector_focus (d : Dev) (x : Detector) : (d.setDetector x).focus = d.focus := rfl
@[simp] theorem Dev.setDetector_detector (d : Dev) (x : Detector) : (d.setDetector x).detector = x := rfl
@[simp] theorem Dev.setDetector_index (d : Dev) (x : Detector) : (d.setDetector x).index = d.index := rfl
@[simp] theorem Dev.setDetector_scan (d : Dev) (x : Detector) : (d.setDetector x).scan = d.scan := rfl
@[simp] theorem Dev.setDetector_retrieval (d : Dev) (x : Detector) : (d.setDetector x).retrieval = d.retrieval := rfl
@[simp] theorem Dev.setDetector_ports (d : Dev) (x : Detector) : (d.setDetector x).ports = d.ports := rfl
@[simp] theorem Dev.setDetector_inputs (d : Dev) (x : Detector) : (d.setDetector x).inputs = d.inputs := rfl
@[simp] theorem Dev.setDetector_time (d : Dev) (x : Detector) : (d.setDetector x).time = d.time := rfl
@[simp] theorem Dev.setDetector_inbox (d : Dev) (x : Detector) : (d.setDetector x).inbox = d.inbox := rfl
@[simp] theorem Dev.setDetector_setDetector (d : Dev) (x y : Detector) : (d.setDetector x).setDetector y = d.setDetector y := rfl
@[simp] theorem Dev.setDetector_self (d : Dev) : d.setDetector d.detector = d := rfl

@[simp] theorem Dev.setIndex_roll (d : Dev) (x : FrameIndex) : (d.setIndex x).roll = d.roll := rfl
@[simp] theorem Dev.setIndex_metering (d : Dev) (x : FrameIndex) : (d.setIndex x).metering = d.metering := rfl
@[simp] theorem Dev.setIndex_transport (d : Dev) (x : FrameIndex) : (d.setIndex x).transport = d.transport := rfl
@[simp] theorem Dev.setIndex_guard (d : Dev) (x : FrameIndex) : (d.setIndex x).guard = d.guard := rfl
@[simp] theorem Dev.setIndex_trigger (d : Dev) (x : FrameIndex) : (d.setIndex x).trigger = d.trigger := rfl
@[simp] theorem Dev.setIndex_lines (d : Dev) (x : FrameIndex) : (d.setIndex x).lines = d.lines := rfl
@[simp] theorem Dev.setIndex_focus (d : Dev) (x : FrameIndex) : (d.setIndex x).focus = d.focus := rfl
@[simp] theorem Dev.setIndex_detector (d : Dev) (x : FrameIndex) : (d.setIndex x).detector = d.detector := rfl
@[simp] theorem Dev.setIndex_index (d : Dev) (x : FrameIndex) : (d.setIndex x).index = x := rfl
@[simp] theorem Dev.setIndex_scan (d : Dev) (x : FrameIndex) : (d.setIndex x).scan = d.scan := rfl
@[simp] theorem Dev.setIndex_retrieval (d : Dev) (x : FrameIndex) : (d.setIndex x).retrieval = d.retrieval := rfl
@[simp] theorem Dev.setIndex_ports (d : Dev) (x : FrameIndex) : (d.setIndex x).ports = d.ports := rfl
@[simp] theorem Dev.setIndex_inputs (d : Dev) (x : FrameIndex) : (d.setIndex x).inputs = d.inputs := rfl
@[simp] theorem Dev.setIndex_time (d : Dev) (x : FrameIndex) : (d.setIndex x).time = d.time := rfl
@[simp] theorem Dev.setIndex_inbox (d : Dev) (x : FrameIndex) : (d.setIndex x).inbox = d.inbox := rfl
@[simp] theorem Dev.setIndex_setIndex (d : Dev) (x y : FrameIndex) : (d.setIndex x).setIndex y = d.setIndex y := rfl
@[simp] theorem Dev.setIndex_self (d : Dev) : d.setIndex d.index = d := rfl

@[simp] theorem Dev.setScan_roll (d : Dev) (x : ScanControl) : (d.setScan x).roll = d.roll := rfl
@[simp] theorem Dev.setScan_metering (d : Dev) (x : ScanControl) : (d.setScan x).metering = d.metering := rfl
@[simp] theorem Dev.setScan_transport (d : Dev) (x : ScanControl) : (d.setScan x).transport = d.transport := rfl
@[simp] theorem Dev.setScan_guard (d : Dev) (x : ScanControl) : (d.setScan x).guard = d.guard := rfl
@[simp] theorem Dev.setScan_trigger (d : Dev) (x : ScanControl) : (d.setScan x).trigger = d.trigger := rfl
@[simp] theorem Dev.setScan_lines (d : Dev) (x : ScanControl) : (d.setScan x).lines = d.lines := rfl
@[simp] theorem Dev.setScan_focus (d : Dev) (x : ScanControl) : (d.setScan x).focus = d.focus := rfl
@[simp] theorem Dev.setScan_detector (d : Dev) (x : ScanControl) : (d.setScan x).detector = d.detector := rfl
@[simp] theorem Dev.setScan_index (d : Dev) (x : ScanControl) : (d.setScan x).index = d.index := rfl
@[simp] theorem Dev.setScan_scan (d : Dev) (x : ScanControl) : (d.setScan x).scan = x := rfl
@[simp] theorem Dev.setScan_retrieval (d : Dev) (x : ScanControl) : (d.setScan x).retrieval = d.retrieval := rfl
@[simp] theorem Dev.setScan_ports (d : Dev) (x : ScanControl) : (d.setScan x).ports = d.ports := rfl
@[simp] theorem Dev.setScan_inputs (d : Dev) (x : ScanControl) : (d.setScan x).inputs = d.inputs := rfl
@[simp] theorem Dev.setScan_time (d : Dev) (x : ScanControl) : (d.setScan x).time = d.time := rfl
@[simp] theorem Dev.setScan_inbox (d : Dev) (x : ScanControl) : (d.setScan x).inbox = d.inbox := rfl
@[simp] theorem Dev.setScan_setScan (d : Dev) (x y : ScanControl) : (d.setScan x).setScan y = d.setScan y := rfl
@[simp] theorem Dev.setScan_self (d : Dev) : d.setScan d.scan = d := rfl

@[simp] theorem Dev.setRetrieval_roll (d : Dev) (x : Retrieval) : (d.setRetrieval x).roll = d.roll := rfl
@[simp] theorem Dev.setRetrieval_metering (d : Dev) (x : Retrieval) : (d.setRetrieval x).metering = d.metering := rfl
@[simp] theorem Dev.setRetrieval_transport (d : Dev) (x : Retrieval) : (d.setRetrieval x).transport = d.transport := rfl
@[simp] theorem Dev.setRetrieval_guard (d : Dev) (x : Retrieval) : (d.setRetrieval x).guard = d.guard := rfl
@[simp] theorem Dev.setRetrieval_trigger (d : Dev) (x : Retrieval) : (d.setRetrieval x).trigger = d.trigger := rfl
@[simp] theorem Dev.setRetrieval_lines (d : Dev) (x : Retrieval) : (d.setRetrieval x).lines = d.lines := rfl
@[simp] theorem Dev.setRetrieval_focus (d : Dev) (x : Retrieval) : (d.setRetrieval x).focus = d.focus := rfl
@[simp] theorem Dev.setRetrieval_detector (d : Dev) (x : Retrieval) : (d.setRetrieval x).detector = d.detector := rfl
@[simp] theorem Dev.setRetrieval_index (d : Dev) (x : Retrieval) : (d.setRetrieval x).index = d.index := rfl
@[simp] theorem Dev.setRetrieval_scan (d : Dev) (x : Retrieval) : (d.setRetrieval x).scan = d.scan := rfl
@[simp] theorem Dev.setRetrieval_retrieval (d : Dev) (x : Retrieval) : (d.setRetrieval x).retrieval = x := rfl
@[simp] theorem Dev.setRetrieval_ports (d : Dev) (x : Retrieval) : (d.setRetrieval x).ports = d.ports := rfl
@[simp] theorem Dev.setRetrieval_inputs (d : Dev) (x : Retrieval) : (d.setRetrieval x).inputs = d.inputs := rfl
@[simp] theorem Dev.setRetrieval_time (d : Dev) (x : Retrieval) : (d.setRetrieval x).time = d.time := rfl
@[simp] theorem Dev.setRetrieval_inbox (d : Dev) (x : Retrieval) : (d.setRetrieval x).inbox = d.inbox := rfl
@[simp] theorem Dev.setRetrieval_setRetrieval (d : Dev) (x y : Retrieval) : (d.setRetrieval x).setRetrieval y = d.setRetrieval y := rfl
@[simp] theorem Dev.setRetrieval_self (d : Dev) : d.setRetrieval d.retrieval = d := rfl

@[simp] theorem Dev.setPorts_roll (d : Dev) (x : Ports) : (d.setPorts x).roll = d.roll := rfl
@[simp] theorem Dev.setPorts_metering (d : Dev) (x : Ports) : (d.setPorts x).metering = d.metering := rfl
@[simp] theorem Dev.setPorts_transport (d : Dev) (x : Ports) : (d.setPorts x).transport = d.transport := rfl
@[simp] theorem Dev.setPorts_guard (d : Dev) (x : Ports) : (d.setPorts x).guard = d.guard := rfl
@[simp] theorem Dev.setPorts_trigger (d : Dev) (x : Ports) : (d.setPorts x).trigger = d.trigger := rfl
@[simp] theorem Dev.setPorts_lines (d : Dev) (x : Ports) : (d.setPorts x).lines = d.lines := rfl
@[simp] theorem Dev.setPorts_focus (d : Dev) (x : Ports) : (d.setPorts x).focus = d.focus := rfl
@[simp] theorem Dev.setPorts_detector (d : Dev) (x : Ports) : (d.setPorts x).detector = d.detector := rfl
@[simp] theorem Dev.setPorts_index (d : Dev) (x : Ports) : (d.setPorts x).index = d.index := rfl
@[simp] theorem Dev.setPorts_scan (d : Dev) (x : Ports) : (d.setPorts x).scan = d.scan := rfl
@[simp] theorem Dev.setPorts_retrieval (d : Dev) (x : Ports) : (d.setPorts x).retrieval = d.retrieval := rfl
@[simp] theorem Dev.setPorts_ports (d : Dev) (x : Ports) : (d.setPorts x).ports = x := rfl
@[simp] theorem Dev.setPorts_inputs (d : Dev) (x : Ports) : (d.setPorts x).inputs = d.inputs := rfl
@[simp] theorem Dev.setPorts_time (d : Dev) (x : Ports) : (d.setPorts x).time = d.time := rfl
@[simp] theorem Dev.setPorts_inbox (d : Dev) (x : Ports) : (d.setPorts x).inbox = d.inbox := rfl
@[simp] theorem Dev.setPorts_setPorts (d : Dev) (x y : Ports) : (d.setPorts x).setPorts y = d.setPorts y := rfl
@[simp] theorem Dev.setPorts_self (d : Dev) : d.setPorts d.ports = d := rfl

@[simp] theorem Dev.setInputs_roll (d : Dev) (x : Inputs) : (d.setInputs x).roll = d.roll := rfl
@[simp] theorem Dev.setInputs_metering (d : Dev) (x : Inputs) : (d.setInputs x).metering = d.metering := rfl
@[simp] theorem Dev.setInputs_transport (d : Dev) (x : Inputs) : (d.setInputs x).transport = d.transport := rfl
@[simp] theorem Dev.setInputs_guard (d : Dev) (x : Inputs) : (d.setInputs x).guard = d.guard := rfl
@[simp] theorem Dev.setInputs_trigger (d : Dev) (x : Inputs) : (d.setInputs x).trigger = d.trigger := rfl
@[simp] theorem Dev.setInputs_lines (d : Dev) (x : Inputs) : (d.setInputs x).lines = d.lines := rfl
@[simp] theorem Dev.setInputs_focus (d : Dev) (x : Inputs) : (d.setInputs x).focus = d.focus := rfl
@[simp] theorem Dev.setInputs_detector (d : Dev) (x : Inputs) : (d.setInputs x).detector = d.detector := rfl
@[simp] theorem Dev.setInputs_index (d : Dev) (x : Inputs) : (d.setInputs x).index = d.index := rfl
@[simp] theorem Dev.setInputs_scan (d : Dev) (x : Inputs) : (d.setInputs x).scan = d.scan := rfl
@[simp] theorem Dev.setInputs_retrieval (d : Dev) (x : Inputs) : (d.setInputs x).retrieval = d.retrieval := rfl
@[simp] theorem Dev.setInputs_ports (d : Dev) (x : Inputs) : (d.setInputs x).ports = d.ports := rfl
@[simp] theorem Dev.setInputs_inputs (d : Dev) (x : Inputs) : (d.setInputs x).inputs = x := rfl
@[simp] theorem Dev.setInputs_time (d : Dev) (x : Inputs) : (d.setInputs x).time = d.time := rfl
@[simp] theorem Dev.setInputs_inbox (d : Dev) (x : Inputs) : (d.setInputs x).inbox = d.inbox := rfl
@[simp] theorem Dev.setInputs_setInputs (d : Dev) (x y : Inputs) : (d.setInputs x).setInputs y = d.setInputs y := rfl
@[simp] theorem Dev.setInputs_self (d : Dev) : d.setInputs d.inputs = d := rfl

@[simp] theorem Dev.setTime_roll (d : Dev) (x : Nat) : (d.setTime x).roll = d.roll := rfl
@[simp] theorem Dev.setTime_metering (d : Dev) (x : Nat) : (d.setTime x).metering = d.metering := rfl
@[simp] theorem Dev.setTime_transport (d : Dev) (x : Nat) : (d.setTime x).transport = d.transport := rfl
@[simp] theorem Dev.setTime_guard (d : Dev) (x : Nat) : (d.setTime x).guard = d.guard := rfl
@[simp] theorem Dev.setTime_trigger (d : Dev) (x : Nat) : (d.setTime x).trigger = d.trigger := rfl
@[simp] theorem Dev.setTime_lines (d : Dev) (x : Nat) : (d.setTime x).lines = d.lines := rfl
@[simp] theorem Dev.setTime_focus (d : Dev) (x : Nat) : (d.setTime x).focus = d.focus := rfl
@[simp] theorem Dev.setTime_detector (d : Dev) (x : Nat) : (d.setTime x).detector = d.detector := rfl
@[simp] theorem Dev.setTime_index (d : Dev) (x : Nat) : (d.setTime x).index = d.index := rfl
@[simp] theorem Dev.setTime_scan (d : Dev) (x : Nat) : (d.setTime x).scan = d.scan := rfl
@[simp] theorem Dev.setTime_retrieval (d : Dev) (x : Nat) : (d.setTime x).retrieval = d.retrieval := rfl
@[simp] theorem Dev.setTime_ports (d : Dev) (x : Nat) : (d.setTime x).ports = d.ports := rfl
@[simp] theorem Dev.setTime_inputs (d : Dev) (x : Nat) : (d.setTime x).inputs = d.inputs := rfl
@[simp] theorem Dev.setTime_time (d : Dev) (x : Nat) : (d.setTime x).time = x := rfl
@[simp] theorem Dev.setTime_inbox (d : Dev) (x : Nat) : (d.setTime x).inbox = d.inbox := rfl
@[simp] theorem Dev.setTime_setTime (d : Dev) (x y : Nat) : (d.setTime x).setTime y = d.setTime y := rfl
@[simp] theorem Dev.setTime_self (d : Dev) : d.setTime d.time = d := rfl

@[simp] theorem Dev.setInbox_roll (d : Dev) (x : List Report) : (d.setInbox x).roll = d.roll := rfl
@[simp] theorem Dev.setInbox_metering (d : Dev) (x : List Report) : (d.setInbox x).metering = d.metering := rfl
@[simp] theorem Dev.setInbox_transport (d : Dev) (x : List Report) : (d.setInbox x).transport = d.transport := rfl
@[simp] theorem Dev.setInbox_guard (d : Dev) (x : List Report) : (d.setInbox x).guard = d.guard := rfl
@[simp] theorem Dev.setInbox_trigger (d : Dev) (x : List Report) : (d.setInbox x).trigger = d.trigger := rfl
@[simp] theorem Dev.setInbox_lines (d : Dev) (x : List Report) : (d.setInbox x).lines = d.lines := rfl
@[simp] theorem Dev.setInbox_focus (d : Dev) (x : List Report) : (d.setInbox x).focus = d.focus := rfl
@[simp] theorem Dev.setInbox_detector (d : Dev) (x : List Report) : (d.setInbox x).detector = d.detector := rfl
@[simp] theorem Dev.setInbox_index (d : Dev) (x : List Report) : (d.setInbox x).index = d.index := rfl
@[simp] theorem Dev.setInbox_scan (d : Dev) (x : List Report) : (d.setInbox x).scan = d.scan := rfl
@[simp] theorem Dev.setInbox_retrieval (d : Dev) (x : List Report) : (d.setInbox x).retrieval = d.retrieval := rfl
@[simp] theorem Dev.setInbox_ports (d : Dev) (x : List Report) : (d.setInbox x).ports = d.ports := rfl
@[simp] theorem Dev.setInbox_inputs (d : Dev) (x : List Report) : (d.setInbox x).inputs = d.inputs := rfl
@[simp] theorem Dev.setInbox_time (d : Dev) (x : List Report) : (d.setInbox x).time = d.time := rfl
@[simp] theorem Dev.setInbox_inbox (d : Dev) (x : List Report) : (d.setInbox x).inbox = x := rfl
@[simp] theorem Dev.setInbox_setInbox (d : Dev) (x y : List Report) : (d.setInbox x).setInbox y = d.setInbox y := rfl
@[simp] theorem Dev.setInbox_self (d : Dev) : d.setInbox d.inbox = d := rfl

@[simp] theorem State.setDev_dev (s : State) (x : Dev) : (s.setDev x).dev = x := rfl
@[simp] theorem State.setDev_pending (s : State) (x : Dev) : (s.setDev x).pending = s.pending := rfl

end Sys2Proof.Machine
end

