-- ==== Sys2Proof/Laws/Settle.lean ====
section
/-! SUPPORT. When nothing is left to do: the conditions under which no reaction has its turn, one lemma per reaction, and what `settle` does
then. -/

namespace Sys2Proof.Machine

/-- The run has no reaction. -/
theorem runReaction_none_iff (d : Dev) :
    runReaction d = none ↔
      (∀ r, d.scan.run = some r →
        (r.state = .ending → atRest d = false) ∧ (r.state = .preparing ∨ r.state = .running → yieldDemand d = false)) := by
  unfold runReaction
  cases h : d.scan.run with
  | none => simp
  | some r => cases hs : r.state <;> simp [hs]

/-- A NORMAL hold gives way to an eligible URGENT request. -/
def holdPreempted (d : Dev) : Bool :=
  match d.retrieval.hold with
  | some h => h.class_ == RequestClass.normal && anyUrgent d
  | none => false

/-- An attempt waits for the lens, which is at rest. -/
def lensArrived (d : Dev) : Bool :=
  (match d.retrieval.attempt with
   | some a => a.phase == AttemptPhase.lensWait
   | none => false) && d.focus.lens.state != LensState.moving

/-- The scheduler has no reaction. -/
theorem retrievalReaction_none_iff (d : Dev) :
    retrievalReaction d = none ↔
      holdPreempted d = false ∧ lensArrived d = false ∧ (hintSeeking d && (anyEligible d || scanClaim d)) = false
        ∧ (hintConditions d && (indexedHint d).isNone) = false := by
  show (if holdPreempted d = true then some (endHold d)
    else if lensArrived d = true then some (completeDone d)
    else if (hintSeeking d && (anyEligible d || scanClaim d)) = true then some (abandonHint d)
    else if (hintConditions d && (indexedHint d).isNone) = true then
      some (d.setRetrieval { d.retrieval with hints := d.retrieval.hints.tail })
    else none) = none ↔ _
  cases holdPreempted d <;> cases lensArrived d <;> cases (hintSeeking d && (anyEligible d || scanClaim d)) <;>
    cases (hintConditions d && (indexedHint d).isNone) <;> simp

/-- The grant goes to nobody. -/
theorem grantReaction_none_iff (d : Dev) :
    grantReaction d = none ↔
      (grantFree d = true → anyUrgent d = false ∧ scanClaim d = false ∧ retrievalClaim d = false ∧ hintClaim d = false) := by
  unfold grantReaction
  cases grantFree d <;> cases anyUrgent d <;> cases scanClaim d <;> cases retrievalClaim d <;> cases hintClaim d <;> simp

/-- Nothing is left to do: the condition of every reaction is false. -/
theorem reaction_none_iff (d : Dev) :
    reaction d = none ↔
      d.inbox = [] ∧ (d.transport.releasePending && atRest d) = false ∧ runReaction d = none ∧ retrievalReaction d = none
        ∧ grantReaction d = none := by
  unfold reaction
  cases h : d.inbox with
  | cons r rest => simp
  | nil =>
    cases h1 : (d.transport.releasePending && atRest d)
    · cases h2 : runReaction d <;> simp
      cases h3 : retrievalReaction d <;> simp
    · simp

/-- Reactions stop where none has its turn. -/
theorem settleFor_of_none (n : Nat) (d : Dev) (h : reaction d = none) : settleFor n d = d := by
  cases n with
  | zero => rfl
  | succ n => simp [settleFor, h]

/-- Where nothing is left to do, `settle` only clears a park timer that may not run. -/
theorem settle_of_none (d : Dev) (h : reaction d = none) : settle d = stopParkTimer d := by
  unfold settle
  rw [settleFor_of_none _ _ h]

/-- The park timer is as it must be exactly when it may run or is 0. -/
theorem stopParkTimer_eq_iff (d : Dev) : stopParkTimer d = d ↔ (parkConditions d = false → d.transport.parkTimer = 0) := by
  unfold stopParkTimer
  by_cases h : parkConditions d = true
  · simp [h]
  · rw [if_neg h]
    constructor
    · intro e _
      rw [← e]
      rfl
    · intro e
      have e := e (by simpa using h)
      rcases d with ⟨_, _, t, _, _, _, _, _, _, _, _, _, _, _, _⟩
      rcases t with ⟨_, _, _, _, _, _, _, _, _, _, _, _, _, _, _, _⟩
      simp only [Dev.setTransport] at e ⊢
      rw [e]

/-- A settled device stays as it is. -/
theorem settle_of_settled (d : Dev) (h : Settled d) : settle d = d := by rw [settle_of_none d h.1, h.2]

/-- One reaction, then the rest. -/
theorem settleFor_step (n : Nat) (d d' : Dev) (h : reaction d = some d') : settleFor (n + 1) d = settleFor n d' := by
  simp [settleFor, h]

end Sys2Proof.Machine
end

