-- ==== Sys2Proof/Laws/Claims.lean ====
section
/-! SUPPORT. Which blocks a condition of a reaction reads: one lemma per condition and per update of a block that it does not read. -/

namespace Sys2Proof.Machine

@[simp] theorem anyUrgent_setMetering (d : Dev) (x : Metering) : anyUrgent (d.setMetering x) = anyUrgent d := rfl
@[simp] theorem anyUrgent_setTransport (d : Dev) (x : Transport) : anyUrgent (d.setTransport x) = anyUrgent d := rfl
@[simp] theorem anyUrgent_setGuard (d : Dev) (x : Guard) : anyUrgent (d.setGuard x) = anyUrgent d := rfl
@[simp] theorem anyUrgent_setTrigger (d : Dev) (x : Trigger) : anyUrgent (d.setTrigger x) = anyUrgent d := rfl
@[simp] theorem anyUrgent_setLines (d : Dev) (x : Lines) : anyUrgent (d.setLines x) = anyUrgent d := rfl
@[simp] theorem anyUrgent_setFocus (d : Dev) (x : Focus) : anyUrgent (d.setFocus x) = anyUrgent d := rfl
@[simp] theorem anyUrgent_setDetector (d : Dev) (x : Detector) : anyUrgent (d.setDetector x) = anyUrgent d := rfl
@[simp] theorem anyUrgent_setIndex (d : Dev) (x : FrameIndex) : anyUrgent (d.setIndex x) = anyUrgent d := rfl
@[simp] theorem anyUrgent_setScan (d : Dev) (x : ScanControl) : anyUrgent (d.setScan x) = anyUrgent d := rfl
@[simp] theorem anyUrgent_setPorts (d : Dev) (x : Ports) : anyUrgent (d.setPorts x) = anyUrgent d := rfl
@[simp] theorem anyUrgent_setInputs (d : Dev) (x : Inputs) : anyUrgent (d.setInputs x) = anyUrgent d := rfl
@[simp] theorem anyUrgent_setTime (d : Dev) (x : Nat) : anyUrgent (d.setTime x) = anyUrgent d := rfl
@[simp] theorem anyUrgent_setInbox (d : Dev) (x : List Report) : anyUrgent (d.setInbox x) = anyUrgent d := rfl

@[simp] theorem anyEligible_setMetering (d : Dev) (x : Metering) : anyEligible (d.setMetering x) = anyEligible d := rfl
@[simp] theorem anyEligible_setTransport (d : Dev) (x : Transport) : anyEligible (d.setTransport x) = anyEligible d := rfl
@[simp] theorem anyEligible_setGuard (d : Dev) (x : Guard) : anyEligible (d.setGuard x) = anyEligible d := rfl
@[simp] theorem anyEligible_setTrigger (d : Dev) (x : Trigger) : anyEligible (d.setTrigger x) = anyEligible d := rfl
@[simp] theorem anyEligible_setLines (d : Dev) (x : Lines) : anyEligible (d.setLines x) = anyEligible d := rfl
@[simp] theorem anyEligible_setFocus (d : Dev) (x : Focus) : anyEligible (d.setFocus x) = anyEligible d := rfl
@[simp] theorem anyEligible_setDetector (d : Dev) (x : Detector) : anyEligible (d.setDetector x) = anyEligible d := rfl
@[simp] theorem anyEligible_setIndex (d : Dev) (x : FrameIndex) : anyEligible (d.setIndex x) = anyEligible d := rfl
@[simp] theorem anyEligible_setScan (d : Dev) (x : ScanControl) : anyEligible (d.setScan x) = anyEligible d := rfl
@[simp] theorem anyEligible_setPorts (d : Dev) (x : Ports) : anyEligible (d.setPorts x) = anyEligible d := rfl
@[simp] theorem anyEligible_setInputs (d : Dev) (x : Inputs) : anyEligible (d.setInputs x) = anyEligible d := rfl
@[simp] theorem anyEligible_setTime (d : Dev) (x : Nat) : anyEligible (d.setTime x) = anyEligible d := rfl
@[simp] theorem anyEligible_setInbox (d : Dev) (x : List Report) : anyEligible (d.setInbox x) = anyEligible d := rfl

@[simp] theorem yieldDemand_setMetering (d : Dev) (x : Metering) : yieldDemand (d.setMetering x) = yieldDemand d := rfl
@[simp] theorem yieldDemand_setTransport (d : Dev) (x : Transport) : yieldDemand (d.setTransport x) = yieldDemand d := rfl
@[simp] theorem yieldDemand_setGuard (d : Dev) (x : Guard) : yieldDemand (d.setGuard x) = yieldDemand d := rfl
@[simp] theorem yieldDemand_setTrigger (d : Dev) (x : Trigger) : yieldDemand (d.setTrigger x) = yieldDemand d := rfl
@[simp] theorem yieldDemand_setLines (d : Dev) (x : Lines) : yieldDemand (d.setLines x) = yieldDemand d := rfl
@[simp] theorem yieldDemand_setFocus (d : Dev) (x : Focus) : yieldDemand (d.setFocus x) = yieldDemand d := rfl
@[simp] theorem yieldDemand_setDetector (d : Dev) (x : Detector) : yieldDemand (d.setDetector x) = yieldDemand d := rfl
@[simp] theorem yieldDemand_setIndex (d : Dev) (x : FrameIndex) : yieldDemand (d.setIndex x) = yieldDemand d := rfl
@[simp] theorem yieldDemand_setPorts (d : Dev) (x : Ports) : yieldDemand (d.setPorts x) = yieldDemand d := rfl
@[simp] theorem yieldDemand_setInputs (d : Dev) (x : Inputs) : yieldDemand (d.setInputs x) = yieldDemand d := rfl
@[simp] theorem yieldDemand_setTime (d : Dev) (x : Nat) : yieldDemand (d.setTime x) = yieldDemand d := rfl
@[simp] theorem yieldDemand_setInbox (d : Dev) (x : List Report) : yieldDemand (d.setInbox x) = yieldDemand d := rfl

@[simp] theorem scanClaim_setMetering (d : Dev) (x : Metering) : scanClaim (d.setMetering x) = scanClaim d := rfl
@[simp] theorem scanClaim_setTransport (d : Dev) (x : Transport) : scanClaim (d.setTransport x) = scanClaim d := rfl
@[simp] theorem scanClaim_setGuard (d : Dev) (x : Guard) : scanClaim (d.setGuard x) = scanClaim d := rfl
@[simp] theorem scanClaim_setTrigger (d : Dev) (x : Trigger) : scanClaim (d.setTrigger x) = scanClaim d := rfl
@[simp] theorem scanClaim_setLines (d : Dev) (x : Lines) : scanClaim (d.setLines x) = scanClaim d := rfl
@[simp] theorem scanClaim_setFocus (d : Dev) (x : Focus) : scanClaim (d.setFocus x) = scanClaim d := rfl
@[simp] theorem scanClaim_setDetector (d : Dev) (x : Detector) : scanClaim (d.setDetector x) = scanClaim d := rfl
@[simp] theorem scanClaim_setIndex (d : Dev) (x : FrameIndex) : scanClaim (d.setIndex x) = scanClaim d := rfl
@[simp] theorem scanClaim_setPorts (d : Dev) (x : Ports) : scanClaim (d.setPorts x) = scanClaim d := rfl
@[simp] theorem scanClaim_setInputs (d : Dev) (x : Inputs) : scanClaim (d.setInputs x) = scanClaim d := rfl
@[simp] theorem scanClaim_setTime (d : Dev) (x : Nat) : scanClaim (d.setTime x) = scanClaim d := rfl
@[simp] theorem scanClaim_setInbox (d : Dev) (x : List Report) : scanClaim (d.setInbox x) = scanClaim d := rfl

@[simp] theorem retrievalClaim_setMetering (d : Dev) (x : Metering) : retrievalClaim (d.setMetering x) = retrievalClaim d := rfl
@[simp] theorem retrievalClaim_setGuard (d : Dev) (x : Guard) : retrievalClaim (d.setGuard x) = retrievalClaim d := rfl
@[simp] theorem retrievalClaim_setTrigger (d : Dev) (x : Trigger) : retrievalClaim (d.setTrigger x) = retrievalClaim d := rfl
@[simp] theorem retrievalClaim_setLines (d : Dev) (x : Lines) : retrievalClaim (d.setLines x) = retrievalClaim d := rfl
@[simp] theorem retrievalClaim_setFocus (d : Dev) (x : Focus) : retrievalClaim (d.setFocus x) = retrievalClaim d := rfl
@[simp] theorem retrievalClaim_setDetector (d : Dev) (x : Detector) : retrievalClaim (d.setDetector x) = retrievalClaim d := rfl
@[simp] theorem retrievalClaim_setIndex (d : Dev) (x : FrameIndex) : retrievalClaim (d.setIndex x) = retrievalClaim d := rfl
@[simp] theorem retrievalClaim_setScan (d : Dev) (x : ScanControl) : retrievalClaim (d.setScan x) = retrievalClaim d := rfl
@[simp] theorem retrievalClaim_setPorts (d : Dev) (x : Ports) : retrievalClaim (d.setPorts x) = retrievalClaim d := rfl
@[simp] theorem retrievalClaim_setInputs (d : Dev) (x : Inputs) : retrievalClaim (d.setInputs x) = retrievalClaim d := rfl
@[simp] theorem retrievalClaim_setTime (d : Dev) (x : Nat) : retrievalClaim (d.setTime x) = retrievalClaim d := rfl
@[simp] theorem retrievalClaim_setInbox (d : Dev) (x : List Report) : retrievalClaim (d.setInbox x) = retrievalClaim d := rfl

@[simp] theorem hintConditions_setMetering (d : Dev) (x : Metering) : hintConditions (d.setMetering x) = hintConditions d := rfl
@[simp] theorem hintConditions_setGuard (d : Dev) (x : Guard) : hintConditions (d.setGuard x) = hintConditions d := rfl
@[simp] theorem hintConditions_setTrigger (d : Dev) (x : Trigger) : hintConditions (d.setTrigger x) = hintConditions d := rfl
@[simp] theorem hintConditions_setLines (d : Dev) (x : Lines) : hintConditions (d.setLines x) = hintConditions d := rfl
@[simp] theorem hintConditions_setFocus (d : Dev) (x : Focus) : hintConditions (d.setFocus x) = hintConditions d := rfl
@[simp] theorem hintConditions_setDetector (d : Dev) (x : Detector) : hintConditions (d.setDetector x) = hintConditions d := rfl
@[simp] theorem hintConditions_setIndex (d : Dev) (x : FrameIndex) : hintConditions (d.setIndex x) = hintConditions d := rfl
@[simp] theorem hintConditions_setPorts (d : Dev) (x : Ports) : hintConditions (d.setPorts x) = hintConditions d := rfl
@[simp] theorem hintConditions_setInputs (d : Dev) (x : Inputs) : hintConditions (d.setInputs x) = hintConditions d := rfl
@[simp] theorem hintConditions_setTime (d : Dev) (x : Nat) : hintConditions (d.setTime x) = hintConditions d := rfl
@[simp] theorem hintConditions_setInbox (d : Dev) (x : List Report) : hintConditions (d.setInbox x) = hintConditions d := rfl

@[simp] theorem indexedHint_setRoll (d : Dev) (x : RollContext) : indexedHint (d.setRoll x) = indexedHint d := rfl
@[simp] theorem indexedHint_setMetering (d : Dev) (x : Metering) : indexedHint (d.setMetering x) = indexedHint d := rfl
@[simp] theorem indexedHint_setTransport (d : Dev) (x : Transport) : indexedHint (d.setTransport x) = indexedHint d := rfl
@[simp] theorem indexedHint_setGuard (d : Dev) (x : Guard) : indexedHint (d.setGuard x) = indexedHint d := rfl
@[simp] theorem indexedHint_setTrigger (d : Dev) (x : Trigger) : indexedHint (d.setTrigger x) = indexedHint d := rfl
@[simp] theorem indexedHint_setLines (d : Dev) (x : Lines) : indexedHint (d.setLines x) = indexedHint d := rfl
@[simp] theorem indexedHint_setFocus (d : Dev) (x : Focus) : indexedHint (d.setFocus x) = indexedHint d := rfl
@[simp] theorem indexedHint_setDetector (d : Dev) (x : Detector) : indexedHint (d.setDetector x) = indexedHint d := rfl
@[simp] theorem indexedHint_setScan (d : Dev) (x : ScanControl) : indexedHint (d.setScan x) = indexedHint d := rfl
@[simp] theorem indexedHint_setPorts (d : Dev) (x : Ports) : indexedHint (d.setPorts x) = indexedHint d := rfl
@[simp] theorem indexedHint_setInputs (d : Dev) (x : Inputs) : indexedHint (d.setInputs x) = indexedHint d := rfl
@[simp] theorem indexedHint_setTime (d : Dev) (x : Nat) : indexedHint (d.setTime x) = indexedHint d := rfl
@[simp] theorem indexedHint_setInbox (d : Dev) (x : List Report) : indexedHint (d.setInbox x) = indexedHint d := rfl

@[simp] theorem hintSeeking_setRoll (d : Dev) (x : RollContext) : hintSeeking (d.setRoll x) = hintSeeking d := rfl
@[simp] theorem hintSeeking_setMetering (d : Dev) (x : Metering) : hintSeeking (d.setMetering x) = hintSeeking d := rfl
@[simp] theorem hintSeeking_setTransport (d : Dev) (x : Transport) : hintSeeking (d.setTransport x) = hintSeeking d := rfl
@[simp] theorem hintSeeking_setGuard (d : Dev) (x : Guard) : hintSeeking (d.setGuard x) = hintSeeking d := rfl
@[simp] theorem hintSeeking_setTrigger (d : Dev) (x : Trigger) : hintSeeking (d.setTrigger x) = hintSeeking d := rfl
@[simp] theorem hintSeeking_setLines (d : Dev) (x : Lines) : hintSeeking (d.setLines x) = hintSeeking d := rfl
@[simp] theorem hintSeeking_setFocus (d : Dev) (x : Focus) : hintSeeking (d.setFocus x) = hintSeeking d := rfl
@[simp] theorem hintSeeking_setDetector (d : Dev) (x : Detector) : hintSeeking (d.setDetector x) = hintSeeking d := rfl
@[simp] theorem hintSeeking_setIndex (d : Dev) (x : FrameIndex) : hintSeeking (d.setIndex x) = hintSeeking d := rfl
@[simp] theorem hintSeeking_setScan (d : Dev) (x : ScanControl) : hintSeeking (d.setScan x) = hintSeeking d := rfl
@[simp] theorem hintSeeking_setPorts (d : Dev) (x : Ports) : hintSeeking (d.setPorts x) = hintSeeking d := rfl
@[simp] theorem hintSeeking_setInputs (d : Dev) (x : Inputs) : hintSeeking (d.setInputs x) = hintSeeking d := rfl
@[simp] theorem hintSeeking_setTime (d : Dev) (x : Nat) : hintSeeking (d.setTime x) = hintSeeking d := rfl
@[simp] theorem hintSeeking_setInbox (d : Dev) (x : List Report) : hintSeeking (d.setInbox x) = hintSeeking d := rfl

@[simp] theorem holdPreempted_setMetering (d : Dev) (x : Metering) : holdPreempted (d.setMetering x) = holdPreempted d := rfl
@[simp] theorem holdPreempted_setTransport (d : Dev) (x : Transport) : holdPreempted (d.setTransport x) = holdPreempted d := rfl
@[simp] theorem holdPreempted_setGuard (d : Dev) (x : Guard) : holdPreempted (d.setGuard x) = holdPreempted d := rfl
@[simp] theorem holdPreempted_setTrigger (d : Dev) (x : Trigger) : holdPreempted (d.setTrigger x) = holdPreempted d := rfl
@[simp] theorem holdPreempted_setLines (d : Dev) (x : Lines) : holdPreempted (d.setLines x) = holdPreempted d := rfl
@[simp] theorem holdPreempted_setFocus (d : Dev) (x : Focus) : holdPreempted (d.setFocus x) = holdPreempted d := rfl
@[simp] theorem holdPreempted_setDetector (d : Dev) (x : Detector) : holdPreempted (d.setDetector x) = holdPreempted d := rfl
@[simp] theorem holdPreempted_setIndex (d : Dev) (x : FrameIndex) : holdPreempted (d.setIndex x) = holdPreempted d := rfl
@[simp] theorem holdPreempted_setScan (d : Dev) (x : ScanControl) : holdPreempted (d.setScan x) = holdPreempted d := rfl
@[simp] theorem holdPreempted_setPorts (d : Dev) (x : Ports) : holdPreempted (d.setPorts x) = holdPreempted d := rfl
@[simp] theorem holdPreempted_setInputs (d : Dev) (x : Inputs) : holdPreempted (d.setInputs x) = holdPreempted d := rfl
@[simp] theorem holdPreempted_setTime (d : Dev) (x : Nat) : holdPreempted (d.setTime x) = holdPreempted d := rfl
@[simp] theorem holdPreempted_setInbox (d : Dev) (x : List Report) : holdPreempted (d.setInbox x) = holdPreempted d := rfl

@[simp] theorem lensArrived_setRoll (d : Dev) (x : RollContext) : lensArrived (d.setRoll x) = lensArrived d := rfl
@[simp] theorem lensArrived_setMetering (d : Dev) (x : Metering) : lensArrived (d.setMetering x) = lensArrived d := rfl
@[simp] theorem lensArrived_setTransport (d : Dev) (x : Transport) : lensArrived (d.setTransport x) = lensArrived d := rfl
@[simp] theorem lensArrived_setGuard (d : Dev) (x : Guard) : lensArrived (d.setGuard x) = lensArrived d := rfl
@[simp] theorem lensArrived_setTrigger (d : Dev) (x : Trigger) : lensArrived (d.setTrigger x) = lensArrived d := rfl
@[simp] theorem lensArrived_setLines (d : Dev) (x : Lines) : lensArrived (d.setLines x) = lensArrived d := rfl
@[simp] theorem lensArrived_setDetector (d : Dev) (x : Detector) : lensArrived (d.setDetector x) = lensArrived d := rfl
@[simp] theorem lensArrived_setIndex (d : Dev) (x : FrameIndex) : lensArrived (d.setIndex x) = lensArrived d := rfl
@[simp] theorem lensArrived_setScan (d : Dev) (x : ScanControl) : lensArrived (d.setScan x) = lensArrived d := rfl
@[simp] theorem lensArrived_setPorts (d : Dev) (x : Ports) : lensArrived (d.setPorts x) = lensArrived d := rfl
@[simp] theorem lensArrived_setInputs (d : Dev) (x : Inputs) : lensArrived (d.setInputs x) = lensArrived d := rfl
@[simp] theorem lensArrived_setTime (d : Dev) (x : Nat) : lensArrived (d.setTime x) = lensArrived d := rfl
@[simp] theorem lensArrived_setInbox (d : Dev) (x : List Report) : lensArrived (d.setInbox x) = lensArrived d := rfl

@[simp] theorem hintClaim_setMetering (d : Dev) (x : Metering) : hintClaim (d.setMetering x) = hintClaim d := rfl
@[simp] theorem hintClaim_setGuard (d : Dev) (x : Guard) : hintClaim (d.setGuard x) = hintClaim d := rfl
@[simp] theorem hintClaim_setTrigger (d : Dev) (x : Trigger) : hintClaim (d.setTrigger x) = hintClaim d := rfl
@[simp] theorem hintClaim_setLines (d : Dev) (x : Lines) : hintClaim (d.setLines x) = hintClaim d := rfl
@[simp] theorem hintClaim_setFocus (d : Dev) (x : Focus) : hintClaim (d.setFocus x) = hintClaim d := rfl
@[simp] theorem hintClaim_setDetector (d : Dev) (x : Detector) : hintClaim (d.setDetector x) = hintClaim d := rfl
@[simp] theorem hintClaim_setPorts (d : Dev) (x : Ports) : hintClaim (d.setPorts x) = hintClaim d := rfl
@[simp] theorem hintClaim_setInputs (d : Dev) (x : Inputs) : hintClaim (d.setInputs x) = hintClaim d := rfl
@[simp] theorem hintClaim_setTime (d : Dev) (x : Nat) : hintClaim (d.setTime x) = hintClaim d := rfl
@[simp] theorem hintClaim_setInbox (d : Dev) (x : List Report) : hintClaim (d.setInbox x) = hintClaim d := rfl

@[simp] theorem atRest_setRoll (d : Dev) (x : RollContext) : atRest (d.setRoll x) = atRest d := rfl
@[simp] theorem atRest_setMetering (d : Dev) (x : Metering) : atRest (d.setMetering x) = atRest d := rfl
@[simp] theorem atRest_setGuard (d : Dev) (x : Guard) : atRest (d.setGuard x) = atRest d := rfl
@[simp] theorem atRest_setTrigger (d : Dev) (x : Trigger) : atRest (d.setTrigger x) = atRest d := rfl
@[simp] theorem atRest_setLines (d : Dev) (x : Lines) : atRest (d.setLines x) = atRest d := rfl
@[simp] theorem atRest_setFocus (d : Dev) (x : Focus) : atRest (d.setFocus x) = atRest d := rfl
@[simp] theorem atRest_setDetector (d : Dev) (x : Detector) : atRest (d.setDetector x) = atRest d := rfl
@[simp] theorem atRest_setIndex (d : Dev) (x : FrameIndex) : atRest (d.setIndex x) = atRest d := rfl
@[simp] theorem atRest_setScan (d : Dev) (x : ScanControl) : atRest (d.setScan x) = atRest d := rfl
@[simp] theorem atRest_setRetrieval (d : Dev) (x : Retrieval) : atRest (d.setRetrieval x) = atRest d := rfl
@[simp] theorem atRest_setPorts (d : Dev) (x : Ports) : atRest (d.setPorts x) = atRest d := rfl
@[simp] theorem atRest_setInputs (d : Dev) (x : Inputs) : atRest (d.setInputs x) = atRest d := rfl
@[simp] theorem atRest_setTime (d : Dev) (x : Nat) : atRest (d.setTime x) = atRest d := rfl
@[simp] theorem atRest_setInbox (d : Dev) (x : List Report) : atRest (d.setInbox x) = atRest d := rfl

@[simp] theorem grantFree_setRoll (d : Dev) (x : RollContext) : grantFree (d.setRoll x) = grantFree d := rfl
@[simp] theorem grantFree_setMetering (d : Dev) (x : Metering) : grantFree (d.setMetering x) = grantFree d := rfl
@[simp] theorem grantFree_setGuard (d : Dev) (x : Guard) : grantFree (d.setGuard x) = grantFree d := rfl
@[simp] theorem grantFree_setTrigger (d : Dev) (x : Trigger) : grantFree (d.setTrigger x) = grantFree d := rfl
@[simp] theorem grantFree_setLines (d : Dev) (x : Lines) : grantFree (d.setLines x) = grantFree d := rfl
@[simp] theorem grantFree_setFocus (d : Dev) (x : Focus) : grantFree (d.setFocus x) = grantFree d := rfl
@[simp] theorem grantFree_setDetector (d : Dev) (x : Detector) : grantFree (d.setDetector x) = grantFree d := rfl
@[simp] theorem grantFree_setIndex (d : Dev) (x : FrameIndex) : grantFree (d.setIndex x) = grantFree d := rfl
@[simp] theorem grantFree_setScan (d : Dev) (x : ScanControl) : grantFree (d.setScan x) = grantFree d := rfl
@[simp] theorem grantFree_setRetrieval (d : Dev) (x : Retrieval) : grantFree (d.setRetrieval x) = grantFree d := rfl
@[simp] theorem grantFree_setPorts (d : Dev) (x : Ports) : grantFree (d.setPorts x) = grantFree d := rfl
@[simp] theorem grantFree_setInputs (d : Dev) (x : Inputs) : grantFree (d.setInputs x) = grantFree d := rfl
@[simp] theorem grantFree_setTime (d : Dev) (x : Nat) : grantFree (d.setTime x) = grantFree d := rfl
@[simp] theorem grantFree_setInbox (d : Dev) (x : List Report) : grantFree (d.setInbox x) = grantFree d := rfl

@[simp] theorem parkConditions_setMetering (d : Dev) (x : Metering) : parkConditions (d.setMetering x) = parkConditions d := rfl
@[simp] theorem parkConditions_setGuard (d : Dev) (x : Guard) : parkConditions (d.setGuard x) = parkConditions d := rfl
@[simp] theorem parkConditions_setTrigger (d : Dev) (x : Trigger) : parkConditions (d.setTrigger x) = parkConditions d := rfl
@[simp] theorem parkConditions_setLines (d : Dev) (x : Lines) : parkConditions (d.setLines x) = parkConditions d := rfl
@[simp] theorem parkConditions_setFocus (d : Dev) (x : Focus) : parkConditions (d.setFocus x) = parkConditions d := rfl
@[simp] theorem parkConditions_setDetector (d : Dev) (x : Detector) : parkConditions (d.setDetector x) = parkConditions d := rfl
@[simp] theorem parkConditions_setIndex (d : Dev) (x : FrameIndex) : parkConditions (d.setIndex x) = parkConditions d := rfl
@[simp] theorem parkConditions_setScan (d : Dev) (x : ScanControl) : parkConditions (d.setScan x) = parkConditions d := rfl
@[simp] theorem parkConditions_setRetrieval (d : Dev) (x : Retrieval) : parkConditions (d.setRetrieval x) = parkConditions d := rfl
@[simp] theorem parkConditions_setPorts (d : Dev) (x : Ports) : parkConditions (d.setPorts x) = parkConditions d := rfl
@[simp] theorem parkConditions_setInputs (d : Dev) (x : Inputs) : parkConditions (d.setInputs x) = parkConditions d := rfl
@[simp] theorem parkConditions_setTime (d : Dev) (x : Nat) : parkConditions (d.setTime x) = parkConditions d := rfl
@[simp] theorem parkConditions_setInbox (d : Dev) (x : List Report) : parkConditions (d.setInbox x) = parkConditions d := rfl

@[simp] theorem runIn_setRoll (d : Dev) (x : RollContext) (l : List RunState) : runIn (d.setRoll x) l = runIn d l := rfl
@[simp] theorem runIn_setMetering (d : Dev) (x : Metering) (l : List RunState) : runIn (d.setMetering x) l = runIn d l := rfl
@[simp] theorem runIn_setTransport (d : Dev) (x : Transport) (l : List RunState) : runIn (d.setTransport x) l = runIn d l := rfl
@[simp] theorem runIn_setGuard (d : Dev) (x : Guard) (l : List RunState) : runIn (d.setGuard x) l = runIn d l := rfl
@[simp] theorem runIn_setTrigger (d : Dev) (x : Trigger) (l : List RunState) : runIn (d.setTrigger x) l = runIn d l := rfl
@[simp] theorem runIn_setLines (d : Dev) (x : Lines) (l : List RunState) : runIn (d.setLines x) l = runIn d l := rfl
@[simp] theorem runIn_setFocus (d : Dev) (x : Focus) (l : List RunState) : runIn (d.setFocus x) l = runIn d l := rfl
@[simp] theorem runIn_setDetector (d : Dev) (x : Detector) (l : List RunState) : runIn (d.setDetector x) l = runIn d l := rfl
@[simp] theorem runIn_setIndex (d : Dev) (x : FrameIndex) (l : List RunState) : runIn (d.setIndex x) l = runIn d l := rfl
@[simp] theorem runIn_setRetrieval (d : Dev) (x : Retrieval) (l : List RunState) : runIn (d.setRetrieval x) l = runIn d l := rfl
@[simp] theorem runIn_setPorts (d : Dev) (x : Ports) (l : List RunState) : runIn (d.setPorts x) l = runIn d l := rfl
@[simp] theorem runIn_setInputs (d : Dev) (x : Inputs) (l : List RunState) : runIn (d.setInputs x) l = runIn d l := rfl
@[simp] theorem runIn_setTime (d : Dev) (x : Nat) (l : List RunState) : runIn (d.setTime x) l = runIn d l := rfl
@[simp] theorem runIn_setInbox (d : Dev) (x : List Report) (l : List RunState) : runIn (d.setInbox x) l = runIn d l := rfl

/-- Raising an event is an update of the ports. -/
theorem raise_eq_setPorts (id : PortId) (k : EventKind) (d : Dev) : ∃ ps, raise id k d = d.setPorts ps := ⟨_, rfl⟩

/-- A block that no reaction reads may change without giving any reaction its turn. -/
theorem reaction_none_setPorts (d : Dev) (x : Ports) : reaction (d.setPorts x) = none ↔ reaction d = none := by
  simp [reaction_none_iff, runReaction_none_iff, retrievalReaction_none_iff, grantReaction_none_iff]

theorem reaction_none_setMetering (d : Dev) (x : Metering) : reaction (d.setMetering x) = none ↔ reaction d = none := by
  simp [reaction_none_iff, runReaction_none_iff, retrievalReaction_none_iff, grantReaction_none_iff]

theorem reaction_none_setGuard (d : Dev) (x : Guard) : reaction (d.setGuard x) = none ↔ reaction d = none := by
  simp [reaction_none_iff, runReaction_none_iff, retrievalReaction_none_iff, grantReaction_none_iff]

theorem reaction_none_setTrigger (d : Dev) (x : Trigger) : reaction (d.setTrigger x) = none ↔ reaction d = none := by
  simp [reaction_none_iff, runReaction_none_iff, retrievalReaction_none_iff, grantReaction_none_iff]

theorem reaction_none_setLines (d : Dev) (x : Lines) : reaction (d.setLines x) = none ↔ reaction d = none := by
  simp [reaction_none_iff, runReaction_none_iff, retrievalReaction_none_iff, grantReaction_none_iff]

theorem reaction_none_setDetector (d : Dev) (x : Detector) : reaction (d.setDetector x) = none ↔ reaction d = none := by
  simp [reaction_none_iff, runReaction_none_iff, retrievalReaction_none_iff, grantReaction_none_iff]

theorem reaction_none_setInputs (d : Dev) (x : Inputs) : reaction (d.setInputs x) = none ↔ reaction d = none := by
  simp [reaction_none_iff, runReaction_none_iff, retrievalReaction_none_iff, grantReaction_none_iff]

theorem reaction_none_setTime (d : Dev) (x : Nat) : reaction (d.setTime x) = none ↔ reaction d = none := by
  simp [reaction_none_iff, runReaction_none_iff, retrievalReaction_none_iff, grantReaction_none_iff]

@[simp] theorem settled_setPorts (d : Dev) (x : Ports) : Settled (d.setPorts x) ↔ Settled d := by
  unfold Settled
  rw [reaction_none_setPorts]
  rw [stopParkTimer_eq_iff, stopParkTimer_eq_iff]
  rfl

@[simp] theorem settled_setMetering (d : Dev) (x : Metering) : Settled (d.setMetering x) ↔ Settled d := by
  unfold Settled
  rw [reaction_none_setMetering]
  rw [stopParkTimer_eq_iff, stopParkTimer_eq_iff]
  rfl

@[simp] theorem settled_setGuard (d : Dev) (x : Guard) : Settled (d.setGuard x) ↔ Settled d := by
  unfold Settled
  rw [reaction_none_setGuard]
  rw [stopParkTimer_eq_iff, stopParkTimer_eq_iff]
  rfl

@[simp] theorem settled_setTrigger (d : Dev) (x : Trigger) : Settled (d.setTrigger x) ↔ Settled d := by
  unfold Settled
  rw [reaction_none_setTrigger]
  rw [stopParkTimer_eq_iff, stopParkTimer_eq_iff]
  rfl

@[simp] theorem settled_setLines (d : Dev) (x : Lines) : Settled (d.setLines x) ↔ Settled d := by
  unfold Settled
  rw [reaction_none_setLines]
  rw [stopParkTimer_eq_iff, stopParkTimer_eq_iff]
  rfl

@[simp] theorem settled_setDetector (d : Dev) (x : Detector) : Settled (d.setDetector x) ↔ Settled d := by
  unfold Settled
  rw [reaction_none_setDetector]
  rw [stopParkTimer_eq_iff, stopParkTimer_eq_iff]
  rfl

@[simp] theorem settled_setInputs (d : Dev) (x : Inputs) : Settled (d.setInputs x) ↔ Settled d := by
  unfold Settled
  rw [reaction_none_setInputs]
  rw [stopParkTimer_eq_iff, stopParkTimer_eq_iff]
  rfl

@[simp] theorem settled_setTime (d : Dev) (x : Nat) : Settled (d.setTime x) ↔ Settled d := by
  unfold Settled
  rw [reaction_none_setTime]
  rw [stopParkTimer_eq_iff, stopParkTimer_eq_iff]
  rfl

@[simp] theorem settled_raise (id : PortId) (k : EventKind) (d : Dev) : Settled (raise id k d) ↔ Settled d := by
  obtain ⟨ps, h⟩ := raise_eq_setPorts id k d
  rw [h, settled_setPorts]

@[simp] theorem settled_heard (port : PortId) (mosi : List Byte) (s : State) : Settled (heard port mosi s) ↔ Settled s.dev := by
  show Settled ((s.dev.setPorts _).setPorts _) ↔ _
  rw [settled_setPorts, settled_setPorts]

end Sys2Proof.Machine
end

