-- ==== Sys2Proof/Laws/Memory.lean ====
section
/-! SUPPORT. The script memory (R64): what a write and a store leave at every address, and that both keep the canonical form. -/

namespace Sys2Proof.Machine

theorem Memory.wfFrom_cons {low a : Nat} {b : Byte} {rest : List Host.Cell} :
    Memory.wfFrom low ((a, b) :: rest) = true ↔ low ≤ a ∧ b ≠ 0 ∧ Memory.wfFrom (a + 1) rest = true := by
  simp [Memory.wfFrom, and_assoc]

/-- An address below the lowest listed one reads 0. -/
theorem Memory.read_below {low x : Nat} {m : List Host.Cell} (h : Memory.wfFrom low m = true) (hx : x < low) : Memory.read m x = 0 := by
  induction m generalizing low with
  | nil => rfl
  | cons c rest ih =>
    obtain ⟨a, b⟩ := c
    obtain ⟨h1, -, h3⟩ := Memory.wfFrom_cons.1 h
    have : a ≠ x := by omega
    simpa [Memory.read, this] using ih h3 (by omega)

/-- A lower bound can be lowered. -/
theorem Memory.wfFrom_mono {low low' : Nat} {m : List Host.Cell} (h : Memory.wfFrom low m = true) (hl : low' ≤ low) :
    Memory.wfFrom low' m = true := by
  cases m with
  | nil => rfl
  | cons c rest =>
    obtain ⟨a, b⟩ := c
    obtain ⟨h1, h2, h3⟩ := Memory.wfFrom_cons.1 h
    exact Memory.wfFrom_cons.2 ⟨by omega, h2, h3⟩

/-- A write keeps the canonical form from an address on. -/
theorem Memory.write_wfFrom {low : Nat} {m : List Host.Cell} (h : Memory.wfFrom low m = true) (x : Nat) (v : Byte) (hx : low ≤ x) :
    Memory.wfFrom low (Memory.write m x v) = true := by
  induction m generalizing low with
  | nil =>
    unfold Memory.write
    split_ifs with hv
    · rfl
    · exact Memory.wfFrom_cons.2 ⟨hx, hv, rfl⟩
  | cons c rest ih =>
    obtain ⟨a, b⟩ := c
    obtain ⟨h1, h2, h3⟩ := Memory.wfFrom_cons.1 h
    unfold Memory.write
    split_ifs with hlt hv heq hv
    · exact h
    · exact Memory.wfFrom_cons.2 ⟨hx, hv, Memory.wfFrom_cons.2 ⟨by omega, h2, h3⟩⟩
    · exact Memory.wfFrom_mono h3 (by omega)
    · exact Memory.wfFrom_cons.2 ⟨hx, hv, heq ▸ h3⟩
    · exact Memory.wfFrom_cons.2 ⟨h1, h2, ih h3 (by omega)⟩

/-- A write keeps the canonical form. -/
theorem Memory.write_wf {m : List Host.Cell} (h : Memory.wf m = true) (x : Nat) (v : Byte) : Memory.wf (Memory.write m x v) = true :=
  Memory.write_wfFrom h x v (Nat.zero_le x)

/-- What every address reads after a write. -/
theorem Memory.read_write {low : Nat} {m : List Host.Cell} (h : Memory.wfFrom low m = true) (x y : Nat) (v : Byte) :
    Memory.read (Memory.write m x v) y = if y = x then v else Memory.read m y := by
  induction m generalizing low with
  | nil =>
    unfold Memory.write
    by_cases hv : v = 0
    · rw [if_pos hv, hv]
      exact (ite_self _).symm
    · rw [if_neg hv]
      simp [Memory.read, eq_comm]
  | cons c rest ih =>
    obtain ⟨a, b⟩ := c
    obtain ⟨h1, h2, h3⟩ := Memory.wfFrom_cons.1 h
    unfold Memory.write
    by_cases hlt : x < a
    · rw [if_pos hlt]
      by_cases hv : v = 0
      · rw [if_pos hv, hv]
        by_cases hy : y = x
        · rw [if_pos hy, hy]
          exact Memory.read_below (low := a) (Memory.wfFrom_cons.2 ⟨Nat.le_refl a, h2, h3⟩) hlt
        · rw [if_neg hy]
      · rw [if_neg hv]
        simp [Memory.read, eq_comm]
    · rw [if_neg hlt]
      by_cases hxa : x = a
      · subst hxa
        rw [if_pos rfl]
        by_cases hv : v = 0
        · rw [if_pos hv, hv]
          by_cases hy : y = x
          · rw [if_pos hy, hy]
            exact Memory.read_below h3 (Nat.lt_succ_self x)
          · have : ¬ x = y := fun e => hy e.symm
            simp [Memory.read, this, hy]
        · rw [if_neg hv]
          by_cases hy : y = x
          · simp [Memory.read, hy]
          · have : ¬ x = y := fun e => hy e.symm
            simp [Memory.read, this, hy]
      · rw [if_neg hxa]
        by_cases hay : a = y
        · have : ¬ y = x := fun e => hxa (by omega)
          simp [Memory.read, hay, this]
        · simp [Memory.read, hay, ih h3]

/-- The address written reads the byte written. -/
theorem Memory.read_write_same {m : List Host.Cell} (h : Memory.wf m = true) (x : Nat) (v : Byte) :
    Memory.read (Memory.write m x v) x = v := by
  simp [Memory.read_write h]

/-- Every other address reads as before. -/
theorem Memory.read_write_other {m : List Host.Cell} (h : Memory.wf m = true) {x y : Nat} (v : Byte) (hy : y ≠ x) :
    Memory.read (Memory.write m x v) y = Memory.read m y := by
  simp [Memory.read_write h, hy]

/-- A store keeps the canonical form. -/
theorem Memory.store_wf {m : List Host.Cell} (h : Memory.wf m = true) (a : Nat) (bs : List Byte) :
    Memory.wf (Memory.store m a bs) = true := by
  induction bs generalizing m a with
  | nil => exact h
  | cons b bs ih => exact ih (Memory.write_wf h _ _) _

/-- An address that no byte of a store goes to reads as before. -/
theorem Memory.read_store_other {m : List Host.Cell} (h : Memory.wf m = true) (a : Nat) (bs : List Byte) (y : Nat)
    (hy : ∀ j, j < bs.length → y ≠ (a + j) % Config.scriptBytes) : Memory.read (Memory.store m a bs) y = Memory.read m y := by
  induction bs generalizing m a with
  | nil => rfl
  | cons b bs ih =>
    have h0 := hy 0 (by simp)
    rw [Memory.store, ih (Memory.write_wf h _ _), Memory.read_write_other h]
    · simpa using h0
    · intro j hj
      have := hy (j + 1) (by simpa using hj)
      rwa [show a + (j + 1) = a + 1 + j by omega] at this

/-- A store of at most 256 bytes leaves byte j at its address, wrapped at 256. -/
theorem Memory.read_store {m : List Host.Cell} (h : Memory.wf m = true) (a : Nat) (bs : List Byte) (hn : bs.length ≤ Config.scriptBytes)
    (j : Nat) (b : Byte) (hj : bs[j]? = some b) : Memory.read (Memory.store m a bs) ((a + j) % Config.scriptBytes) = b := by
  induction bs generalizing m a j with
  | nil => simp at hj
  | cons c bs ih =>
    cases j with
    | zero =>
      rw [Memory.store, Memory.read_store_other (Memory.write_wf h _ _)]
      · simp only [List.getElem?_cons_zero, Option.some.injEq] at hj
        simpa [hj] using Memory.read_write_same h (a % Config.scriptBytes) c
      · intro i hi
        simp only [List.length_cons, Config.scriptBytes] at hn ⊢
        omega
    | succ j =>
      have := ih (Memory.write_wf h (a % Config.scriptBytes) c) (a + 1) (by simp at hn; omega) j (by simpa using hj)
      rwa [show a + 1 + j = a + (j + 1) by omega] at this

/-- A load gives the bytes that the addresses read, wrapped at 256. -/
theorem Memory.load_getElem? (m : List Host.Cell) (a n j : Nat) (hj : j < n) :
    (Memory.load m a n)[j]? = some (Memory.read m ((a + j) % Config.scriptBytes)) := by
  induction n generalizing a j with
  | zero => omega
  | succ n ih =>
    cases j with
    | zero => rfl
    | succ j =>
      have := ih (a + 1) j (by omega)
      simpa [Memory.load, show a + (j + 1) = a + 1 + j by omega] using this

/-- The script memory at reset is in canonical form. -/
theorem Memory.wf_reset : Memory.wf State.reset.dev.guard.script = true := rfl

end Sys2Proof.Machine
end

