-- ==== Sys2Proof/Laws/PerInstr.lean ====
section
/-! SUPPORT. The shape of every command, one lemma per constructor: a request frame is a transaction that its port checks before the
handler of the owning block runs, and every other command is a function of the device. -/

namespace Sys2Proof.Laws

open Sys2Proof.Machine

/-- A command is a request frame of the port, with a handler of its own, exactly where `requestOfCommand` names one; any other command is a
function of the device. -/
def CommandShape.Statement (i : Instr) : Prop :=
  match requestOfCommand i with
  | some (r, port, mosi) => ∃ h : Handler, ∀ s, exec i s = onDev (takeFrame r port mosi h) s
  | none => ∃ f : Dev → Dev, ∀ s, exec i s = onDev f s

theorem CommandShape.pinReset : ∀ levels, CommandShape.Statement (.pinReset levels) := fun levels => ⟨fun _ => Machine.pinReset levels, fun _ => rfl⟩
theorem CommandShape.softReset : ∀ port mosi, CommandShape.Statement (.softReset port mosi) := fun _ _ => ⟨_, fun _ => rfl⟩
theorem CommandShape.unknownCodeFrame : ∀ port code mosi, CommandShape.Statement (.unknownCodeFrame port code mosi) := fun _ _ _ => ⟨_, fun _ => rfl⟩
theorem CommandShape.statusRequest : ∀ port mosi, CommandShape.Statement (.statusRequest port mosi) := fun _ _ => ⟨_, fun _ => rfl⟩
theorem CommandShape.identify : ∀ port mosi, CommandShape.Statement (.identify port mosi) := fun _ _ => ⟨_, fun _ => rfl⟩
theorem CommandShape.fetch : ∀ port mosi, CommandShape.Statement (.fetch port mosi) := fun _ _ => ⟨_, fun _ => rfl⟩
theorem CommandShape.ackEvents : ∀ port mosi, CommandShape.Statement (.ackEvents port mosi) := fun _ _ => ⟨_, fun _ => rfl⟩
theorem CommandShape.eventMask : ∀ port mosi, CommandShape.Statement (.eventMask port mosi) := fun _ _ => ⟨_, fun _ => rfl⟩
theorem CommandShape.indexRead : ∀ port mosi, CommandShape.Statement (.indexRead port mosi) := fun _ _ => ⟨_, fun _ => rfl⟩
theorem CommandShape.scanStart : ∀ port mosi, CommandShape.Statement (.scanStart port mosi) := fun _ _ => ⟨_, fun _ => rfl⟩
theorem CommandShape.scanPause : ∀ port mosi, CommandShape.Statement (.scanPause port mosi) := fun _ _ => ⟨_, fun _ => rfl⟩
theorem CommandShape.scanResume : ∀ port mosi, CommandShape.Statement (.scanResume port mosi) := fun _ _ => ⟨_, fun _ => rfl⟩
theorem CommandShape.scanAbort : ∀ port mosi, CommandShape.Statement (.scanAbort port mosi) := fun _ _ => ⟨_, fun _ => rfl⟩
theorem CommandShape.noticesRead : ∀ port mosi, CommandShape.Statement (.noticesRead port mosi) := fun _ _ => ⟨_, fun _ => rfl⟩
theorem CommandShape.retrieve : ∀ port mosi, CommandShape.Statement (.retrieve port mosi) := fun _ _ => ⟨_, fun _ => rfl⟩
theorem CommandShape.cancel : ∀ port mosi, CommandShape.Statement (.cancel port mosi) := fun _ _ => ⟨_, fun _ => rfl⟩
theorem CommandShape.hint : ∀ port mosi, CommandShape.Statement (.hint port mosi) := fun _ _ => ⟨_, fun _ => rfl⟩
theorem CommandShape.releaseHold : ∀ port mosi, CommandShape.Statement (.releaseHold port mosi) := fun _ _ => ⟨_, fun _ => rfl⟩
theorem CommandShape.completionsRead : ∀ port mosi, CommandShape.Statement (.completionsRead port mosi) := fun _ _ => ⟨_, fun _ => rfl⟩
theorem CommandShape.indexFind : ∀ port mosi, CommandShape.Statement (.indexFind port mosi) := fun _ _ => ⟨_, fun _ => rfl⟩
theorem CommandShape.declareRoll : ∀ port mosi, CommandShape.Statement (.declareRoll port mosi) := fun _ _ => ⟨_, fun _ => rfl⟩
theorem CommandShape.releaseRoll : ∀ port mosi, CommandShape.Statement (.releaseRoll port mosi) := fun _ _ => ⟨_, fun _ => rfl⟩
theorem CommandShape.setDatum : ∀ port mosi, CommandShape.Statement (.setDatum port mosi) := fun _ _ => ⟨_, fun _ => rfl⟩
theorem CommandShape.jog : ∀ port mosi, CommandShape.Statement (.jog port mosi) := fun _ _ => ⟨_, fun _ => rfl⟩
theorem CommandShape.serviceSeek : ∀ port mosi, CommandShape.Statement (.serviceSeek port mosi) := fun _ _ => ⟨_, fun _ => rfl⟩
theorem CommandShape.stop : ∀ port mosi, CommandShape.Statement (.stop port mosi) := fun _ _ => ⟨_, fun _ => rfl⟩
theorem CommandShape.halt : ∀ port mosi, CommandShape.Statement (.halt port mosi) := fun _ _ => ⟨_, fun _ => rfl⟩
theorem CommandShape.clearFault : ∀ port mosi, CommandShape.Statement (.clearFault port mosi) := fun _ _ => ⟨_, fun _ => rfl⟩
theorem CommandShape.lensHome : ∀ port mosi, CommandShape.Statement (.lensHome port mosi) := fun _ _ => ⟨_, fun _ => rfl⟩
theorem CommandShape.lensMove : ∀ port mosi, CommandShape.Statement (.lensMove port mosi) := fun _ _ => ⟨_, fun _ => rfl⟩
theorem CommandShape.focusSearch : ∀ port mosi, CommandShape.Statement (.focusSearch port mosi) := fun _ _ => ⟨_, fun _ => rfl⟩
theorem CommandShape.slotConfigEnable : ∀ port mosi, CommandShape.Statement (.slotConfigEnable port mosi) := fun _ _ => ⟨_, fun _ => rfl⟩
theorem CommandShape.slotConfigDisable : ∀ port mosi, CommandShape.Statement (.slotConfigDisable port mosi) := fun _ _ => ⟨_, fun _ => rfl⟩
theorem CommandShape.slotRestart : ∀ port mosi, CommandShape.Statement (.slotRestart port mosi) := fun _ _ => ⟨_, fun _ => rfl⟩
theorem CommandShape.slotRead : ∀ port mosi, CommandShape.Statement (.slotRead port mosi) := fun _ _ => ⟨_, fun _ => rfl⟩
theorem CommandShape.scriptWrite : ∀ port mosi, CommandShape.Statement (.scriptWrite port mosi) := fun _ _ => ⟨_, fun _ => rfl⟩
theorem CommandShape.scriptRead : ∀ port mosi, CommandShape.Statement (.scriptRead port mosi) := fun _ _ => ⟨_, fun _ => rfl⟩
theorem CommandShape.configWriteRollItem : ∀ port tag len item value, CommandShape.Statement (.configWriteRollItem port tag len item value) := fun _ _ _ _ _ => ⟨_, fun _ => rfl⟩
theorem CommandShape.configWriteTransportItem : ∀ port tag len item value, CommandShape.Statement (.configWriteTransportItem port tag len item value) := fun _ _ _ _ _ => ⟨_, fun _ => rfl⟩
theorem CommandShape.configWriteBusSpeed : ∀ port tag len value, CommandShape.Statement (.configWriteBusSpeed port tag len value) := fun _ _ _ _ => ⟨_, fun _ => rfl⟩
theorem CommandShape.configWriteCombineMode : ∀ port tag len value, CommandShape.Statement (.configWriteCombineMode port tag len value) := fun _ _ _ _ => ⟨_, fun _ => rfl⟩
theorem CommandShape.configWriteLineRate : ∀ port tag len value, CommandShape.Statement (.configWriteLineRate port tag len value) := fun _ _ _ _ => ⟨_, fun _ => rfl⟩
theorem CommandShape.configWriteTapMap : ∀ port tag len value, CommandShape.Statement (.configWriteTapMap port tag len value) := fun _ _ _ _ => ⟨_, fun _ => rfl⟩
theorem CommandShape.configWriteStride : ∀ port tag len value, CommandShape.Statement (.configWriteStride port tag len value) := fun _ _ _ _ => ⟨_, fun _ => rfl⟩
theorem CommandShape.configWriteFocusItem : ∀ port tag len item value, CommandShape.Statement (.configWriteFocusItem port tag len item value) := fun _ _ _ _ _ => ⟨_, fun _ => rfl⟩
theorem CommandShape.configWriteDetectorItem : ∀ port tag len item value, CommandShape.Statement (.configWriteDetectorItem port tag len item value) := fun _ _ _ _ _ => ⟨_, fun _ => rfl⟩
theorem CommandShape.configWriteRetrievalItem : ∀ port tag len item value, CommandShape.Statement (.configWriteRetrievalItem port tag len item value) := fun _ _ _ _ _ => ⟨_, fun _ => rfl⟩
theorem CommandShape.configWriteUnknownItem : ∀ port tag len item value, CommandShape.Statement (.configWriteUnknownItem port tag len item value) := fun _ _ _ _ _ => ⟨_, fun _ => rfl⟩
theorem CommandShape.configRead : ∀ port mosi, CommandShape.Statement (.configRead port mosi) := fun _ _ => ⟨_, fun _ => rfl⟩
theorem CommandShape.indexImportBegin : ∀ port mosi, CommandShape.Statement (.indexImportBegin port mosi) := fun _ _ => ⟨_, fun _ => rfl⟩
theorem CommandShape.indexImportEntry : ∀ port mosi, CommandShape.Statement (.indexImportEntry port mosi) := fun _ _ => ⟨_, fun _ => rfl⟩
theorem CommandShape.indexImportEnd : ∀ port mosi, CommandShape.Statement (.indexImportEnd port mosi) := fun _ _ => ⟨_, fun _ => rfl⟩
theorem CommandShape.indexClose : ∀ port mosi, CommandShape.Statement (.indexClose port mosi) := fun _ _ => ⟨_, fun _ => rfl⟩
theorem CommandShape.indexReopen : ∀ port mosi, CommandShape.Statement (.indexReopen port mosi) := fun _ _ => ⟨_, fun _ => rfl⟩
theorem CommandShape.filmPresentChange : ∀ sample1 sample2, CommandShape.Statement (.filmPresentChange sample1 sample2) := fun _ _ => ⟨_, fun _ => rfl⟩
theorem CommandShape.encoderPhaseChange : ∀ encA encB, CommandShape.Statement (.encoderPhaseChange encA encB) := fun _ _ => ⟨_, fun _ => rfl⟩
theorem CommandShape.encoderUnsettledExpiry : CommandShape.Statement .encoderUnsettledExpiry := ⟨_, fun _ => rfl⟩
theorem CommandShape.splicePulse : CommandShape.Statement .splicePulse := ⟨_, fun _ => rfl⟩
theorem CommandShape.profileStep : ∀ pins, CommandShape.Statement (.profileStep pins) := fun _ => ⟨_, fun _ => rfl⟩
theorem CommandShape.seekTimeout : CommandShape.Statement .seekTimeout := ⟨_, fun _ => rfl⟩
theorem CommandShape.hunting : CommandShape.Statement .hunting := ⟨_, fun _ => rfl⟩
theorem CommandShape.driveFault : CommandShape.Statement .driveFault := ⟨_, fun _ => rfl⟩
theorem CommandShape.retensioningEnd : CommandShape.Statement .retensioningEnd := ⟨_, fun _ => rfl⟩
theorem CommandShape.parkTimeout : CommandShape.Statement .parkTimeout := ⟨_, fun _ => rfl⟩
theorem CommandShape.slotDueTime : ∀ slot, CommandShape.Statement (.slotDueTime slot) := fun _ => ⟨_, fun _ => rfl⟩
theorem CommandShape.preInitWaitEnd : ∀ slot, CommandShape.Statement (.preInitWaitEnd slot) := fun _ => ⟨_, fun _ => rfl⟩
theorem CommandShape.postInitWaitEnd : ∀ slot, CommandShape.Statement (.postInitWaitEnd slot) := fun _ => ⟨_, fun _ => rfl⟩
theorem CommandShape.busAttemptEnd : ∀ outcome, CommandShape.Statement (.busAttemptEnd outcome) := fun _ => ⟨_, fun _ => rfl⟩
theorem CommandShape.sclHoldTimeout : CommandShape.Statement .sclHoldTimeout := ⟨_, fun _ => rfl⟩
theorem CommandShape.segmentComplete : ∀ byte, CommandShape.Statement (.segmentComplete byte) := fun byte => ⟨fun d => settle (receiveByte byte d), fun _ => rfl⟩
theorem CommandShape.blipStartEdge : CommandShape.Statement .blipStartEdge := ⟨_, fun _ => rfl⟩
theorem CommandShape.blipEndEdge : CommandShape.Statement .blipEndEdge := ⟨_, fun _ => rfl⟩
theorem CommandShape.lensStepDue : CommandShape.Statement .lensStepDue := ⟨_, fun _ => rfl⟩
theorem CommandShape.lensSettleEnd : CommandShape.Statement .lensSettleEnd := ⟨_, fun _ => rfl⟩
theorem CommandShape.homingStep : ∀ homeSwitch, CommandShape.Statement (.homingStep homeSwitch) := fun _ => ⟨_, fun _ => rfl⟩
theorem CommandShape.homingStepLimit : CommandShape.Statement .homingStepLimit := ⟨_, fun _ => rfl⟩
theorem CommandShape.deferralExpiry : ∀ ticket, CommandShape.Statement (.deferralExpiry ticket) := fun _ => ⟨_, fun _ => rfl⟩
theorem CommandShape.holdTimeout : CommandShape.Statement .holdTimeout := ⟨_, fun _ => rfl⟩
theorem CommandShape.monitorByteReceived : ∀ byte, CommandShape.Statement (.monitorByteReceived byte) := fun byte => ⟨fun d => settle (receiveByte byte d), fun _ => rfl⟩

end Sys2Proof.Laws
end

