-- ==== Sys2Proof/Laws/Ports.lean ====
section
/-! SUPPORT. What a transaction with a request frame can do, once for every request (R182, R184, R186), and what raising an event, answering
and a halt leave. -/

namespace Sys2Proof.Machine

/-! ### One port of the three -/

@[simp] theorem Ports.get_put (ps : Ports) (id : PortId) (p : Port) : (ps.put id p).get id = p := by cases id <;> rfl

theorem Ports.get_put_other (ps : Ports) {id other : PortId} (p : Port) (h : other ≠ id) : (ps.put id p).get other = ps.get other := by
  cases id <;> cases other <;> first | rfl | exact absurd rfl h

@[simp] theorem Ports.put_softReset (ps : Ports) (id : PortId) (p : Port) : (ps.put id p).softResetPending = ps.softResetPending := by
  cases id <;> rfl

/-- Shifting bytes out changes no port's state. -/
theorem shiftOut_portState (port : PortId) (mosi due : List Byte) (d : Dev) (q : PortId) :
    ((shiftOut port mosi due d).ports.get q).state = (d.ports.get q).state := by
  cases port <;> cases q <;> rfl

/-- The owning block finds its own port BUSY and the others as they were. -/
theorem heard_portState (port : PortId) (mosi : List Byte) (s : State) (q : PortId) :
    ((heard port mosi s).ports.get q).state = if q = port then .busy else (s.dev.ports.get q).state := by
  cases port <;> cases q <;> rfl

/-- An answer is the same whether or not the port was BUSY before it. -/
@[simp] theorem respond_becomeBusy (port : PortId) (tag : Byte) (r : Result) (payload : List Byte) (d : Dev) :
    respond port tag r payload (becomeBusy port d) = respond port tag r payload d := by
  cases port <;> rfl

/-- Hearing a transaction changes nothing but the ports. -/
theorem heard_eq_setPorts (port : PortId) (mosi : List Byte) (s : State) : ∃ ps, heard port mosi s = s.dev.setPorts ps := ⟨_, rfl⟩

/-- An answer changes nothing but the ports. -/
theorem respond_eq_setPorts (port : PortId) (tag : Byte) (r : Result) (payload : List Byte) (d : Dev) :
    ∃ ps, respond port tag r payload d = d.setPorts ps := ⟨_, rfl⟩

/-- What a port holds after an answer. -/
theorem respond_get (port : PortId) (tag : Byte) (r : Result) (payload : List Byte) (d : Dev) :
    (respond port tag r payload d).ports.get port
      = { d.ports.get port with state := .ready, response := some { tag := tag, result := r, payload := payload } } := by
  simp [respond, setPort]

/-! ### Frames -/

/-- A request frame passes the length check. -/
theorem frameLengthOk_requestFrame (tag : Byte) (p x : List Byte) (h : p.length ≤ 60) :
    frameLengthOk (requestFrame tag p x) (BitVec.ofNat 8 p.length) = true ∧
      framePayload (requestFrame tag p x) (BitVec.ofNat 8 p.length) = p := by
  have h1 : p.length % 256 = p.length := by omega
  have h2 : framePayload (requestFrame tag p x) (BitVec.ofNat 8 p.length) = p := by
    simp [framePayload, requestFrame, Config.storedBytes, h1, List.take_take]
    rw [show min p.length 61 = p.length by omega]
    simp
  exact ⟨by simp [frameLengthOk, h2, h, h1, Config.maxPayload], h2⟩

/-- A frame with a length byte above 60, or with too few bytes, fails the length check. -/
theorem frameLengthOk_of_short (tag len : Byte) (rest : List Byte) (h : 60 < len.toNat ∨ rest.length < len.toNat) :
    frameLengthOk (tag :: len :: rest) len = false := by
  by_cases h60 : len.toNat ≤ 60
  · simp [frameLengthOk, framePayload, Config.storedBytes, Config.maxPayload, h60]
    omega
  · simp [frameLengthOk, Config.maxPayload, h60]

/-- Any other frame passes the length check. -/
theorem frameLengthOk_of_long (tag len : Byte) (rest : List Byte) (h : len.toNat ≤ 60) (h' : len.toNat ≤ rest.length) :
    frameLengthOk (tag :: len :: rest) len = true := by
  simp [frameLengthOk, framePayload, Config.storedBytes, Config.maxPayload, h]
  omega

/-- A request that its port takes and carries is answered as its block answers it. -/
theorem takeFrame_takes (r : Request) (port : PortId) (tag : Byte) (p x : List Byte) (h : Handler) (s : State) (ht : takes s port p)
    (hp : permitted r port = true) :
    onDev (takeFrame (some r) port (requestFrame tag p x) h) s
      = .next (answers s port tag (h p (heard port (requestFrame tag p x) s)).result
          (h p (heard port (requestFrame tag p x) s)).payload (h p (heard port (requestFrame tag p x) s)).dev) := by
  obtain ⟨hi, hl⟩ := ht
  obtain ⟨h1, h2⟩ := frameLengthOk_requestFrame tag p x hl
  unfold requestFrame at h1 h2 ⊢
  simp [onDev, takeFrame, hi, h1, h2, hp, answers, heard]

/-- A port that is not IDLE, and a transaction of fewer than three bytes, take no request. -/
theorem takeFrame_ignores (r : Option Request) (port : PortId) (mosi : List Byte) (h : Handler) (s : State)
    (hi : (s.dev.ports.get port).state ≠ .idle ∨ mosi.length < 2) :
    onDev (takeFrame r port mosi h) s = .next (s.setDev (shiftOut port mosi [] s.dev)) := by
  simp only [onDev, takeFrame]
  split
  · rename_i h1
    rcases hi with hi | hi
    · exact absurd h1 hi
    · simp only [List.length_cons] at hi
      omega
  · rfl

/-! ### Events -/

/-- Raising an event sets its flag at a port whose list has it. -/
theorem raise_sets (id : PortId) (k : EventKind) (d : Dev) (h : (portKinds id).getLsbD (eventIndex k) = true) :
    eventSet (raise id k d) id k := by
  cases id <;> cases k <;> first | (exact absurd h (by decide)) | simp [eventSet, raise, hasEvent, eventBit, portKinds, captureKinds,
    requestKinds, serviceKinds, eventIndex]

/-! ### Halts -/

/-- A halt taken in HALTED changes nothing. -/
theorem halt_of_halted (cause : HaltCause) (d : Dev) (h : d.transport.motion = .halted) : halt cause d = d := by simp [halt, h]

end Sys2Proof.Machine
end

