-- ==== Sys2Proof/Laws/Trigger.lean ====
section
/-! SUPPORT. What a disarm, an arm request and a change of the run record can do (R69, R72). -/

namespace Sys2Proof.Machine

/-- A disarm of a generator that is not armed does nothing. -/
theorem disarm_of_unarmed (why : DisarmCause) (atClose : Bool) (d : Dev) (h : d.trigger.arm = none) : disarm why atClose d = d := by
  simp [disarm, h]

@[simp] theorem modifyRun_trigger (f : RunRecord → RunRecord) (d : Dev) : (modifyRun f d).trigger = d.trigger := rfl
@[simp] theorem modifyRun_lines (f : RunRecord → RunRecord) (d : Dev) : (modifyRun f d).lines = d.lines := rfl
@[simp] theorem modifyRun_run (f : RunRecord → RunRecord) (d : Dev) : (modifyRun f d).scan.run = d.scan.run.map f := rfl
@[simp] theorem report_trigger (r : Report) (d : Dev) : (report r d).trigger = d.trigger := rfl
@[simp] theorem report_lines (r : Report) (d : Dev) : (report r d).lines = d.lines := rfl
@[simp] theorem report_inbox (r : Report) (d : Dev) : (report r d).inbox = d.inbox ++ [r] := rfl

/-- Applying a pending correction leaves the generator and the capture as they are, and none is pending after it. -/
theorem applyPending_leaves (d : Dev) :
    (applyPending d).trigger = d.trigger ∧ (applyPending d).lines = d.lines ∧ (applyPending d).roll.pendingCorrection = none := by
  unfold applyPending
  split
  · simp_all
  · simp [applyCorrection, modifyRun]

/-- A disarm of an armed generator leaves no arm, no expected segment, no line result and no pending correction (R72, R17). -/
theorem disarm_leaves (why : DisarmCause) (atClose : Bool) (d : Dev) (a : Arm) (h : d.trigger.arm = some a) :
    (disarm why atClose d).trigger.arm = none ∧ (disarm why atClose d).lines.expected = none
      ∧ (disarm why atClose d).lines.last = none ∧ (disarm why atClose d).roll.pendingCorrection = none := by
  simp only [disarm, h, report, Dev.setInbox_trigger, Dev.setInbox_lines, Dev.setInbox_roll]
  refine ⟨?_, ?_, ?_, (applyPending_leaves _).2.2⟩ <;>
    simp only [(applyPending_leaves _).1, (applyPending_leaves _).2.1, modifyRun_trigger, modifyRun_lines] <;> split <;> rfl

/-- After any disarm the generator is not armed. -/
theorem disarm_unarms (why : DisarmCause) (atClose : Bool) (d : Dev) : (disarm why atClose d).trigger.arm = none := by
  rcases h : d.trigger.arm with _ | a
  · rw [disarm_of_unarmed why atClose d h, h]
  · exact (disarm_leaves why atClose d a h).1

/-- An arm request from a block that is not the grant owner tells it NOT_OWNER and does nothing else (R69). -/
theorem armTrigger_notOwner (owner : Owner) (mode : ArmMode) (base : Int) (pitch : Nat) (stopAt : Option Int) (line : Nat) (d : Dev)
    (h : d.transport.grant ≠ owner) : armTrigger owner mode base pitch stopAt line d = report (.armNotOwner owner) d := by
  simp [armTrigger, h]

end Sys2Proof.Machine
end

