-- ==== Sys2Proof/WellFormed.lean ====
section
/-! DEFINITION. When a command's operands are those of its row: the code of an UNKNOWN_CODE_FRAME names no request, the item of a
CONFIG_WRITE_UNKNOWN_ITEM is absent or names no item, the enabled byte of a SLOT_CONFIG row selects that row, and an expiring ticket is a
ticket number. Every other operand value is one the row admits. Other operands still have a meaning (DESIGN CHOICE, log
entry 27). -/

namespace Sys2Proof

/-- The enabled byte of a SLOT_CONFIG frame: tag, length and slot number stand before it (Table 11-2, section 11.4). -/
def slotConfigEnabledByte (mosi : List Byte) : Option Byte := mosi[3]?

/-- Well-formed commands. -/
def Instr.wellFormed : Instr → Bool
  | .unknownCodeFrame _ code _ => !Machine.codeNamesRequest code
  | .slotConfigEnable _ mosi => slotConfigEnabledByte mosi != some 0
  | .slotConfigDisable _ mosi => slotConfigEnabledByte mosi == some 0
  | .configWriteUnknownItem _ _ _ (some item) _ => (Machine.configItemOf item).isNone
  | .configWriteUnknownItem _ _ len none value => value.isEmpty || len == 0
  | .deferralExpiry ticket => decide (1 ≤ ticket ∧ ticket ≤ 255)
  | .pinReset _ => true
  | .softReset _ _ => true
  | .statusRequest _ _ => true
  | .identify _ _ => true
  | .fetch _ _ => true
  | .ackEvents _ _ => true
  | .eventMask _ _ => true
  | .indexRead _ _ => true
  | .scanStart _ _ => true
  | .scanPause _ _ => true
  | .scanResume _ _ => true
  | .scanAbort _ _ => true
  | .noticesRead _ _ => true
  | .retrieve _ _ => true
  | .cancel _ _ => true
  | .hint _ _ => true
  | .releaseHold _ _ => true
  | .completionsRead _ _ => true
  | .indexFind _ _ => true
  | .declareRoll _ _ => true
  | .releaseRoll _ _ => true
  | .setDatum _ _ => true
  | .jog _ _ => true
  | .serviceSeek _ _ => true
  | .stop _ _ => true
  | .halt _ _ => true
  | .clearFault _ _ => true
  | .lensHome _ _ => true
  | .lensMove _ _ => true
  | .focusSearch _ _ => true
  | .slotRestart _ _ => true
  | .slotRead _ _ => true
  | .scriptWrite _ _ => true
  | .scriptRead _ _ => true
  | .configWriteRollItem _ _ _ _ _ => true
  | .configWriteTransportItem _ _ _ _ _ => true
  | .configWriteBusSpeed _ _ _ _ => true
  | .configWriteCombineMode _ _ _ _ => true
  | .configWriteLineRate _ _ _ _ => true
  | .configWriteTapMap _ _ _ _ => true
  | .configWriteStride _ _ _ _ => true
  | .configWriteFocusItem _ _ _ _ _ => true
  | .configWriteDetectorItem _ _ _ _ _ => true
  | .configWriteRetrievalItem _ _ _ _ _ => true
  | .configRead _ _ => true
  | .indexImportBegin _ _ => true
  | .indexImportEntry _ _ => true
  | .indexImportEnd _ _ => true
  | .indexClose _ _ => true
  | .indexReopen _ _ => true
  | .filmPresentChange _ _ => true
  | .encoderPhaseChange _ _ => true
  | .encoderUnsettledExpiry => true
  | .splicePulse => true
  | .profileStep _ => true
  | .seekTimeout => true
  | .hunting => true
  | .driveFault => true
  | .retensioningEnd => true
  | .parkTimeout => true
  | .slotDueTime _ => true
  | .preInitWaitEnd _ => true
  | .postInitWaitEnd _ => true
  | .busAttemptEnd _ => true
  | .sclHoldTimeout => true
  | .segmentComplete _ => true
  | .blipStartEdge => true
  | .blipEndEdge => true
  | .lensStepDue => true
  | .lensSettleEnd => true
  | .homingStep _ => true
  | .homingStepLimit => true
  | .holdTimeout => true
  | .monitorByteReceived _ => true

end Sys2Proof
end

