-- ==== Sys2Proof/Tests/Slice0.lean ====
section
/-! SUPPORT. Tests: ill-formed commands refused, the spec's worked figures, and for each statement with hypotheses concrete states that
meet them. Expected values come from the spec's tables and worked cases, named in each docstring. -/

namespace Sys2Proof.Tests

open Sys2Proof.Machine

/-! ### States -/

/-- The state right after reset. -/
def reset : State := State.reset

/-- A state with its device rewritten. -/
def having (f : Dev → Dev) (s : State) : State := { s with dev := f s.dev }

/-- A roll record. -/
def roll7 : RollRecord := { ident := 7, polarity := .negative, pitch := 10000, tolerance := 10, base := { batch := 0, doc := 0, page := 0 } }

/-- Film is present. -/
def filmIn : State := having (fun d => { d with roll := { d.roll with filmPresent := true } }) reset

/-- A roll is threaded. -/
def threaded : State := having (fun d => { d with roll := { d.roll with record := some roll7, state := .threaded } }) filmIn

/-- A roll is READY, at rest under tension, with the drive ready. -/
def ready : State :=
  having (fun d =>
    { d with
      roll := { d.roll with state := .ready, datum := true }
      transport := { d.transport with tension := .hold, driveEnable := true }
      inputs := { d.inputs with driveReady := true } }) threaded

/-- The state after a step that answers next. -/
def after : Host.Outcome State Fault Refusal → Option State
  | .next t => some t
  | _ => none

/-- The counter at a position. -/
def at_ (x : Int) : State → State := having fun d => { d with metering := { d.metering with counter := x } }

/-- The demand at a value. -/
def demand (v : Int) : State → State := having fun d => { d with transport := { d.transport with demand := v } }

/-- The motion state and the grant owner. -/
def moving (m : MotionState) (o : Owner) : State → State :=
  having fun d => { d with transport := { d.transport with motion := m, grant := o } }

/-- The lens state and step. -/
def lens (l : LensState) (n : Nat) : State → State :=
  having fun d => { d with focus := { d.focus with lens := { d.focus.lens with state := l, step := n } } }

/-- A splice list. -/
def splices (xs : List Int) : State → State := having fun d => { d with roll := { d.roll with splices := xs } }

/-! ### Ill-formed commands -/

theorem test_unknown_code_of_a_request_ill_formed : (Instr.unknownCodeFrame .service 0x30 [0, 0]).wellFormed = false := by decide
theorem test_unknown_code_well_formed : (Instr.unknownCodeFrame .service 0x7F [0, 0]).wellFormed = true := by decide
theorem test_enable_with_no_ill_formed : (Instr.slotConfigEnable .service [0, 24, 0, 0]).wellFormed = false := by decide
theorem test_disable_with_yes_ill_formed : (Instr.slotConfigDisable .service [0, 24, 0, 1]).wellFormed = false := by decide
theorem test_unknown_item_of_an_item_ill_formed : (Instr.configWriteUnknownItem .service 0 1 (some 0x20) []).wellFormed = false := by decide
theorem test_ticket_zero_ill_formed : (Instr.deferralExpiry 0).wellFormed = false := by decide
theorem test_ticket_255_well_formed : (Instr.deferralExpiry 255).wellFormed = true := by decide

/-- No row of the table gives bits. -/
theorem test_no_word_spells_a_command : decodeTableWord 8 0x01 = none := rfl

/-! ### Worked figures of the spec -/

/-- 1.6, three splice pulses: 3,049,400 lies 600 µm from 3,050,000 and is merged. -/
theorem test_splice_merged :
    after (exec .splicePulse (splices [1412000, 3050000] (demand 50 (at_ 2929400 ready))))
      = some (splices [1412000, 3050000] (demand 50 (at_ 2929400 ready))) := by decide

/-- 1.6, three splice pulses: 5,920,000 is inserted. -/
theorem test_splice_inserted :
    after (exec .splicePulse (splices [1412000, 3050000] (demand 50 (at_ 5800000 ready))))
      = some (splices [1412000, 3050000, 5920000] (demand 50 (at_ 5800000 ready))) := by decide

/-- Table 1-4, event 4: Δ = −35 at 1,498,950. -/
theorem test_correction_applied :
    let d := applyCorrection (-35) (splices [1411840, 9030340] (at_ 1498950 ready)).dev
    d.metering.counter = 1498985 ∧ d.roll.splices = [1411875, 9030375] ∧ d.roll.lastCorrection = -35 := by decide

/-- A seek to 200 under way at a position, with a demand. -/
def seeking (x v : Int) : State :=
  having (fun d =>
    { d with transport :=
      { d.transport with
        current := some
          { order := { owner := .service, kind := .seek 200 none }
            seek := some { target := 200, distance := 200, cap := 2500, limit := 3251, elapsed := 7, reversals := 0 }
            speed := 0, runPhase := false, baseReported := false } } }) (moving .seek .service (demand v (at_ x ready)))

/-- Table 2-3, millisecond 7: case 4. -/
theorem test_seek_accelerates : (profile (seeking 84 24).dev).transport.demand = 28 := by decide
/-- Table 2-3, millisecond 8: case 3. -/
theorem test_seek_brakes : (profile (seeking 112 28).dev).transport.demand = 24 := by decide
/-- Table 2-3, millisecond 14: case 2, 4 µm short of the target. -/
theorem test_seek_arrives :
    (profile (seeking 196 4).dev).transport.demand = 0 ∧ (profile (seeking 196 4).dev).transport.motion = .idle := by decide

/-- The time limit of a taken SERVICE_SEEK. -/
def limitOf (o : Host.Outcome State Fault Refusal) : Option Nat :=
  ((after o).bind (·.dev.transport.current)).bind fun c => c.seek.map (·.limit)

/-- Worked figures, a short seek: 3,251 ms for 200 µm. -/
theorem test_seek_limit_short : limitOf (exec (.serviceSeek .service (requestFrame 1 [200, 0, 0, 0] [])) ready) = some 3251 := by decide
/-- Worked figures, a long seek's time limit: 3,650 ms for 1,000,000 µm. -/
theorem test_seek_limit_long :
    limitOf (exec (.serviceSeek .service (requestFrame 1 [0x40, 0x42, 0x0F, 0x00] [])) ready) = some 3650 := by decide

/-- Worked figures, run-up: 4,486 µm for 141 µm/ms. -/
theorem test_run_up : runUp ready.dev 141 = 4486 := by decide

/-- Worked case, a request above the camera's rate: 141 µm/ms. -/
theorem test_line_rate_clamp : clampSpeed 40000 200 903 = 141 := by decide

/-- Table 4-1: the positions of triggers 0 to 3 and 100. -/
theorem test_trigger_positions :
    [0, 1, 2, 3, 100].map (armPosition { owner := .scan, mode := .scan, base := 1250000, pitch := 903, stopAt := none, index := 0 })
      = [1250000, 1250003, 1250007, 1250010, 1250352] := by decide
/-- Worked placement: with the counter at 1,250,005 the arm begins at index 2. -/
theorem test_first_index : firstIndex 1250000 903 1250005 = 2 := by decide

/-- R156: an arm whose base is at its stop position is disarmed as it is made, with STOP_POSITION told. -/
theorem test_arm_at_its_stop_position :
    let d := armTrigger .scan .scan 6000 1024 (some 6000) 0 (moving .scan .scan ready).dev
    d.trigger.arm = none ∧ d.inbox = [.armBegan .scan 0, .disarmed .scan .stopPosition] := by decide +kernel

/-- The segment of the worked case of section 4.5. -/
def segment : List Byte :=
  List.replicate 16 100 ++ [40, 42, 120, 180, 175, 60, 58, 57] ++ List.replicate 16 100 ++ List.replicate 8 255
    ++ List.replicate 16 100

/-- The identity map with another entry 5. -/
def mapWith (e5 : TapEntry) : TapMap := { reset.dev.lines.tapMap with e5 := e5 }

/-- Worked case, entry 5 DEAD: L = 98, F = 366, counted. -/
theorem test_line_dead_tap :
    lineStats segment (mapWith none) 1
      = { level := 98, focusLow := 366, focusHigh := 0, saturatedLow := false, saturatedHigh := false, focusSum := 366
          counted := true } := by decide
/-- Worked case, identity map: L = 118, the high half saturated, F = 366, counted. -/
theorem test_line_identity :
    lineStats segment (mapWith (some 5)) 1
      = { level := 118, focusLow := 366, focusHigh := 0, saturatedLow := false, saturatedHigh := true, focusSum := 366
          counted := true } := by decide
/-- Worked case, stride 2: F_lo = 716. -/
theorem test_line_stride_two : (lineStats segment (mapWith none) 2).focusLow = 716 := by decide

/-- Worked case, two window scores: 6,115. -/
theorem test_window_score : Window.score { length := 64, count := 64, sumF := 183500, sumL := 7680 } = 6115 := by decide
/-- Worked case, two window scores: 65,535. -/
theorem test_window_score_limit : Window.score { length := 64, count := 64, sumF := 512000, sumL := 640 } = 65535 := by decide

/-- Section 3.5, the example: 5Ah, 0Dh read as U16 with and without byte swap, and 9Ch, FFh as S16. -/
theorem test_sample_values :
    sampleValue .u16 false 0x5A 0x0D = 3418 ∧ sampleValue .u16 true 0x5A 0x0D = 23053 ∧ sampleValue .s16 false 0x9C 0xFF = -100 := by
  decide

/-- A search record before a probe of Table 5-1. -/
def searching (phase : SearchPhase) (best : Option (Nat × Nat)) (fine probes : Nat) (last : Option Nat) (candidate : Nat) :
    SearchRecord :=
  { requester := .service, start := 0, startStep := 2000, coarse := 64, phase := phase, best := best, fine := fine, probes := probes
    lastScore := none, lastProbed := last, candidate := candidate, rose := false
    roundBest := (best.getD (0, 0)).1, roundScore := (best.getD (0, 0)).2, window := none }

/-- Table 5-1, probe 2: no rise upward, so the downward walk begins at 1,936. -/
theorem test_search_turns_down : (takeProbe (searching .coarseUp (some (2000, 5100)) 0 1 (some 2000) 2064) 4870).2 = some 1936 := by decide
/-- Table 5-1, probe 5: the fine phase begins about 1,872 with offset 16, at 1,856. -/
theorem test_search_goes_fine :
    let r := takeProbe (searching .coarseDown (some (1872, 5950)) 0 4 (some 1872) 1808) 5700
    r.2 = some 1856 ∧ r.1.phase = .fine ∧ r.1.fine = 16 := by decide
/-- Table 5-1, probe 23: the offset is used up and the search ends. -/
theorem test_search_ends :
    let r := takeProbe (searching .fine (some (1851, 6061)) 1 22 (some 1850) 1852) 6058
    r.2 = none ∧ r.1.best = some (1851, 6061) ∧ r.1.probes = 23 := by decide

/-- The Capture port after a command. -/
def captureAfter (o : Host.Outcome State Fault Refusal) : Option Port := (after o).map (·.dev.ports.capture)

/-- A SCAN_START from 1,250,000 at 200 µm/ms and P = 903, tag 21. -/
def scanStart21 : Instr :=
  .scanStart .capture (requestFrame 21 [0, 0xD0, 0x12, 0x13, 0x00, 0, 0, 0, 0, 0, 200, 0, 0x87, 0x03, 0, 0] [])

/-- Table 10-4, event 3, and section 4.2: ACCEPTED with run number 1, speed 141 and S; RUN is set and ATTN asserted. -/
theorem test_scan_start_answer :
    (captureAfter (exec scanStart21 ready)).bind (·.response)
        = some { tag := 21, result := .accepted, payload := [1, 141, 0, 0xD0, 0x12, 0x13, 0x00] }
      ∧ ((captureAfter (exec scanStart21 ready)).map fun p => (p.state, hasEvent p.flags .run, attention p)) = some (.ready, true, true) := by
  decide +kernel

/-- The MISO bytes of a port after a command. -/
def misoAfter (port : PortId) (o : Host.Outcome State Fault Refusal) : Option (List Byte) :=
  (after o).map fun t => (t.dev.ports.get port).miso

/-- IDENTIFY at the Request port with tag 9, then FETCH of 9 MOSI bytes. -/
def identified : State := (after (exec (.identify .request (requestFrame 9 [] [])) reset)).getD reset

/-- R185, R192: status byte (READY, attention, reset indication, port 2), tag, OK, length 5, 3A17h, 4120, letter A, then FFh. -/
theorem test_identify_fetched :
    misoAfter .request (exec (.fetch .request [0, 0, 0, 0, 0, 0, 0, 0, 0]) identified)
      = some [0x56, 9, 0, 5, 0x17, 0x3A, 0x18, 0x10, 0x41, 0xFF] := by decide

/-! ### States that meet the statements' hypotheses -/

/-- Sixty payload bytes. -/
def sixty : List Byte := List.replicate 60 0

theorem witness_StepRunsFrontCommand : ({ reset with pending := [.splicePulse, .seekTimeout] } : State).pending = .splicePulse :: [.seekTimeout] :=
  rfl

theorem witness_QueueDiscipline : reset.pending = [] := rfl

theorem witness_SoftResetWaitsForItsFetch : takes reset .service [] ∧ takes reset .service sixty := ⟨⟨rfl, by decide⟩, ⟨rfl, by decide⟩⟩

/-- The response of a SOFT_RESET waits at the Service port. -/
def softResetWaits : State := (after (exec (.softReset .service (requestFrame 5 [] [])) (lens .moving 100 ready))).getD reset

theorem witness_SoftResetTakesEffectAtFetch :
    (softResetWaits.dev.ports.get .service).state = .ready
      ∧ (softResetWaits.dev.ports.get .service).response = some { tag := 5, result := .ok, payload := [] }
      ∧ softResetWaits.dev.ports.softResetPending = true ∧ 2 ≤ [(0 : Byte), 0].length := ⟨rfl, rfl, rfl, by decide⟩

/-- An answer waits at the Request port. -/
def answerWaits : State := identified

theorem witness_IgnoredTransactions :
    (requestOfCommand (.identify .request [0, 0]) = some (some .identify, .request, [0, 0])
      ∧ (answerWaits.dev.ports.get .request).state ≠ .idle)
    ∧ (requestOfCommand (.scanAbort .capture [0]) = some (some .scanAbort, .capture, [0]) ∧ [(0 : Byte)].length < 2) :=
  ⟨⟨rfl, by decide⟩, rfl, by decide⟩

theorem witness_FramesAreCheckedFirst :
    (requestOfCommand (.statusRequest .capture [3, 61]) = some (some .status, .capture, 3 :: 61 :: [])
      ∧ (reset.dev.ports.get .capture).state = .idle ∧ 60 < (61 : Byte).toNat)
    ∧ (requestOfCommand (.hint .request [3, 2, 0]) = some (some .hint, .request, 3 :: 2 :: [0])
      ∧ (reset.dev.ports.get .request).state = .idle ∧ [(0 : Byte)].length < (2 : Byte).toNat)
    ∧ (takes reset .service sixty ∧ codeNamesRequest 0x7F = false)
    ∧ (requestOfCommand (.jog .capture [3, 1, 0]) = some (some .jog, .capture, 3 :: 1 :: [0])
      ∧ (reset.dev.ports.get .capture).state = .idle ∧ (1 : Byte).toNat ≤ 60 ∧ (1 : Byte).toNat ≤ [(0 : Byte)].length
      ∧ permitted .jog .capture = false) :=
  ⟨⟨rfl, rfl, by decide⟩, ⟨rfl, rfl, by decide⟩, ⟨⟨rfl, by decide⟩, rfl⟩, rfl, rfl, by decide, by decide, rfl⟩

theorem witness_FetchHandsOutTheResponse :
    ((answerWaits.dev.ports.get .request).state = .ready
      ∧ (answerWaits.dev.ports.get .request).response = some { tag := 9, result := .ok, payload := [0x17, 0x3A, 0x18, 0x10, 0x41] }
      ∧ 2 ≤ [(0 : Byte), 0].length ∧ ¬ (PortId.request = .service ∧ answerWaits.dev.ports.softResetPending = true)
      ∧ [(0 : Byte)].length < 2)
    ∧ (reset.dev.ports.get .capture).state ≠ .ready :=
  ⟨⟨rfl, rfl, by decide, by decide, by decide⟩, by decide⟩

theorem witness_EventsAreAcknowledgedAndMasked : takes reset .capture [1, 0] ∧ 2 ≤ [(1 : Byte), 0].length :=
  ⟨⟨rfl, by decide⟩, by decide⟩

/-- An index entry with a mark. -/
def entryA : IndexEntry :=
  { start := 100000, length := 9000, address := { batch := 1, doc := 2, page := 3 }, markLevel := 1, focusStep := none
    flags := { imported := true }, run := none, firstLine := none, lastLine := none }

/-- An imported index of one entry. -/
def indexed : State := having (fun d => { d with index := { d.index with entries := [entryA], state := .imported } }) ready

theorem witness_ReadsAnswerFromState :
    takes indexed .service [] ∧ takes indexed .request [1, 0, 2, 0, 3, 0] ∧ takes indexed .capture [0, 0, 2]
    ∧ (3 ≤ [(0 : Byte), 0, 2].length ∧ natAt [0, 0, 2] 0 2 = 0 ∧ natAt [0, 0, 2] 2 1 = 2 ∧ 0 < indexed.dev.index.entries.length)
    ∧ (6 ≤ [(1 : Byte), 0, 2, 0, 3, 0].length ∧ indexed.dev.index.entries[0]? = some entryA ∧ 0 < entryA.markLevel
      ∧ entryA.address = { batch := natAt [1, 0, 2, 0, 3, 0] 0 2, doc := natAt [1, 0, 2, 0, 3, 0] 2 2
                           page := natAt [1, 0, 2, 0, 3, 0] 4 2 }
      ∧ ∀ k f, k < 0 → indexed.dev.index.entries[k]? = some f → 0 < f.markLevel → f.address ≠ entryA.address)
    ∧ (natAt [0, 0, 0] 2 1 < 1 ∧ 2 < natAt [0, 0, 3] 2 1 ∧ indexed.dev.index.entries.length ≤ natAt [255, 255, 1] 0 2)
    ∧ (∀ e ∈ reset.dev.index.entries, 0 < e.markLevel → e.address ≠ { batch := 1, doc := 2, page := 3 })
    ∧ natAt [3] 0 1 = (3 : Fin 4).val
    ∧ (natAt [255, 56] 0 1 = 255 ∧ natAt [255, 56] 1 1 = 56)
    ∧ ([(0x20 : Byte)].head? = some 0x20 ∧ configItemOf 0x20 = some .busSpeed) :=
  ⟨⟨rfl, by decide⟩, ⟨rfl, by decide⟩, ⟨rfl, by decide⟩, ⟨by decide, rfl, rfl, by decide⟩,
    ⟨by decide, rfl, by decide, rfl, fun k _ hk => absurd hk (Nat.not_lt_zero k)⟩,
    ⟨by decide, by decide, by decide⟩, fun _ h => absurd h List.not_mem_nil, rfl, ⟨rfl, rfl⟩, rfl, rfl⟩

/-- DECLARE_ROLL payloads: 8 bytes at the lower ends of pitch and tolerance, 14 at the upper ends. -/
def declare8 : List Byte := [7, 0, 0, 0, 0, 0xE8, 3, 1]
def declare14 : List Byte := [7, 0, 0, 0, 1, 0x60, 0xEA, 50, 1, 0, 2, 0, 3, 0]

theorem witness_DeclareRollMakesTheRoll :
    (takes filmIn .service declare8 ∧ declare8.length = 8 ∧ filmIn.dev.roll.state = .noRoll ∧ filmIn.dev.roll.filmPresent = true
      ∧ Settled filmIn.dev ∧ polarityOf (natAt declare8 4 1) = some .negative ∧ natAt declare8 0 4 ≠ 0
      ∧ 1000 ≤ natAt declare8 5 2 ∧ natAt declare8 5 2 ≤ 60000 ∧ 1 ≤ natAt declare8 7 1 ∧ natAt declare8 7 1 ≤ 50)
    ∧ (takes filmIn .service declare14 ∧ 14 ≤ declare14.length ∧ polarityOf (natAt declare14 4 1) = some .positive
      ∧ natAt declare14 5 2 = 60000 ∧ natAt declare14 7 1 = 50)
    ∧ (natAt [7, 0, 0, 0, 0, 0xE7, 3, 1] 5 2 < 1000 ∧ 50 < natAt [7, 0, 0, 0, 0, 0xE8, 3, 51] 7 1)
    ∧ (takes reset .service declare8 ∧ reset.dev.roll.filmPresent = false)
    ∧ ready.dev.roll.state ≠ .noRoll :=
  ⟨⟨⟨rfl, by decide⟩, rfl, rfl, rfl, ⟨rfl, rfl⟩, rfl, by decide, by decide, by decide, by decide, by decide⟩,
    ⟨⟨rfl, by decide⟩, by decide, rfl, by decide, by decide⟩, by decide, ⟨⟨rfl, by decide⟩, rfl⟩, by decide⟩

/-- A request that waits in the queue. -/
def request3 : RetrievalRequest :=
  { ticket := 3, target := .frame 0, class_ := .normal, confirmEdge := false, recallFocus := false, state := .waiting
    position := some 104500, frame := some 0, bypass := 0, retried := false, age := 0, holdsLens := false }

/-- A run record in a state. -/
def runAs (st : RunState) (cause : Option RunCause) : RunRecord :=
  { number := 1, startMode := .atPosition, base := 1000, initialGap := .unknown, endCondition := .untilRollEnd, speed := 100
    pitch := 1024, focus := .none, policy := .yieldUrgent, state := st, savedLine := 0, framesClosed := 0, started := false
    boundary := none, resume := none, resumePermitted := false, cause := cause, prep := .none
    trackLost := false }

/-- A state with a run. -/
def withRun (st : RunState) (cause : Option RunCause) : State → State :=
  having fun d => { d with scan := { d.scan with run := some (runAs st cause) } }

theorem witness_ReleaseRollClearsTheRoll :
    (takes (moving .stopping .service ready) .service [] ∧ (moving .stopping .service ready).dev.transport.motion = .stopping)
    ∧ (takes (withRun .ending none ready) .service []
      ∧ runIn (withRun .ending none ready).dev [.queued, .preparing, .running, .suspending, .ending] = true)
    ∧ (takes reset .service [] ∧ reset.dev.transport.motion = .idle ∧ reset.dev.scan.run = none ∧ reset.dev.roll.state = .noRoll)
    ∧ (takes indexed .service [] ∧ indexed.dev.transport.motion = .idle
      ∧ runIn indexed.dev [.queued, .preparing, .running, .suspending, .ending] = false ∧ indexed.dev.roll.state ≠ .noRoll
      ∧ Settled indexed.dev) :=
  ⟨⟨⟨rfl, by decide⟩, rfl⟩, ⟨⟨rfl, by decide⟩, rfl⟩, ⟨⟨rfl, by decide⟩, rfl, rfl, rfl⟩,
    ⟨rfl, by decide⟩, rfl, rfl, by decide, ⟨rfl, rfl⟩⟩

/-- SET_DATUM payloads at the soft limits. -/
def datumLow : List Byte := [0x80, 0x7B, 0xE1, 0xFF]
def datumHigh : List Byte := [0x00, 0xB4, 0xC4, 0x04]

theorem witness_SetDatumSetsTheCounter :
    (takes threaded .service [] ∧ threaded.dev.roll.state = .threaded ∧ threaded.dev.roll.datum = false
      ∧ threaded.dev.transport.motion = .idle ∧ threaded.dev.transport.grant = .nobody)
    ∧ (takes ready .service datumLow ∧ 4 ≤ datumLow.length ∧ intAt datumLow 0 4 = -2000000 ∧ ready.dev.roll.state ≠ .noRoll
      ∧ ready.dev.roll.state ≠ .threaded ∧ ready.dev.roll.datum = true ∧ ready.dev.scan.run = none ∧ Settled ready.dev
      ∧ ready.dev.transport.motion = .idle ∧ ready.dev.transport.grant = .nobody)
    ∧ intAt datumHigh 0 4 = 80000000 :=
  ⟨⟨⟨rfl, by decide⟩, rfl, rfl, rfl, rfl⟩,
    ⟨⟨rfl, by decide⟩, by decide, by decide, by decide, by decide, rfl, rfl, ⟨rfl, rfl⟩, rfl, rfl⟩, by decide⟩

/-- A run suspended at a resume point, the transport at rest. -/
def resumable (q : ResumePoint) : State :=
  having (fun d => { d with scan := { d.scan with run := some { runAs .suspended (some .pause) with resume := some q } } }) ready

theorem witness_SetDatumSetsTheCounter_resume :
    (let s := resumable { position := 2147483647, state := .inGap }
     takes s .service datumHigh ∧ s.dev.roll.state ≠ .threaded ∧ s.dev.roll.datum = true
       ∧ (s.dev.scan.run.bind (·.resume)) = some { position := 2147483647, state := .inGap } ∧ Settled s.dev)
    ∧ (takes reset .service [] ∧ reset.dev.roll.state = .noRoll)
    ∧ (takes (moving .idle .scan ready) .service [] ∧ (moving .idle .scan ready).dev.transport.grant ≠ .nobody)
    ∧ intAt [0x7F, 0x7B, 0xE1, 0xFF] 0 4 < -2000000 ∧ 80000000 < intAt [0x01, 0xB4, 0xC4, 0x04] 0 4 :=
  ⟨⟨⟨rfl, by decide⟩, by decide, rfl, rfl, ⟨rfl, rfl⟩⟩, ⟨⟨rfl, by decide⟩, rfl⟩, ⟨⟨rfl, by decide⟩, by decide⟩, by decide, by decide⟩

/-- HALTED by a HALT with a roll READY. -/
def halted : State := having (fun d => { d with transport := { d.transport with haltCause := some .halt } }) (moving .halted .nobody ready)

theorem witness_ReadsAnswerFromState_status :
    (halted.dev.transport.motion = .halted ∧ halted.dev.transport.haltCause = some .halt ∧ halted.dev.scan.run = none
      ∧ halted.dev.index.closeCause = none ∧ halted.dev.focus.bestScore = none)
    ∧ (let s := having (fun d =>
         { d with
           transport := { d.transport with serviceOutcome := some (.failed .hunting) }
           index := { d.index with closeCause := some .full }
           focus := { d.focus with bestScore := some 65535 } }) ready
       s.dev.transport.motion ≠ .halted ∧ s.dev.transport.serviceOutcome = some (.failed .hunting)
         ∧ s.dev.index.closeCause = some .full ∧ s.dev.focus.bestScore = some 65535)
    ∧ reset.dev.transport.serviceOutcome = none :=
  ⟨⟨rfl, rfl, rfl, rfl, rfl⟩, ⟨by decide, rfl, rfl, rfl⟩, rfl⟩

/-- No scan order is in progress at rest. -/
theorem no_scan_order (s : State) (h : s.dev.transport.current = none) (c : CurrentOrder) (start : Int) (v pitch line : Nat)
    (stop : Option Int) (hc : s.dev.transport.current = some c) : c.order.kind ≠ .scan start v pitch line stop := by
  rw [h] at hc
  cases hc

theorem witness_EncoderCountsAndSettles :
    (reset.dev.trigger.arm = none ∧ reset.dev.focus.search = none ∧ reset.dev.transport.current = none ∧ Settled reset.dev
      ∧ ((reset.dev.metering.phaseA, reset.dev.metering.phaseB), (true, false)) ∈ [((false, false), (true, false))]
      ∧ ((reset.dev.metering.phaseA, reset.dev.metering.phaseB), (false, true)) ∈ [((false, false), (false, true))])
    ∧ (true ≠ reset.dev.metering.phaseA ∧ true ≠ reset.dev.metering.phaseB)
    ∧ reset.dev.metering.settledAt ≤ reset.dev.time
    ∧ (let s := having (fun d => { d with metering := { d.metering with settledAt := 100 } }) reset
       s.dev.time < s.dev.metering.settledAt) :=
  ⟨⟨rfl, rfl, rfl, ⟨rfl, rfl⟩, by decide, by decide⟩, by decide, by decide, by decide⟩

theorem witness_SplicesAreListed :
    (let s := splices [1412000, 3050000] (demand 50 (at_ 2929000 ready))
     s.dev.roll.state ≠ .noRoll ∧ 0 < s.dev.transport.demand
       ∧ (∃ y ∈ s.dev.roll.splices, (y - min 2147483647 (s.dev.metering.counter + s.dev.roll.cfg.spliceOffset)).natAbs ≤ 1000)
       ∧ s.dev.roll.splices.Pairwise (fun x y => x + 1000 < y) ∧ s.dev.roll.splices.length ≤ 64
       ∧ (∃ t, exec .splicePulse s = .next t))
    ∧ (let s := splices ((List.range 64).map fun k => (2000 * k : Int)) (demand 50 (at_ 5800000 ready))
       (∀ y ∈ s.dev.roll.splices, 1000 < (y - min 2147483647 (s.dev.metering.counter + s.dev.roll.cfg.spliceOffset)).natAbs)
         ∧ 64 ≤ s.dev.roll.splices.length)
    ∧ (let s := splices [1412000] (demand 50 (at_ 5800000 ready))
       (∀ y ∈ s.dev.roll.splices, 1000 < (y - min 2147483647 (s.dev.metering.counter + s.dev.roll.cfg.spliceOffset)).natAbs)
         ∧ s.dev.roll.splices.length < 64)
    ∧ ready.dev.transport.demand ≤ 0 :=
  ⟨⟨by decide, by decide, by decide, by decide, by decide, _, rfl⟩, by decide, by decide, by decide⟩

theorem witness_FilmPresentIsFiltered :
    true ≠ false
    ∧ (let s := demand (-50) (having (fun d => { d with roll := { d.roll with state := .runout, datum := true, tail := some 1000, filmPresent := false } }) ready)
       s.dev.roll.filmPresent = false ∧ s.dev.roll.state = .runout ∧ s.dev.transport.demand < 0 ∧ s.dev.roll.datum = true) :=
  ⟨by decide, rfl, rfl, by decide, rfl⟩

/-- A jog of the Service processor under way. -/
def jogging : State :=
  having (fun d =>
    { d with transport :=
      { d.transport with
        current := some
          { order := { owner := .service, kind := .jog .forward }, seek := none, speed := 50, runPhase := false
            baseReported := false } } }) (moving .jog .service (demand 50 (at_ 500000 indexed)))

theorem witness_RunoutRecordsTheTail :
    jogging.dev.roll.filmPresent = true ∧ jogging.dev.roll.state = .ready ∧ 0 < jogging.dev.transport.demand
      ∧ jogging.dev.transport.motion = .jog ∧ jogging.dev.trigger.arm = none ∧ jogging.dev.scan.run = none ∧ Settled jogging.dev
      ∧ jogging.dev.index.state = .imported := ⟨rfl, rfl, by decide, rfl, rfl, rfl, ⟨rfl, rfl⟩, rfl⟩

theorem witness_HaltsEnterHalted :
    (jogging.dev.transport.motion ≠ .halted ∧ takes jogging .service []
      ∧ true ≠ jogging.dev.metering.phaseA ∧ true ≠ jogging.dev.metering.phaseB)
    ∧ (ready.dev.transport.motion ≠ .halted ∧ ready.dev.roll.filmPresent = true ∧ ready.dev.roll.state = .ready
      ∧ ready.dev.transport.demand ≤ 0)
    ∧ threaded.dev.roll.state = .threaded
    ∧ (takes (moving .halted .nobody reset) .service [] ∧ (moving .halted .nobody reset).dev.transport.motion = .halted
      ∧ Settled (moving .halted .nobody reset).dev ∧ (moving .halted .nobody reset).dev.roll.state = .noRoll
      ∧ true ≠ (moving .halted .nobody reset).dev.metering.phaseA ∧ true ≠ (moving .halted .nobody reset).dev.metering.phaseB)
    ∧ (halted.dev.transport.motion = .halted ∧ Settled halted.dev ∧ halted.dev.roll.state = .ready ∧ true ≠ halted.dev.metering.phaseA
      ∧ true ≠ halted.dev.metering.phaseB) :=
  ⟨⟨by decide, ⟨rfl, by decide⟩, by decide, by decide⟩, ⟨by decide, rfl, rfl, by decide⟩, rfl, ⟨⟨rfl, by decide⟩, rfl, ⟨rfl, rfl⟩, rfl, by decide, by decide⟩,
    rfl, ⟨rfl, rfl⟩, rfl, by decide, by decide⟩

theorem witness_ClearFaultLeavesHalted :
    (takes ready .service [] ∧ ready.dev.transport.motion ≠ .halted)
    ∧ (let s := having (fun d => { d with inputs := { d.inputs with driveFault := true } }) halted
       takes s .service [] ∧ s.dev.transport.motion = .halted ∧ s.dev.inputs.driveFault = true)
    ∧ (takes halted .service [] ∧ halted.dev.transport.motion = .halted ∧ halted.dev.inputs.driveFault = false
      ∧ halted.dev.guard.stopCondition = false ∧ halted.dev.roll.filmPresent = true ∧ halted.dev.metering.unsettled = false) :=
  ⟨⟨⟨rfl, by decide⟩, by decide⟩, ⟨⟨rfl, by decide⟩, rfl, rfl⟩, ⟨rfl, by decide⟩, rfl, rfl, rfl, rfl, rfl⟩

theorem witness_ServiceRequestsNeedTheGrant :
    (takes (moving .idle .scan ready) .service [0, 0, 0, 0] ∧ (moving .idle .scan ready).dev.transport.grant ≠ .nobody)
    ∧ (takes (moving .stopping .nobody ready) .service [0, 0, 0, 0]
      ∧ (moving .stopping .nobody ready).dev.transport.grant = .nobody
      ∧ (moving .stopping .nobody ready).dev.transport.motion ≠ .idle
      ∧ (moving .stopping .nobody ready).dev.transport.motion ≠ .parked)
    ∧ 4 ≤ [(0 : Byte), 0, 0, 0].length ∧ [(0 : Byte), 0, 0, 0].length ≠ 5 :=
  ⟨⟨⟨rfl, by decide⟩, by decide⟩, ⟨⟨rfl, by decide⟩, rfl, by decide, by decide⟩, by decide, by decide⟩

/-- PARKED with the tension released. -/
def parked : State := having (fun d => { d with transport := { d.transport with motion := .parked, tension := .release } }) ready

theorem witness_ServiceOrdersStart :
    (takes ready .service [0] ∧ directionOf (natAt [0] 0 1) = some .forward ∧ ready.dev.transport.grant = .nobody ∧ Settled ready.dev
      ∧ ready.dev.transport.motion = .idle ∧ ready.dev.transport.tension = .hold ∧ ready.dev.inputs.driveReady = true
      ∧ ready.dev.metering.counter < upperLimit ready.dev)
    ∧ (directionOf (natAt [1] 0 1) = some .reverse ∧ -2000000 < ready.dev.metering.counter)
    ∧ (takes parked .service [0] ∧ parked.dev.transport.grant = .nobody ∧ Settled parked.dev
      ∧ parked.dev.transport.motion = .parked ∧ parked.dev.transport.tension = .release)
    ∧ (takes ready .service datumLow ∧ datumLow.length = 4 ∧ -2000000 ≤ intAt datumLow 0 4
      ∧ intAt datumLow 0 4 ≤ upperLimit ready.dev)
    ∧ (let p : List Byte := [0x00, 0xB4, 0xC4, 0x04, 0x88, 0x13]
       takes ready .service p ∧ 6 ≤ p.length ∧ intAt p 0 4 ≤ upperLimit ready.dev ∧ natAt p 4 2 = 5000) :=
  ⟨⟨⟨rfl, by decide⟩, rfl, rfl, ⟨rfl, rfl⟩, rfl, rfl, rfl, by decide⟩, ⟨rfl, by decide⟩,
    ⟨⟨rfl, by decide⟩, rfl, ⟨rfl, rfl⟩, rfl, rfl⟩, ⟨⟨rfl, by decide⟩, rfl, by decide, by decide⟩,
    ⟨⟨rfl, by decide⟩, by decide, by decide, by decide⟩⟩

theorem witness_ServiceOrdersStart_orders :
    (ready.dev.transport.grant = .nobody ∧ ready.dev.transport.motion ∈ [MotionState.idle, .parked, .jog, .seek, .creep, .scan]
      ∧ ready.dev.inputs.driveReady = true ∧ reset.dev.inputs.driveReady = false ∧ ¬ upperLimit ready.dev ≤ ready.dev.metering.counter)
    ∧ upperLimit (at_ 80000000 ready).dev ≤ (at_ 80000000 ready).dev.metering.counter
    ∧ (at_ (-2000000) ready).dev.metering.counter ≤ -2000000
    ∧ ((ready.dev.transport.grant = ({ owner := .nobody, kind := .scan (-1998000) 141 903 0 none } : Order).owner)
      ∧ ((141 * 141 + 2 * 4 - 1) / (2 * 4) + 2000 : Nat) = 4486) := by decide

theorem witness_StopByGrantOwner :
    (takes ready .service [] ∧ ready.dev.transport.grant = .nobody)
    ∧ (takes (moving .idle .retrieval ready) .service [] ∧ (moving .idle .retrieval ready).dev.transport.grant = .retrieval)
    ∧ (takes jogging .service [] ∧ jogging.dev.transport.grant = .service ∧ jogging.dev.focus.search = none ∧ Settled jogging.dev
      ∧ jogging.dev.transport.motion = .jog) :=
  ⟨⟨⟨rfl, by decide⟩, rfl⟩, ⟨⟨rfl, by decide⟩, rfl⟩, ⟨rfl, by decide⟩, rfl, rfl, ⟨rfl, rfl⟩, rfl⟩

/-- A seek of the Service processor with its count of milliseconds and of reversals. -/
def seekAt (elapsed reversals : Nat) : State :=
  having (fun d =>
    { d with transport :=
      { d.transport with current := d.transport.current.map fun c =>
        { c with seek := c.seek.map fun k => { k with elapsed := elapsed, reversals := reversals } } } }) (seeking 84 24)

theorem witness_SeeksFailByTimeAndReversals :
    ∃ c k, (seekAt 3251 4).dev.transport.motion = .seek ∧ (seekAt 3251 4).dev.transport.current = some c ∧ c.seek = some k
      ∧ c.order.owner = .service ∧ (seekAt 3251 4).dev.transport.grant = .service ∧ (seekAt 3251 4).dev.focus.search = none
      ∧ (seekAt 3251 4).dev.focus.lens.homing = none ∧ Settled (seekAt 3251 4).dev ∧ k.limit ≤ k.elapsed ∧ 4 ≤ k.reversals :=
  ⟨_, _, rfl, rfl, rfl, rfl, rfl, rfl, rfl, ⟨rfl, rfl⟩, by decide, by decide⟩

/-- Re-tensioning that ends at 800 ms, at a time, with a held order or none. -/
def retensioning (now : Nat) (held : Option Order) (o : Owner) : State :=
  having (fun d => { d with time := now, transport := { d.transport with tensionedAt := some 800, held := held } })
    (moving .retensioning o ready)

/-- IDLE with the park timer at a value. -/
def idleFor (ms : Nat) : State := having (fun d => { d with transport := { d.transport with parkTimer := ms } }) ready

theorem witness_RetensioningAndParking :
    (let s := retensioning 799 none .nobody
     s.dev.transport.motion = .retensioning ∧ s.dev.transport.tensionedAt = some 800 ∧ s.dev.time < 800)
    ∧ (let s := retensioning 800 none .nobody
       s.dev.transport.motion = .retensioning ∧ 800 ≤ s.dev.time ∧ s.dev.transport.held = none)
    ∧ (let s := retensioning 800 (some { owner := .service, kind := .jog .forward }) .service
       s.dev.transport.motion = .retensioning ∧ s.dev.transport.held = some { owner := .service, kind := .jog .forward }
         ∧ s.dev.transport.grant ≠ .nobody ∧ s.dev.transport.releasePending = false ∧ s.dev.inputs.driveReady = true
         ∧ s.dev.metering.counter < upperLimit s.dev ∧ Settled s.dev)
    ∧ (let s := idleFor 300000
       s.dev.transport.motion = .idle ∧ s.dev.transport.grant = .nobody ∧ s.dev.roll.state ≠ .noRoll
         ∧ s.dev.transport.cfg.parkTimeout ≠ 0 ∧ s.dev.transport.cfg.parkTimeout * 1000 ≤ s.dev.transport.parkTimer)
    ∧ ¬ (idleFor 299999).dev.transport.cfg.parkTimeout * 1000 ≤ (idleFor 299999).dev.transport.parkTimer :=
  ⟨⟨rfl, rfl, by decide⟩, ⟨rfl, by decide, rfl⟩, ⟨rfl, rfl, by decide, rfl, rfl, by decide, ⟨rfl, rfl⟩⟩,
    ⟨rfl, rfl, by decide, by decide, by decide⟩, by decide⟩

theorem witness_SeekProfileFollowsItsCases :
    ∃ c k, (∀ x v, (having (fun d => { d with transport := { d.transport with cfg := { d.transport.cfg with spliceZone := 0 } } })
          (seeking x v)).dev.transport.current = some c) ∧ c.seek = some k
      ∧ (let s := having (fun d => { d with transport := { d.transport with cfg := { d.transport.cfg with spliceZone := 0 } } }) (seeking 84 24)
         s.dev.transport.motion = .seek ∧ s.dev.transport.cfg.spliceZone = 0 ∧ -2000000 ≤ s.dev.metering.counter
           ∧ s.dev.metering.counter ≤ upperLimit s.dev ∧ 0 ≤ s.dev.transport.demand ∧ 1 ≤ s.dev.transport.cfg.acceleration) :=
  ⟨_, _, fun _ _ => rfl, rfl, rfl, rfl, by decide, by decide, by decide, by decide⟩

/-- The positioning of a scan order under way in SEEK, toward 200, at a position with a demand. -/
def positioning (x v : Int) : State :=
  having (fun d =>
    { d with transport :=
      { d.transport with current := d.transport.current.map fun c =>
        { c with order := { owner := .service, kind := .scan 4686 100 1024 7 none }, speed := 100 } } }) (seeking x v)

/-- The arrival of a positioning is reported, and the arm is made (R35). -/
theorem test_positioning_reports :
    (profile (positioning 196 4).dev).inbox = [.positioned .service, .armBegan .service 0]
      ∧ (profile (positioning 196 4).dev).transport.motion = .scan := by decide

theorem witness_SeekProfileFollowsItsCases_seeks :
    (∃ c k, ∀ x v, (seeking x v).dev.transport.current = some c ∧ c.seek = some k ∧ (seeking x v).dev.transport.motion = .seek
      ∧ 1 ≤ (seeking x v).dev.transport.cfg.acceleration ∧ c.order.kind = .seek 200 none ∧ k.target = 200)
    ∧ (0 ≤ (-1 : Int) * -4 ∧ (0 : Int) ≤ -1 * (200 - 250) ∧ (-1 : Int) * (200 - 250) ≤ 50 ∧ (-4 : Int).natAbs ≤ min 4 50)
    ∧ ((-1 : Int) * (200 - 251) ≤ ((4 * 4 + 7) / 8 : Nat) + 51 ∧ (-1 : Int) * (200 - 199) < 0)
    ∧ (∃ c, (positioning 196 4).dev.transport.current = some c ∧ c.order.kind = .scan 4686 100 1024 7 none
      ∧ (positioning 196 4).dev.transport.grant = c.order.owner ∧ (positioning 196 4).dev.trigger.arm = none ∧ (196 : Int) < 4686)
    ∧ ((seeking (-2000001) (-8)).dev.metering.counter < -2000000 ∧ upperLimit (seeking 80000001 8).dev < 80000001)
    ∧ (∃ x ∈ (splices [20000] (seeking 0 8)).dev.roll.splices, (0 - x).natAbs ≤ 20000)
    ∧ (∀ x ∈ (splices [20001] (seeking 0 8)).dev.roll.splices, 20000 < (0 - x).natAbs ∧ 0 < x - 0 - 20000) :=
  ⟨⟨_, _, fun _ _ => ⟨rfl, rfl, rfl, Nat.le_of_ble_eq_true rfl, rfl, rfl⟩⟩, by decide, by decide, ⟨_, rfl, rfl, rfl, rfl, by decide⟩, by decide, by decide,
    by decide⟩

/-- An order at a speed with a demand, at a position, near some splices. -/
def running (m : MotionState) (kind : OrderKind) (speed : Nat) (v x : Int) (xs : List Int) : State :=
  having (fun d =>
    { d with transport :=
      { d.transport with
        current := some
          { order := { owner := .service, kind := kind }, seek := none, speed := speed, runPhase := false, baseReported := true } } })
    (moving m .service (splices xs (demand v (at_ x ready))))

/-- A scan at 300 µm/ms, at 500,000, near some splices. -/
def scanNear (xs : List Int) : State := running .scan (.scan 1000 300 1024 0 none) 300 300 500000 xs

theorem witness_SeekProfileFollowsItsCases_orders :
    (∃ c, (running .jog (.jog .forward) 50 4 79999950 []).dev.transport.current = some c ∧ c.order.kind = .jog .forward
      ∧ upperLimit (running .jog (.jog .forward) 50 4 79999950 []).dev - 79999950 ≤ 50 ∧ 4 ≤ min 4 50)
    ∧ (∃ c, (running .jog (.jog .reverse) 50 (-50) (-1999637) []).dev.transport.current = some c ∧ c.order.kind = .jog .reverse
      ∧ (-1999637 - -2000000 : Int) - 50 ≤ ((50 * 50 + 2 * 4 - 1) / (2 * 4) : Nat))
    ∧ (∃ x ∈ (running .creep (.creep .probe) 10 6 500000 [520000]).dev.roll.splices, (500000 - x).natAbs ≤ 20000)
    ∧ ((scanNear [526550]).dev.roll.splices = [526550] ∧ 200 < 300
      ∧ (526550 - 500000 - 20000 : Int) - 300 ≤ ((300 * 300 + 7) / 8 : Nat) - ((200 * 200 + 7) / 8 : Nat))
    ∧ ((scanNear [526551]).dev.roll.splices = [526551]
      ∧ ((300 * 300 + 7) / 8 : Nat) - ((200 * 200 + 7) / 8 : Nat) < (526551 - 500000 - 20000 : Int) - 300)
    ∧ ∀ x ∈ (scanNear [479999]).dev.roll.splices, x - 500000 - 20000 ≤ 0 ∧ 20000 < (500000 - x).natAbs :=
  ⟨⟨_, rfl, rfl, by decide, by decide⟩, ⟨_, rfl, rfl, by decide⟩, by decide, ⟨rfl, by decide, by decide⟩, ⟨rfl, by decide⟩,
    by decide⟩

/-- A stop with a demand and a reason. -/
def stopping (v : Int) (why : StopReason) : State :=
  having (fun d => { d with transport := { d.transport with stopReason := some why } }) (moving .stopping .service (demand v ready))

theorem witness_SeekProfileFollowsItsCases_stops :
    (stopping 5 .order).dev.transport.cfg.acceleration = 4 ∧ 4 < (stopping 5 .order).dev.transport.demand.natAbs
      ∧ (stopping (-4) .guardStop).dev.transport.demand.natAbs ≤ 4
      ∧ (stopping (-4) .guardStop).dev.transport.stopReason = some .guardStop
      ∧ (stopping 4 .order).dev.transport.stopReason ≠ some .guardStop ∧ (stopping 4 .order).dev.transport.held = none := by decide

/-- A slot record at the lower ends of its ranges and one at the upper ends. -/
def slotLow : SlotRecord := { SlotRecord.default with enabled := true, period := 10, underPattern := 0, overPattern := 1 }
def slotHigh : SlotRecord :=
  { enabled := true, busAddress := 127, valueRegister := 255, dataType := .s16, byteSwap := true, powerMode := .periodic
    period := 65535, scriptStart := 255, pairCount := 64, preInitWait := 2550, postInitWait := 2550, retries := 3
    underPattern := 0x8000, overPattern := 0x7FFF, area := .inside, debounce := 8, action := .stop, vote := true }

theorem witness_RecordsReadBack :
    (slotLow.enabled = true ∧ slotLow.busAddress ≤ 127 ∧ slotLow.valueRegister ≤ 255 ∧ (slotLow.byteSwap = true → slotLow.dataType ≠ .u8)
      ∧ 10 ≤ slotLow.period ∧ slotLow.period ≤ 65535 ∧ slotLow.scriptStart ≤ 255 ∧ slotLow.pairCount ≤ 64 ∧ slotLow.preInitWait ≤ 2550
      ∧ slotLow.postInitWait ≤ 2550 ∧ slotLow.retries ≤ 3 ∧ slotLow.underPattern ≤ 65535 ∧ slotLow.overPattern ≤ 65535
      ∧ (slotLow.dataType = .u8 → slotLow.underPattern ≤ 255 ∧ slotLow.overPattern ≤ 255)
      ∧ thresholdValue slotLow.dataType slotLow.underPattern < thresholdValue slotLow.dataType slotLow.overPattern
      ∧ 1 ≤ slotLow.debounce ∧ slotLow.debounce ≤ 8 ∧ (slotLow.vote = true → slotLow.action = .stop))
    ∧ (slotHigh.enabled = true ∧ slotHigh.busAddress ≤ 127 ∧ slotHigh.valueRegister ≤ 255
      ∧ (slotHigh.byteSwap = true → slotHigh.dataType ≠ .u8) ∧ 10 ≤ slotHigh.period ∧ slotHigh.period ≤ 65535
      ∧ slotHigh.scriptStart ≤ 255 ∧ slotHigh.pairCount ≤ 64 ∧ slotHigh.preInitWait ≤ 2550 ∧ slotHigh.postInitWait ≤ 2550
      ∧ slotHigh.retries ≤ 3 ∧ slotHigh.underPattern ≤ 65535 ∧ slotHigh.overPattern ≤ 65535
      ∧ (slotHigh.dataType = .u8 → slotHigh.underPattern ≤ 255 ∧ slotHigh.overPattern ≤ 255)
      ∧ thresholdValue slotHigh.dataType slotHigh.underPattern < thresholdValue slotHigh.dataType slotHigh.overPattern
      ∧ 1 ≤ slotHigh.debounce ∧ slotHigh.debounce ≤ 8 ∧ (slotHigh.vote = true → slotHigh.action = .stop))
    ∧ (65535 < 256 ^ 2) ∧ (1 ≤ 4 ∧ -(256 ^ 4 : Int) ≤ 2 * -2147483648 ∧ 2 * (2147483647 : Int) < (256 ^ 4 : Int)) := by decide

theorem witness_RecordsReadBack_entries :
    let e : IndexEntry := { entryA with
      start := -2147483648, length := 16777215, address := { batch := 65535, doc := 65535, page := 65535 }, markLevel := 3
      focusStep := some 4095 }
    65535 < 65536 ∧ -2147483648 ≤ e.start ∧ e.start ≤ 2147483647 ∧ e.length < 16777216 ∧ e.address.batch ≤ 65535
      ∧ e.address.doc ≤ 65535 ∧ e.address.page ≤ 65535 ∧ e.markLevel ≤ 3 ∧ (∀ k ∈ e.focusStep, k ≤ 4095) := by decide

/-- A SLOT_CONFIG payload for slot 2. -/
def slotPayload (r : SlotRecord) : List Byte := 2 :: slotRecordBytes r

/-- Slot 2 in a state, with a record. -/
def slot2As (st : SlotState) (r : SlotRecord) : State :=
  having (fun d => { d with guard := { d.guard with slot2 := { d.guard.slot2 with state := st, record := r } } }) ready

theorem witness_SlotConfigStartsTheSlot :
    (takes reset .service (slotPayload slotHigh) ∧ 24 ≤ (slotPayload slotHigh).length ∧ natAt (slotPayload slotHigh) 0 1 = (2 : Fin 4).val
      ∧ natAt (slotPayload slotHigh) 1 1 = 1 ∧ (reset.dev.guard.get 2).state = .off
      ∧ slotRecordOf ((slotPayload slotHigh).drop 1) = some slotHigh)
    ∧ ((slot2As .polling slotLow).dev.guard.get 2).state ≠ .off
    ∧ (natAt (slotPayload { slotHigh with debounce := 9 }) 1 1 = 1
      ∧ slotRecordOf ((slotPayload { slotHigh with debounce := 9 }).drop 1) = none) :=
  ⟨⟨⟨rfl, by decide⟩, by decide, rfl, rfl, rfl, by decide⟩, by decide, rfl, by decide⟩

theorem witness_SlotsStopAndRestart :
    (takes reset .service (slotPayload SlotRecord.default) ∧ 24 ≤ (slotPayload SlotRecord.default).length
      ∧ natAt (slotPayload SlotRecord.default) 0 1 = (2 : Fin 4).val ∧ natAt (slotPayload SlotRecord.default) 1 1 = 0 ∧ Settled reset.dev
      ∧ (reset.dev.guard.get 2).state = .off)
    ∧ (Settled (slot2As .polling slotHigh).dev ∧ ((slot2As .polling slotHigh).dev.guard.get 2).state ≠ .off)
    ∧ (takes (slot2As .faulted slotHigh) .service [2] ∧ 1 ≤ [(2 : Byte)].length ∧ natAt [2] 0 1 = (2 : Fin 4).val
      ∧ ((slot2As .faulted slotHigh).dev.guard.get 2).state = .faulted)
    ∧ ((slot2As .polling slotHigh).dev.guard.get 2).state ≠ .faulted :=
  ⟨⟨⟨rfl, by decide⟩, by decide, rfl, rfl, ⟨rfl, rfl⟩, rfl⟩, ⟨⟨rfl, rfl⟩, by decide⟩, ⟨⟨rfl, by decide⟩, by decide, rfl, rfl⟩, by decide⟩

theorem witness_ScriptWriteStoresItsBytes :
    (takes reset .service [255, 2, 0xAA, 0xBB] ∧ natAt [255, 2, 0xAA, 0xBB] 0 1 = 255 ∧ natAt [255, 2, 0xAA, 0xBB] 1 1 = 2
      ∧ 2 + 2 ≤ [(255 : Byte), 2, 0xAA, 0xBB].length ∧ Memory.wf reset.dev.guard.script = true
      ∧ ∀ n, (reset.dev.guard.get n).state ≠ .init)
    ∧ (let p : List Byte := 0 :: 56 :: List.replicate 56 1
       takes reset .service p ∧ natAt p 1 1 = 56 ∧ 2 + 56 ≤ p.length)
    ∧ ∃ n, ((slot2As .init slotLow).dev.guard.get n).state = .init :=
  ⟨⟨⟨rfl, by decide⟩, rfl, rfl, by decide, rfl, by decide⟩, ⟨⟨rfl, by decide⟩, rfl, by decide⟩, 2, rfl⟩

/-- Slot 2 with a due time of 100 ms and a wait that ends then, at a time. -/
def slotDue (now : Nat) (st : SlotState) (r : SlotRecord) (poll : Bool) (bus : Option BusTransaction) : State :=
  having (fun d =>
    { d with
      time := now
      guard :=
        { d.guard with
          bus := bus
          slot2 := { d.guard.slot2 with nextDue := some 100, waitEnd := some 100, pollInProgress := poll } } }) (slot2As st r)

/-- A transaction of slot 0 on the bus. -/
def busOfSlot0 : BusTransaction :=
  { slot := 0, use := .sample, form := attemptForm reset.dev.guard 0 .sample, speed := 100, begun := 0, discarded := false }

theorem witness_SlotTimesAct :
    (((slotDue 99 .polling slotLow false none).dev.guard.get 2).nextDue = some 100 ∧ (slotDue 99 .polling slotLow false none).dev.time < 100)
    ∧ (100 ≤ (slotDue 100 .polling slotLow true none).dev.time
      ∧ ((slotDue 100 .polling slotLow true none).dev.guard.get 2).pollInProgress = true)
    ∧ (((slotDue 100 .off slotHigh false none).dev.guard.get 2).pollInProgress = false
      ∧ ((slotDue 100 .off slotHigh false none).dev.guard.get 2).record.powerMode = .periodic)
    ∧ (((slotDue 100 .polling slotLow false none).dev.guard.get 2).pollInProgress = false
      ∧ ((slotDue 100 .polling slotLow false none).dev.guard.get 2).record.powerMode = .always
      ∧ (slotDue 100 .polling slotLow false none).dev.guard.bus = none
      ∧ ∀ m, ((slotDue 100 .polling slotLow false none).dev.guard.get m).wants = none)
    ∧ (slotDue 100 .polling slotLow false (some busOfSlot0)).dev.guard.bus ≠ none
    ∧ (((slotDue 100 .init slotHigh true none).dev.guard.get 2).waitEnd = some 100
      ∧ ((slotDue 100 .init slotHigh true none).dev.guard.get 2).state = .init
      ∧ 1 ≤ ((slotDue 100 .init slotHigh true none).dev.guard.get 2).record.pairCount)
    ∧ (((slotDue 100 .init { slotHigh with pairCount := 0 } true none).dev.guard.get 2).record.pairCount = 0
      ∧ ((slotDue 100 .init { slotHigh with pairCount := 0 } true none).dev.guard.get 2).record.postInitWait ≠ 0)
    ∧ (((slotDue 100 .settle slotHigh true (some busOfSlot0)).dev.guard.get 2).waitEnd = some 100
      ∧ ((slotDue 100 .settle slotHigh true (some busOfSlot0)).dev.guard.get 2).state = .settle
      ∧ (slotDue 100 .settle slotHigh true (some busOfSlot0)).dev.guard.bus ≠ none) := by decide

theorem witness_SlotTimesAct_samples :
    (let s := slotDue 100 .settle slotHigh true none
     (s.dev.guard.get 2).waitEnd = some 100 ∧ 100 ≤ s.dev.time ∧ (s.dev.guard.get 2).state = .settle ∧ s.dev.guard.bus = none
       ∧ ∀ m, (s.dev.guard.get m).wants = none)
    ∧ (let s := slotDue 100 .init { slotHigh with pairCount := 0, postInitWait := 0 } true none
       (s.dev.guard.get 2).state = .init ∧ (s.dev.guard.get 2).record.pairCount = 0 ∧ (s.dev.guard.get 2).record.postInitWait = 0
         ∧ s.dev.guard.bus = none ∧ ∀ m, (s.dev.guard.get m).wants = none)
    ∧ (let s := slotDue 100 .init { slotHigh with pairCount := 0, postInitWait := 0 } true (some busOfSlot0)
       (s.dev.guard.get 2).record.pairCount = 0 ∧ (s.dev.guard.get 2).record.postInitWait = 0 ∧ s.dev.guard.bus ≠ none) := by decide

/-- Slot 2 on the bus with its sample read, after some failed attempts. -/
def onBus (r : SlotRecord) (attempts : Nat) : State :=
  having (fun d =>
    { d with guard :=
      { d.guard with
        bus := some
          { slot := 2, use := .sample, form := attemptForm (slot2As .polling r).dev.guard 2 .sample, speed := 100, begun := 0
            discarded := false }
        slot2 := { d.guard.slot2 with attempts := attempts, pollInProgress := true } } }) (slot2As .polling r)

theorem witness_AttemptsEnd :
    reset.dev.guard.bus = none
    ∧ (∃ b, (onBus slotHigh 2).dev.guard.bus = some b ∧ b.discarded = false ∧ b.use = .sample
      ∧ ((onBus slotHigh 2).dev.guard.get b.slot).attempts + 1 < 1 + ((onBus slotHigh 2).dev.guard.get b.slot).record.retries
      ∧ Settled (onBus slotHigh 2).dev)
    ∧ (∃ b, (onBus slotHigh 3).dev.guard.bus = some b ∧ b.discarded = false
      ∧ 1 + ((onBus slotHigh 3).dev.guard.get b.slot).record.retries ≤ ((onBus slotHigh 3).dev.guard.get b.slot).attempts + 1) :=
  ⟨rfl, ⟨_, rfl, rfl, rfl, by decide, ⟨rfl, rfl⟩⟩, _, rfl, rfl, by decide⟩

/-- Slot 2 on the bus with a use, begun at 0, at a time, its result kept or discarded; slot 3 waiting or not. -/
def onBusFor (use : BusUse) (now : Nat) (discarded : Bool) (waiting : Option BusUse) : State :=
  having (fun d =>
    { d with
      time := now
      guard :=
        { d.guard with
          bus := some
            { slot := 2, use := use, form := attemptForm (slot2As .init slotHigh).dev.guard 2 use, speed := 100, begun := 0
              discarded := discarded }
          slot3 := { d.guard.slot3 with wants := waiting } } }) (slot2As .init slotHigh)

theorem witness_AttemptsEnd_pairs :
    (∃ b, (onBusFor (.pair 62) 25 false none).dev.guard.bus = some b ∧ b.discarded = false ∧ b.use = .pair 62 ∧ formReads b.form = 0
      ∧ 62 + 1 < ((onBusFor (.pair 62) 25 false none).dev.guard.get b.slot).record.pairCount
      ∧ (∀ m, m ≠ b.slot → ((onBusFor (.pair 62) 25 false none).dev.guard.get m).wants = none)
      ∧ b.begun + 25 ≤ (onBusFor (.pair 62) 25 false none).dev.time ∧ Settled (onBusFor (.pair 62) 25 false none).dev)
    ∧ (∃ b, (onBusFor (.pair 63) 24 false none).dev.guard.bus = some b ∧ b.use = .pair 63 ∧ formReads b.form = 0
      ∧ ((onBusFor (.pair 63) 24 false none).dev.guard.get b.slot).record.pairCount ≤ 63 + 1
      ∧ ((onBusFor (.pair 63) 24 false none).dev.guard.get b.slot).record.postInitWait ≠ 0
      ∧ ((onBusFor (.pair 63) 24 false none).dev.guard.get b.slot).wants = none
      ∧ (onBusFor (.pair 63) 24 false none).dev.time < b.begun + 25)
    ∧ (∃ b, (onBusFor .sample 0 false none).dev.guard.bus = some b ∧ b.use = .sample ∧ [(0 : Byte), 0].length = formReads b.form
      ∧ [(0 : Byte)].length ≠ formReads b.form) :=
  ⟨⟨_, rfl, rfl, rfl, rfl, by decide, by decide, by decide, ⟨rfl, rfl⟩⟩, ⟨_, rfl, rfl, rfl, by decide, by decide, rfl, by decide⟩,
    _, rfl, rfl, rfl, by decide⟩

theorem witness_AttemptsEnd_discarded :
    (∃ b, (onBusFor .sample 0 true none).dev.guard.bus = some b ∧ b.discarded = true ∧ Settled (onBusFor .sample 0 true none).dev
      ∧ ∀ m, ((onBusFor .sample 0 true none).dev.guard.get m).wants = none)
    ∧ (∃ b, (onBusFor .sample 0 true (some .sample)).dev.guard.bus = some b ∧ b.discarded = true
      ∧ ((onBusFor .sample 0 true (some .sample)).dev.guard.get 3).wants = some .sample
      ∧ ∀ k, k < 3 → ((onBusFor .sample 0 true (some .sample)).dev.guard.get k).wants = none) :=
  ⟨⟨_, rfl, rfl, ⟨rfl, rfl⟩, by decide⟩, _, rfl, rfl, rfl, by decide⟩

theorem witness_SamplesAndTrips :
    ((slot2As .polling slotHigh).dev.guard.get 2).runCount = 0 ∧ 1 ≤ ((slot2As .polling slotHigh).dev.guard.get 2).record.debounce
      ∧ 7 < ((slot2As .polling slotHigh).dev.guard.get 2).record.debounce
      ∧ 1 ≤ ((slot2As .polling slotLow).dev.guard.get 2).record.debounce
      ∧ slotHigh.underPattern = (0x8000 : BitVec 16).toNat ∧ slotHigh.overPattern = (0x7FFF : BitVec 16).toNat
      ∧ slotHigh.area = .inside ∧ slotHigh.dataType = .s16 ∧ slotLow.area = .outside
      ∧ tripLike slotHigh (-32768) = false ∧ tripLike slotHigh (-32767) = true := by decide

/-- Slot 2 is FAULTED with action STOP while the guard stop condition is still false. -/
def faultedSlot (m : MotionState) : State := moving m .nobody (slot2As .faulted { slotLow with action := .stop })

theorem witness_GuardStopBrakesOrHalts :
    (stopConditionOf (faultedSlot .jog).dev.guard = true ∧ (faultedSlot .jog).dev.guard.stopCondition = false
      ∧ (faultedSlot .jog).dev.transport.motion = .jog)
    ∧ (faultedSlot .stopping).dev.transport.motion = .stopping ∧ (faultedSlot .idle).dev.transport.motion = .idle := by decide

/-- A SCAN arm with the counter one below its base, in encoder phase (low, low). -/
def armed (m : ArmMode) : State :=
  having (fun d =>
    { d with trigger :=
      { d.trigger with arm := some { owner := .scan, mode := m, base := 1250000, pitch := 903, stopAt := none, index := 0 } } })
    (moving .creep .scan (demand 10 (at_ 1249999 ready)))

theorem witness_TriggersOnTheirGrid :
    (∃ a, (armed .scan).dev.trigger.arm = some a ∧ a.stopAt = none ∧ 256 ≤ a.pitch ∧ a.mode = .scan
      ∧ (armed .scan).dev.trigger.lineCounter < 4294967295 ∧ nextPosition a ≤ (armed .scan).dev.metering.counter + 1)
    ∧ (armed .probe).dev.trigger.arm ≠ none
    ∧ ((armed .scan).dev.focus.search = none ∧ (armed .scan).dev.lines.expected = none ∧ (armed .scan).dev.transport.current = none
      ∧ Settled (armed .scan).dev
      ∧ (phaseIndex true false + 4 - phaseIndex (armed .scan).dev.metering.phaseA (armed .scan).dev.metering.phaseB) % 4 = 1
      ∧ -2147483648 ≤ (armed .scan).dev.metering.counter ∧ (armed .scan).dev.metering.counter < 2147483647) :=
  ⟨⟨_, rfl, rfl, by decide, rfl, by decide, by decide⟩, by decide, rfl, rfl, rfl, ⟨rfl, rfl⟩, by decide, by decide, by decide⟩

/-- A run RUNNING under its SCAN order with its arm, one count below a stop position or with the line counter at a value. -/
def scanArmed (stopAt : Option Int) (line : Nat) : State :=
  having (fun d =>
    { d with
      scan := { d.scan with run := some (runAs .running none) }
      transport :=
        { d.transport with
          current := some
            { order := { owner := .scan, kind := .scan 1250000 141 903 0 stopAt }, seek := none, speed := 141, runPhase := true
              baseReported := true } }
      trigger :=
        { d.trigger with
          lineCounter := line
          arm := some { owner := .scan, mode := .scan, base := 1250000, pitch := 903, stopAt := stopAt, index := 0 } } })
    (moving .scan .scan (demand 141 (at_ 1249999 ready)))

theorem witness_TriggersOnTheirGrid_ends :
    (∃ a, (scanArmed (some 1250000) 5).dev.trigger.arm = some a ∧ a.stopAt = some 1250000
      ∧ 1250000 ≤ (scanArmed (some 1250000) 5).dev.metering.counter + 1 ∧ a.owner = .scan ∧ a.mode = .scan)
    ∧ (∃ a, (scanArmed none 4294967295).dev.trigger.arm = some a ∧ a.stopAt = none ∧ a.mode = .scan
      ∧ (scanArmed none 4294967295).dev.trigger.lineCounter = 4294967295
      ∧ nextPosition a ≤ (scanArmed none 4294967295).dev.metering.counter + 1)
    ∧ (∃ a, (scanArmed none 4294967294).dev.trigger.arm = some a ∧ a.mode = .scan
      ∧ (scanArmed none 4294967294).dev.trigger.lineCounter < 4294967295)
    ∧ ((scanArmed none 0).dev.focus.search = none ∧ Settled (scanArmed none 0).dev
      ∧ (scanArmed none 0).dev.transport.grant = .scan ∧ (scanArmed none 0).dev.transport.motion = .scan
      ∧ (scanArmed none 0).dev.lines.expected = none
      ∧ ∃ c r, (scanArmed none 0).dev.transport.current = some c ∧ c.baseReported = true
        ∧ (scanArmed none 0).dev.scan.run = some r ∧ r.state = .running) :=
  ⟨⟨_, rfl, rfl, by decide, rfl, rfl⟩, ⟨_, rfl, rfl, rfl, rfl, by decide⟩, ⟨_, rfl, rfl, by decide⟩,
    rfl, ⟨rfl, rfl⟩, rfl, rfl, rfl, _, _, rfl, rfl, rfl, rfl⟩

theorem witness_TriggersOnTheirGrid_arms :
    ready.dev.transport.grant ≠ .service
    ∧ ((moving .scan .scan ready).dev.transport.grant = .scan ∧ (moving .scan .scan ready).dev.trigger.arm = none)
    ∧ ((armed .scan).dev.trigger.arm ≠ none ∧ (armed .scan).dev.roll.pendingCorrection = none)
    ∧ (having (fun d => { d with roll := { d.roll with pendingCorrection := some (-35) } }) (armed .scan)).dev.roll.pendingCorrection
      = some (-35) := by decide

/-- A segment of some bytes is expected. -/
def expecting (n : Nat) : State :=
  having (fun d =>
    { d with lines :=
      { d.lines with
        expected := some { trigger := { mode := .scan, index := 0, position := 1250000, line := some 0 }, bytes := segment.take n } } }) ready

theorem witness_LinesAndTheirStatistics :
    (reset.dev.lines.expected = none ∧ Settled reset.dev)
    ∧ (∃ seg, (expecting 62).dev.lines.expected = some seg ∧ seg.bytes.length < 63 ∧ Settled (expecting 62).dev)
    ∧ (∃ seg, (expecting 63).dev.lines.expected = some seg ∧ seg.bytes.length = 63 ∧ (expecting 63).dev.detector.activity = .idle
      ∧ (expecting 63).dev.focus.search = none ∧ (expecting 63).dev.detector.openFrame = none ∧ Settled (expecting 63).dev)
    ∧ segment.length = 64 :=
  ⟨⟨rfl, ⟨rfl, rfl⟩⟩, ⟨_, rfl, by decide, ⟨rfl, rfl⟩⟩, ⟨_, rfl, rfl, rfl, rfl, rfl, ⟨rfl, rfl⟩⟩, rfl⟩

/-- A line result at a position, complete at a level or missing. -/
def lineAt (x : Int) (level : Option Nat) : LineResult :=
  { trigger := { mode := .scan, index := 3, position := x, line := some 40 }
    stats := level.map fun l =>
      { level := l, focusLow := 0, focusHigh := 0, saturatedLow := false, saturatedHigh := false, focusSum := 0, counted := true } }

/-- The arm whose trigger 3 is at 500,000 + 10. -/
def lineArm : Arm := { owner := .scan, mode := .scan, base := 500000, pitch := 903, stopAt := none, index := 4 }

/-- Frame detection in RUN under an arm, with a gap state, a gap run from a position and a frame opened at a position. -/
def detecting (g : GapState) (run frame : Option Int) : State :=
  having (fun d =>
    { d with
      scan := { d.scan with run := some (runAs .running none) }
      trigger := { d.trigger with arm := some lineArm }
      detector :=
        { d.detector with
          activity := .run, gapState := g, openNext := false
          gapRun := run.map fun x => { position := x, line := 30 }
          openFrame := frame.map fun x => { start := x, firstLine := 2, monitorGap := false, lastLine := 39, lastPosition := 500007 } } })
    (moving .scan .scan ready)

theorem witness_LinesAndTheirStatistics_lines :
    (let d := (detecting .unknown (some 499613) none).dev
     (lineAt 500010 (some 200)).trigger.line = some 40 ∧ d.detector.openNext = false ∧ d.detector.gapState = .unknown
       ∧ classify .negative d.detector.cfg d.detector.previous (some 200) = .gapLike
       ∧ classify .negative d.detector.cfg d.detector.previous (some 169) = .imageLike
       ∧ 256 * (500010 - 499613) + 903 ≥ 256 * (d.detector.cfg.minGap : Int)
       ∧ ¬ 256 * (500010 - 499614) + 903 ≥ 256 * (d.detector.cfg.minGap : Int))
    ∧ (detecting .inGap none none).dev.detector.gapState = .inGap
    ∧ (let s := detecting .inFrame (some 499613) (some 350010)
       s.dev.detector.gapState = .inFrame ∧ (s.dev.detector.cfg.maxFrame : Int) ≤ 500010 - 350010
         ∧ ¬ (s.dev.detector.cfg.maxFrame : Int) ≤ 500010 - 350011)
    ∧ (∃ f run, (detecting .inFrame none (some 350010)).dev.detector.openFrame = some f
      ∧ (detecting .inFrame none (some 350010)).dev.scan.run = some run
      ∧ (detecting .inFrame none (some 350010)).dev.trigger.arm = some lineArm
      ∧ (detecting .inFrame none (some 350010)).dev.detector.activity = .run
      ∧ (detecting .inFrame none (some 350010)).dev.roll.pendingCorrection = none ∧ f.lastLine = 39 ∧ run.state = .running) :=
  ⟨by decide, rfl, by decide, _, _, rfl, rfl, rfl, rfl, rfl, rfl, rfl⟩

/-- A lens move from a step to 102, with its counts, its settling deadline, and the frame gate. -/
def lensMoving (step issued elapsed : Nat) (settledAt : Option Nat) (gate : Bool) : State :=
  having (fun d =>
    { d with
      scan := { d.scan with gate := gate }
      focus := { d.focus with lens :=
        { d.focus.lens with
          serviceWatch := true
          move := some { target := 102, requester := .service, issued := issued, elapsed := elapsed, rate := 4000, settledAt := settledAt } } } })
    (lens .moving step ready)

/-- A homing with its counts, its settling deadline, and whether it holds the grant. -/
def homingAt (issued elapsed : Nat) (settledAt : Option Nat) (holds : Bool) : State :=
  having (fun d =>
    { d with focus := { d.focus with lens :=
      { d.focus.lens with
        homing := some { issued := issued, elapsed := elapsed, rate := 4000, settledAt := settledAt, holdsGrant := holds } } } })
    (moving .idle (if holds then .service else .nobody) (lens .homing 50 ready))

theorem witness_LensMovesAndRests :
    (∃ m, (lensMoving 100 0 0 none false).dev.focus.lens.state = .moving ∧ (lensMoving 100 0 0 none false).dev.focus.lens.move = some m
      ∧ m.settledAt = none ∧ 1 ≤ m.rate ∧ ¬ (m.issued + 1) * 1000 ≤ m.elapsed * m.rate)
    ∧ (∃ m, (lensMoving 100 0 1 none false).dev.focus.lens.move = some m ∧ (lensMoving 100 0 1 none false).dev.scan.gate = false
      ∧ (m.issued + 1) * 1000 ≤ m.elapsed * m.rate ∧ Settled (lensMoving 100 0 1 none false).dev)
    ∧ (∃ m, (lensMoving 101 1 1 none false).dev.focus.lens.move = some m ∧ 101 + 1 = m.target
      ∧ (lensMoving 101 1 1 none false).dev.focus.cfg.lensSettle ≠ 0 ∧ Settled (lensMoving 101 1 1 none false).dev)
    ∧ (∃ m, (lensMoving 102 2 1 (some 0) false).dev.focus.lens.move = some m ∧ m.settledAt = some 0
      ∧ 0 ≤ (lensMoving 102 2 1 (some 0) false).dev.time ∧ Settled (lensMoving 102 2 1 (some 0) false).dev
      ∧ (lensMoving 102 2 1 (some 0) false).dev.focus.search = none ∧ (lensMoving 102 2 1 (some 0) false).dev.retrieval.attempt = none)
    ∧ (lensMoving 102 2 1 (some 1) false).dev.time < 1
    ∧ (∃ h, (homingAt 0 0 (some 0) true).dev.focus.lens.homing = some h ∧ h.settledAt = some 0 ∧ h.holdsGrant = true
      ∧ Settled (homingAt 0 0 (some 0) true).dev ∧ (homingAt 0 0 (some 0) true).dev.focus.lens.state = .homing)
    ∧ (∃ h, (homingAt 0 0 (some 0) false).dev.focus.lens.homing = some h ∧ h.holdsGrant = false ∧ Settled (homingAt 0 0 (some 0) false).dev) :=
  ⟨⟨_, rfl, rfl, rfl, by decide, by decide⟩, ⟨_, rfl, rfl, by decide, ⟨rfl, rfl⟩⟩, ⟨_, rfl, rfl, by decide, ⟨rfl, rfl⟩⟩,
    ⟨_, rfl, rfl, by decide, ⟨rfl, rfl⟩, rfl, rfl⟩, by decide, ⟨_, rfl, rfl, rfl, ⟨rfl, rfl⟩, rfl⟩, _, rfl, rfl, ⟨rfl, rfl⟩⟩

theorem witness_HomingFindsTheSwitch :
    (takes (lens .unhomed 0 ready) .service [] ∧ (lens .unhomed 0 ready).dev.transport.grant = .nobody
      ∧ (lens .unhomed 0 ready).dev.transport.motion = .idle ∧ (lens .unhomed 0 ready).dev.transport.tension = .hold
      ∧ Settled (lens .unhomed 0 ready).dev ∧ (lens .unhomed 0 ready).dev.focus.frameLens = none
      ∧ (lens .unhomed 0 ready).dev.inputs.lensHome = false)
    ∧ (lensMoving 100 0 0 none false).dev.focus.lens.state = .moving
    ∧ (∃ h, (homingAt 4399 1100 none true).dev.focus.lens.state = .homing ∧ (homingAt 4399 1100 none true).dev.focus.lens.homing = some h
      ∧ h.settledAt = none ∧ 1 ≤ h.rate ∧ (homingAt 4399 1100 none true).dev.scan.gate = false ∧ Settled (homingAt 4399 1100 none true).dev
      ∧ (h.issued + 1) * 1000 ≤ h.elapsed * h.rate ∧ h.issued < 4400 ∧ (homingAt 4399 1100 none true).dev.focus.cfg.lensSettle ≠ 0)
    ∧ (∃ h, (homingAt 4400 1100 none false).dev.focus.lens.homing = some h ∧ 4400 ≤ h.issued ∧ h.holdsGrant = false
      ∧ (homingAt 4400 1100 none false).dev.retrieval.attempt = none ∧ Settled (homingAt 4400 1100 none false).dev) :=
  ⟨⟨⟨rfl, by decide⟩, rfl, rfl, rfl, ⟨rfl, rfl⟩, rfl, rfl⟩, rfl,
    ⟨_, rfl, rfl, rfl, by decide, rfl, ⟨rfl, rfl⟩, by decide, by decide, by decide⟩, _, rfl, by decide, rfl, rfl, ⟨rfl, rfl⟩⟩

theorem witness_HomingFindsTheSwitch_released :
    (let s := lens .fault 0 parked
     takes s .service [] ∧ s.dev.transport.grant = .nobody ∧ s.dev.transport.motion = .parked ∧ s.dev.transport.tension = .release
       ∧ Settled s.dev ∧ s.dev.focus.frameLens = none ∧ s.dev.inputs.lensHome = false ∧ s.dev.focus.lens.state = .fault)
    ∧ (∃ h, (homingAt 4400 1100 none true).dev.focus.lens.homing = some h ∧ 4400 ≤ h.issued ∧ h.holdsGrant = true ∧ h.settledAt = none
      ∧ 1 ≤ h.rate ∧ (homingAt 4400 1100 none true).dev.scan.gate = false ∧ Settled (homingAt 4400 1100 none true).dev)
    ∧ (∃ h, (homingAt 4399 1100 none true).dev.focus.lens.homing = some h ∧ h.issued < 4400) :=
  ⟨⟨⟨rfl, by decide⟩, rfl, rfl, rfl, ⟨rfl, rfl⟩, rfl, rfl, rfl⟩, ⟨_, rfl, by decide, rfl, rfl, by decide, rfl, ⟨rfl, rfl⟩⟩,
    _, rfl, by decide⟩

theorem witness_LensMoveStartsTheMove :
    (takes (lens .idle 100 ready) .service [0xFF, 0x0F] ∧ 2 ≤ [(0xFF : Byte), 0x0F].length ∧ natAt [0xFF, 0x0F] 0 2 = 4095
      ∧ (lens .idle 100 ready).dev.focus.lens.state = .idle ∧ (lens .idle 100 ready).dev.focus.search.isSome = false
      ∧ runIn (lens .idle 100 ready).dev [.preparing, .running, .suspending] = false ∧ lensHeld (lens .idle 100 ready).dev = false
      ∧ (lens .idle 100 ready).dev.focus.frameLens = none ∧ Settled (lens .idle 100 ready).dev)
    ∧ 4095 < natAt [0x00, 0x10] 0 2
    ∧ (takes (lens .unhomed 0 ready) .service [0, 0] ∧ (lens .unhomed 0 ready).dev.focus.lens.state ≠ .idle) :=
  ⟨⟨⟨rfl, by decide⟩, by decide, rfl, rfl, rfl, rfl, rfl, rfl, ⟨rfl, rfl⟩⟩, by decide, ⟨rfl, by decide⟩, by decide⟩

/-- Threaded, the lens homed, tension released. -/
def searchReady : State := lens .idle 2000 (at_ 5000 threaded)

theorem witness_FocusSearchBegins :
    takes searchReady .service [] ∧ searchReady.dev.transport.grant = .nobody ∧ searchReady.dev.transport.motion = .idle
      ∧ searchReady.dev.transport.tension = .release ∧ searchReady.dev.roll.state = .threaded
      ∧ searchReady.dev.focus.lens.state = .idle ∧ searchReady.dev.scan.run = none ∧ searchReady.dev.trigger.arm = none
      ∧ Settled searchReady.dev := ⟨⟨rfl, by decide⟩, rfl, rfl, rfl, rfl, rfl, rfl, rfl, ⟨rfl, rfl⟩⟩

theorem witness_SearchScores :
    (searching .coarseUp (some (4095, 5100)) 0 1 (some 4031) 4095).candidate ≤ 4095
      ∧ (searching .coarseUp (some (4095, 5100)) 0 1 (some 4031) 4095).startStep ≤ 4095
      ∧ ∀ b, (searching .coarseUp (some (4095, 5100)) 0 1 (some 4031) 4095).best = some b → b.1 ≤ 4095 :=
  ⟨by decide, by decide, fun b h => by cases h; decide⟩

/-- A track context in a state about a step, with reference score 500, low score 300 and probe offset 4. -/
def trackAt (st : TrackState) (step low : Nat) : TrackContext :=
  { step := step, reference := 500, state := st, lowCount := low, lowScore := some 300, restoreStep := 50, probeOffset := some 4
    moveDue := false }

/-- A suspended tracking run with a resume point, the lens in a state. -/
def trackPaused (l : LensState) : State :=
  having (fun d =>
    { d with
      focus := { d.focus with track := some (trackAt .steady 100 0) }
      scan := { d.scan with run := some { runAs .suspended (some .pause) with
        focus := .track, resume := some { position := 1000, state := .inGap } } } })
    (lens l 100 ready)

theorem witness_SearchScores_track :
    ((trackAt .steady 4095 0).probeOffset = some 4 ∧ (trackAt .steady 4095 0).moveDue = false ∧ 500 * 80 ≤ 100 * 400
      ∧ 100 * 399 < 500 * 80 ∧ (trackAt .steady 4095 0).lowCount = 0)
    ∧ ((trackAt .probeUp 4095 0).lowScore = some 300 ∧ (300 : Nat) < 301 ∧ (300 : Nat) ≤ 300 ∧ 4094 ≠ min (4095 + 4) 4095)
    ∧ ((trackAt .probeDown 3 0).state = .probeDown ∧ 1 ≠ 3 - 4) ∧ (trackAt .goBack 3 0).state = .goBack
    ∧ (∃ r q t, (trackPaused .idle).dev.scan.run = some r ∧ r.focus = .track ∧ r.resume = some q
      ∧ (trackPaused .idle).dev.focus.track = some t ∧ t.state ≠ .goBack ∧ (trackPaused .idle).dev.focus.lens.state = .idle
      ∧ t.restoreStep ≠ (trackPaused .idle).dev.focus.lens.step)
    ∧ (trackPaused .homing).dev.focus.lens.state = .homing ∧ (trackPaused .fault).dev.focus.lens.state = .fault
    ∧ (trackPaused .unhomed).dev.focus.lens.state = .unhomed :=
  ⟨by decide, by decide, by decide, rfl, ⟨_, _, trackAt .steady 100 0, rfl, rfl, rfl, rfl, by decide, rfl, by decide⟩, rfl, rfl, rfl⟩

/-- A run with the grant at rest, QUEUED under option TRACK with no context, its record rewritten. -/
def trackQueued (f : RunRecord → RunRecord) : State :=
  having (fun d => { d with scan := { d.scan with run := d.scan.run.map fun r => f { r with focus := .track } } })
    (withRun .queued none (moving .idle .scan ready))

/-- TRACK_LOST holds for the rest of the run: a later preparation makes no search, and the first one does (R102, R147). -/
theorem test_lost_track_is_not_searched :
    (startPreparation (trackQueued fun r => { r with trackLost := true }).dev).scan.run.map (·.prep) = some .scanOrder
      ∧ (startPreparation (trackQueued id).dev).scan.run.map (·.prep) = some .searchSeek := by decide

theorem witness_SearchScores_preparations :
    (∃ r, (trackQueued id).dev.scan.run = some r ∧ (trackQueued id).dev.transport.grant = .scan
      ∧ (trackQueued id).dev.transport.motion = .idle ∧ (trackQueued id).dev.inputs.driveReady = true ∧ r.started = false
      ∧ r.focus = .track ∧ (trackQueued id).dev.focus.track = none ∧ r.trackLost = false)
    ∧ (∃ r, (trackQueued fun r => { r with trackLost := true }).dev.scan.run = some r ∧ r.trackLost = true ∧ r.focus = .track) :=
  ⟨⟨_, rfl, rfl, rfl, rfl, rfl, rfl, rfl, rfl⟩, _, rfl, rfl, rfl⟩

/-- SCAN_START payloads: AT_POSITION at the lower limit, AT_FRAME 0 for 8,192 frames, CONTINUE until a position. -/
def scanAt : List Byte := [0, 0x80, 0x7B, 0xE1, 0xFF, 0, 0, 0, 0, 0, 1, 0, 0, 1, 0, 0]
def scanFrame : List Byte := [1, 0, 0, 0, 0, 1, 0, 0x20, 0, 0, 0xE8, 3, 0xFF, 0xFF, 0, 2]
def scanOn : List Byte := [2, 0, 0, 0, 0, 2, 0x00, 0xB4, 0xC4, 0x04, 10, 0, 0, 4, 0, 1]

/-- A focus code that is not NONE, listed or not, while the lens is UNHOMED or FAULT, and an import in progress. -/
theorem witness_ScanStartQueuesTheRun_refused :
    takes ready .capture (scanAt.set 14 4)
    ∧ (∀ code ∈ [(1 : Byte), 3, 4, 255], 16 ≤ (scanAt.set 14 code).length ∧ (scanRequestOf (scanAt.set 14 code)).focusCode ≠ 0)
    ∧ (lens .unhomed 0 ready).dev.focus.lens.state = .unhomed ∧ (lens .fault 0 ready).dev.focus.lens.state = .fault
    ∧ ({ reset.dev.index with session := some { declared := 1, received := [] } } : FrameIndex).session ≠ none :=
  ⟨⟨rfl, by decide⟩, by decide⟩

theorem witness_ScanStartQueuesTheRun :
    (takes reset .capture scanAt ∧ 16 ≤ scanAt.length ∧ reset.dev.roll.state ≠ .ready)
    ∧ runIn (withRun .ending none ready).dev [.queued, .preparing, .running, .suspending, .suspended, .ending] = true
    ∧ (takes ready .capture scanAt ∧ ready.dev.roll.state = .ready ∧ ready.dev.scan.run = none ∧ ready.dev.index.session = none
      ∧ (scanRequestOf scanAt).focusCode = 0 ∧ startModeOf (scanRequestOf scanAt) = some .atPosition
      ∧ endConditionOf (scanRequestOf scanAt) = some .untilRollEnd ∧ yieldPolicyOf (scanRequestOf scanAt).policyCode = some .noYield
      ∧ (scanRequestOf scanAt).speed = 1 ∧ (scanRequestOf scanAt).pitch = 256 ∧ leInt (scanRequestOf scanAt).startParam = -2000000
      ∧ -2000000 ≤ upperLimit ready.dev)
    ∧ (startModeOf (scanRequestOf scanFrame) = some (.atFrame 0) ∧ indexed.dev.index.entries[0]? = some entryA
      ∧ endConditionOf (scanRequestOf scanFrame) = some (.frameCount 8192) ∧ (scanRequestOf scanFrame).speed = 1000
      ∧ (scanRequestOf scanFrame).pitch = 65535)
    ∧ (startModeOf (scanRequestOf scanOn) = some .continue_ ∧ indexed.dev.index.entries.getLast? = some entryA
      ∧ endConditionOf (scanRequestOf scanOn) = some (.untilPosition 80000000)
      ∧ entryA.start + entryA.length < 80000000)
    ∧ ready.dev.index.entries = [] :=
  ⟨⟨⟨rfl, by decide⟩, by decide, by decide⟩, by decide,
    ⟨⟨rfl, by decide⟩, rfl, rfl, rfl, rfl, rfl, rfl, rfl, rfl, rfl, by decide, by decide⟩,
    ⟨rfl, rfl, rfl, rfl, rfl⟩, ⟨rfl, rfl, by decide, by decide⟩, rfl⟩

/-- A run under way with the grant: PREPARING, RUNNING or SUSPENDING at rest. -/
def runWithGrant (st : RunState) (cause : Option RunCause) : State := withRun st cause (moving .idle .scan ready)

theorem witness_RunsPauseResumeAndAbort_aborts :
    (takes ready .capture [] ∧ ready.dev.scan.run = none)
    ∧ (takes (runWithGrant .running none) .service [] ∧ PortId.service ≠ .request
      ∧ (runWithGrant .running none).dev.scan.run = some (runAs .running none) ∧ Settled (runWithGrant .running none).dev)
    ∧ takes (withRun .ending none jogging) .service [] ∧ takes (withRun .queued none (moving .jog .service ready)) .service [] :=
  ⟨⟨⟨rfl, by decide⟩, rfl⟩, ⟨⟨rfl, by decide⟩, by decide, rfl, ⟨rfl, rfl⟩⟩, ⟨rfl, by decide⟩, rfl, by decide⟩

theorem witness_RunsPauseResumeAndAbort :
    (takes (runWithGrant .running none) .capture [] ∧ (runWithGrant .running none).dev.scan.run = some (runAs .running none)
      ∧ Settled (runWithGrant .running none).dev)
    ∧ Settled (withRun .queued none (moving .jog .service ready)).dev ∧ Settled (runWithGrant .preparing none).dev
    ∧ Settled (runWithGrant .suspending (some .yield)).dev ∧ Settled (withRun .suspended (some .backlog) ready).dev
    ∧ Settled (withRun .suspended (some .fault) ready).dev ∧ Settled (withRun .suspended (some .pause) halted).dev
    ∧ Settled (withRun .ending none jogging).dev ∧ Settled (withRun .ended (some .complete) ready).dev
    ∧ halted.dev.transport.motion = .halted ∧ ready.dev.roll.state = .ready :=
  ⟨⟨⟨rfl, by decide⟩, rfl, ⟨rfl, rfl⟩⟩, ⟨rfl, rfl⟩, ⟨rfl, rfl⟩, ⟨rfl, rfl⟩, ⟨rfl, rfl⟩, ⟨rfl, rfl⟩, ⟨rfl, rfl⟩, ⟨rfl, rfl⟩, ⟨rfl, rfl⟩,
    rfl, rfl⟩

/-- The arm of a run under its SCAN order, with the run's record rewritten. -/
def scanAs (f : RunRecord → RunRecord) : State :=
  having (fun d => { d with scan := { d.scan with run := d.scan.run.map f } }) (scanArmed none 5)

theorem witness_RunsPauseResumeAndAbort_suspensions :
    (∃ r a, (scanAs fun r => { r with state := .suspending, cause := some .yield, endCondition := .frameCount 2 }).dev.scan.run = some r
      ∧ r.state = .suspending ∧ r.cause = some .yield ∧ (∀ k, r.endCondition = .frameCount k → r.framesClosed + 1 < k)
      ∧ (scanArmed none 5).dev.trigger.arm = some a ∧ a.mode = .scan ∧ (scanArmed none 5).dev.transport.grant = .scan
      ∧ (scanArmed none 5).dev.transport.motion = .scan ∧ (scanArmed none 5).dev.roll.pendingCorrection.getD 0 = 0)
    ∧ (∃ r q, (scanAs fun r => { r with boundary := some { position := 1250000, state := .inGap } }).dev.scan.run = some r
      ∧ r.state = .running ∧ r.boundary = some q ∧ (scanArmed none 5).dev.transport.motion ≠ .halted)
    ∧ (∃ r q, (scanAs fun r => { r with resume := some { position := 1249000, state := .inGap } }).dev.scan.run = some r
      ∧ r.boundary = none ∧ r.resume = some q)
    ∧ (∃ r, (scanArmed none 5).dev.scan.run = some r ∧ r.boundary = none ∧ r.resume = none) :=
  ⟨⟨_, _, rfl, rfl, rfl, fun k h => by cases h; decide, rfl, rfl, rfl, rfl, rfl⟩, ⟨_, _, rfl, rfl, rfl, by decide⟩,
    ⟨_, _, rfl, rfl, rfl⟩, _, rfl, rfl, rfl⟩

/-- A notice and a completion record. -/
def noticeA : Notice :=
  { run := 1, kind := .frame, frame := some 0, firstLine := 5, lastLine := 900, start := 100000, length := 9000
    address := { batch := 0, doc := 0, page := 1 }, markLevel := 1, focusStep := none, flags := {}, matchKind := .appended }
def completionOf (t : Nat) : Completion :=
  { ticket := t, result := .done, flags := { edge := none, recallReport := .neither, retried := false }, frame := some 0
    position := 104500, correction := 0, lensStep := 0 }

/-- Nine notices with the backlog set, and five completion records. -/
def full9 : State :=
  having (fun d =>
    { d with
      scan := { d.scan with notices := List.replicate 9 noticeA, backlog := true }
      retrieval := { d.retrieval with completions := [1, 2, 3, 4, 5].map completionOf } }) ready

theorem witness_QueuesAreReadOldestFirst :
    takes reset .capture [] ∧ reset.dev.scan.notices = [] ∧ takes full9 .capture []
      ∧ full9.dev.scan.notices = noticeA :: List.replicate 8 noticeA ∧ takes reset .request [] ∧ reset.dev.retrieval.completions = []
      ∧ takes full9 .request [] ∧ full9.dev.retrieval.completions ≠ [] :=
  ⟨⟨rfl, by decide⟩, rfl, ⟨rfl, by decide⟩, rfl, ⟨rfl, by decide⟩, rfl, ⟨rfl, by decide⟩, by decide⟩

/-- A run RUNNING to a frame count, with some frames closed and some notices queued. -/
def closing (count closed notices : Nat) : State :=
  having (fun d =>
    { d with scan := { d.scan with
      notices := List.replicate notices noticeA
      run := some { runAs .running none with endCondition := .frameCount count, framesClosed := closed } } }) ready

theorem witness_QueuesAreReadOldestFirst_closes :
    (∃ r, (closing 2 0 26).dev.scan.run = some r ∧ r.state = .running ∧ ¬ (∃ k, r.endCondition = .frameCount k ∧ k ≤ r.framesClosed + 1)
      ∧ (closing 2 0 26).dev.scan.backlog = false ∧ ¬ 28 ≤ (closing 2 0 26).dev.scan.notices.length + 1)
    ∧ 28 ≤ (closing 2 0 27).dev.scan.notices.length + 1
    ∧ (∃ r, (closing 2 1 0).dev.scan.run = some r ∧ ∃ k, r.endCondition = .frameCount k ∧ k ≤ r.framesClosed + 1)
    ∧ (closing 2 1 0).dev.scan.notices = [] ∧ (closing 2 0 26).dev.scan.notices ≠ [] :=
  ⟨⟨_, rfl, rfl, fun ⟨k, h, h'⟩ => by cases h; revert h'; decide, rfl, by decide⟩, by decide, ⟨_, rfl, 2, rfl, by decide⟩, rfl, by decide⟩

/-- A RETRIEVE of frame 0, URGENT, without options taken. -/
def retrieve0 : List Byte := [7, 0, 0, 0, 0, 0, 0, 0, 0, 0, 0, 0, 0]

/-- A queue of some requests and a completion list of some records, the ticket counter at its top. -/
def withQueue (n k : Nat) : State :=
  having (fun d =>
    { d with retrieval :=
      { d.retrieval with
        ticketCounter := 255
        queue := (List.range n).map fun j => { request3 with ticket := j + 1, state := .deferred, target := .frame 100 }
        completions := (List.range k).map fun j => completionOf (j + 100) } }) indexed

theorem witness_RetrieveIssuesAFreshTicket :
    (takes (withQueue 15 8) .request retrieve0 ∧ 12 ≤ retrieve0.length ∧ (withQueue 15 8).dev.roll.record = some roll7
      ∧ targetOf (natAt retrieve0 4 1) retrieve0 = some (.frame 0) ∧ requestClassOf (natAt retrieve0 11 1) = some .urgent
      ∧ targetOk (withQueue 15 8).dev (.frame 0) (optionsOf retrieve0).1 = true ∧ 1 ≤ (withQueue 15 8).dev.retrieval.ticketCounter
      ∧ (withQueue 15 8).dev.retrieval.ticketCounter ≤ 255 ∧ roll7.ident = natAt retrieve0 0 4
      ∧ (withQueue 15 8).dev.retrieval.queue.length < 16
      ∧ (withQueue 15 8).dev.retrieval.queue.length + (withQueue 15 8).dev.retrieval.completions.length < 24)
    ∧ (withQueue 16 0).dev.retrieval.queue.length = 16
    ∧ (withQueue 10 14).dev.retrieval.queue.length + (withQueue 10 14).dev.retrieval.completions.length = 24
    ∧ roll7.ident ≠ natAt (8 :: retrieve0.tail) 0 4 :=
  ⟨⟨⟨rfl, by decide⟩, by decide, rfl, rfl, rfl, rfl, by decide, by decide, rfl, by decide, by decide⟩, rfl, rfl, by decide⟩

theorem witness_RetrieveStartsItsSeek :
    takes indexed .request retrieve0 ∧ 13 ≤ retrieve0.length ∧ retrieve0[12]? = some 0 ∧ indexed.dev.roll.record = some roll7
      ∧ roll7.ident = natAt retrieve0 0 4 ∧ natAt retrieve0 4 1 = 0 ∧ natAt retrieve0 5 2 = 0
      ∧ requestClassOf (natAt retrieve0 11 1) = some .urgent ∧ indexed.dev.index.entries[0]? = some entryA
      ∧ indexed.dev.roll.datum = true ∧ indexed.dev.scan.run = none ∧ indexed.dev.retrieval.queue = []
      ∧ indexed.dev.retrieval.completions = [] ∧ indexed.dev.retrieval.hold = none ∧ indexed.dev.retrieval.attempt = none
      ∧ indexed.dev.retrieval.ticketCounter = 1 ∧ indexed.dev.transport.grant = .nobody ∧ indexed.dev.transport.motion = .idle
      ∧ indexed.dev.transport.tension = .hold ∧ indexed.dev.transport.current = none ∧ indexed.dev.transport.held = none
      ∧ indexed.dev.inputs.driveReady = true ∧ Settled indexed.dev :=
  ⟨⟨rfl, by decide⟩, by decide, rfl, rfl, rfl, rfl, rfl, rfl, rfl, rfl, rfl, rfl, rfl, rfl, rfl, rfl, rfl, rfl, rfl, rfl, rfl, rfl, ⟨rfl, rfl⟩⟩

/-- Two requests waiting at positions, the first with a bypass count, in a direction of travel. -/
def twoWaiting (bypass : Nat) (dir : Direction) (x y : Int) : State :=
  having (fun d =>
    { d with
      transport := { d.transport with lastDirection := dir }
      retrieval := { d.retrieval with queue :=
        [{ request3 with target := .position x, position := some x, frame := none, bypass := bypass },
          { request3 with ticket := 4, target := .position y, position := some y, frame := none }] } }) (at_ 104500 indexed)

/-- The ticket chosen. -/
def chosen (s : State) : Option Nat := (chooseRequest s.dev).map (·.ticket)

theorem witness_RetrieveStartsItsSeek_selection :
    chosen (twoWaiting 3 .forward 104500 104500) = some 3
      ∧ (let s := having (fun d => { d with retrieval := { d.retrieval with queue := d.retrieval.queue.map fun r => { r with bypass := 15 } } })
           (twoWaiting 4 .forward 4000 104500)
         chosen s = some 3 ∧ s.dev.retrieval.queue.all (fun r => decide (s.dev.retrieval.cfg.bypassLimit ≤ r.bypass)) = true)
      ∧ chosen (twoWaiting 3 .forward 104500 104499) = some 3 ∧ chosen (twoWaiting 3 .reverse 104501 104500) = some 4
      ∧ chosen (twoWaiting 3 .forward 104400 104499) = some 4 ∧ chosen (twoWaiting 4 .forward 4000 104500) = some 3 := by decide

/-- An index of eleven entries, the last with a stored step. -/
def elevenEntries (step : Option Nat) : State :=
  having (fun d => { d with index := { d.index with entries := List.replicate 10 entryA ++ [{ entryA with focusStep := step }] } }) indexed

theorem witness_RetrieveStartsItsSeek_recall :
    nearestStep (elevenEntries (some 4095)).dev 0 = some 4095 ∧ nearestStep (elevenEntries none).dev 0 = none := by decide

/-- An attempt that presents the request of ticket 3. -/
def attempt3 : Attempt :=
  { subject := .ticket 3, phase := .present, recallReport := .neither, edge := none, correction := 0, gap := 400, correctionWindow := 300
    matchWindow := 2000 }

/-- The request of ticket 3 in a state, waiting for a time. -/
def oneRequest (st : RequestState) (age : Nat) : State :=
  having (fun d =>
    { d with retrieval :=
      { d.retrieval with
        queue := [{ request3 with state := st, age := age }]
        cfg := { d.retrieval.cfg with deferralTimeout := 2 } } }) (moving .jog .service indexed)

/-- The request of ticket 3 ACTIVE, its seek under way. -/
def presenting : State :=
  having (fun d =>
    { d with
      retrieval := { d.retrieval with attempt := some attempt3 }
      transport :=
        { d.transport with
          motion := .seek, grant := .retrieval
          current := some
            { order := { owner := .retrieval, kind := .seek 104500 none }
              seek := some { target := 104500, distance := 104500, cap := 2500, limit := 3292, elapsed := 1, reversals := 0 }
              speed := 0, runPhase := false, baseReported := false } } }) (oneRequest .active 0)

theorem witness_WaitingRequestsLeaveWithOneRecord :
    (takes reset .request [3] ∧ 1 ≤ [(3 : Byte)].length ∧ ∀ q ∈ reset.dev.retrieval.queue, q.ticket ≠ natAt [3] 0 1)
    ∧ (takes (oneRequest .waiting 0) .request [3] ∧ requestOf (oneRequest .waiting 0).dev (natAt [3] 0 1) = some request3
      ∧ request3.state = .waiting)
    ∧ (takes presenting .request [3] ∧ requestOf presenting.dev (natAt [3] 0 1) = some { request3 with state := .active }
      ∧ presenting.dev.retrieval.attempt = some attempt3 ∧ attempt3.phase = .present ∧ presenting.dev.transport.grant = .retrieval
      ∧ presenting.dev.transport.motion = .seek ∧ presenting.dev.trigger.arm = none ∧ Settled presenting.dev)
    ∧ (requestOf (oneRequest .deferred 2000).dev 3 = some { request3 with state := .deferred, age := 2000 }
      ∧ (oneRequest .deferred 2000).dev.retrieval.cfg.deferralTimeout ≠ 0
      ∧ (oneRequest .deferred 2000).dev.retrieval.cfg.deferralTimeout * 1000 ≤ 2000)
    ∧ ¬ (oneRequest .deferred 1999).dev.retrieval.cfg.deferralTimeout * 1000 ≤ 1999 :=
  ⟨⟨⟨rfl, by decide⟩, by decide, by decide⟩, ⟨⟨rfl, by decide⟩, rfl, rfl⟩, ⟨⟨rfl, by decide⟩, rfl, rfl, rfl, rfl, rfl, rfl, ⟨rfl, rfl⟩⟩,
    ⟨rfl, by decide, by decide⟩, by decide⟩

/-- The request of ticket 3 ACTIVE, its attempt on, with the grant gone. -/
def failing (retried : Bool) : State :=
  having (fun d =>
    { d with retrieval :=
      { d.retrieval with queue := [{ request3 with state := .active, retried := retried }], attempt := some attempt3 } }) indexed

theorem witness_WaitingRequestsLeaveWithOneRecord_failures :
    (∃ r, (failing false).dev.retrieval.queue = [r] ∧ (failing false).dev.retrieval.attempt = some attempt3
      ∧ attempt3.subject = .ticket r.ticket ∧ requestOf (failing false).dev r.ticket = some r ∧ r.state = .active ∧ r.retried = false
      ∧ (failing false).dev.trigger.arm = none ∧ (failing false).dev.transport.grant = .nobody)
    ∧ (∃ r, (failing true).dev.retrieval.queue = [r] ∧ r.retried = true) := ⟨⟨_, rfl, rfl, rfl, rfl, rfl, rfl, rfl, rfl⟩, _, rfl, rfl⟩

/-- A confirmation under way for the request of ticket 3. -/
def confirming : State :=
  having (fun d =>
    { d with retrieval :=
      { d.retrieval with queue := [{ request3 with state := .active }], attempt := some { attempt3 with phase := .confirm } } })
    (moving .creep .retrieval indexed)

/-- The confirmation under its PROBE arm. -/
def confirmArmed : State :=
  having (fun d =>
    { d with trigger :=
      { d.trigger with
        arm := some { owner := .retrieval, mode := .probe, base := 98900, pitch := 1024, stopAt := none, index := 3 } } }) confirming

theorem witness_RetrieveStartsItsSeek_presents :
    (∃ w, confirmArmed.dev.trigger.arm = some w ∧ w.owner = .retrieval) ∧ confirmArmed.dev.roll.pendingCorrection = none
      ∧ confirmArmed.dev.transport.grant = .retrieval ∧ confirmArmed.dev.transport.motion = .creep
      ∧ confirmArmed.dev.inputs.driveReady = true ∧ ({ request3 with state := .active } : RetrievalRequest).position = some 104500 :=
  ⟨⟨_, rfl, rfl⟩, rfl, rfl, rfl, rfl, rfl⟩

theorem witness_RetrieveStartsItsSeek_confirms :
    ((moving .idle .retrieval indexed).dev.transport.grant = .retrieval ∧ (moving .idle .retrieval indexed).dev.inputs.driveReady = true
      ∧ (moving .idle .retrieval indexed).dev.index.entries[0]? = some entryA
      ∧ ({ request3 with confirmEdge := true } : RetrievalRequest).recallFocus = false)
    ∧ (∃ a r, confirming.dev.retrieval.attempt = some a ∧ a.subject = .ticket r.ticket ∧ a.phase = .confirm
      ∧ requestOf confirming.dev r.ticket = some r ∧ r.frame = some 0 ∧ confirming.dev.index.entries[0]? = some entryA
      ∧ confirming.dev.trigger.arm = none ∧ a.correctionWindow = confirming.dev.roll.cfg.correctionWindow
      ∧ a.correctionWindow ≤ a.matchWindow ∧ a.edge = none ∧ a.correction = 0
      ∧ (100300 - entryA.start).natAbs ≤ a.correctionWindow ∧ a.correctionWindow < (100301 - entryA.start).natAbs
      ∧ (102000 - entryA.start).natAbs ≤ a.matchWindow ∧ a.matchWindow < (102001 - entryA.start).natAbs) :=
  ⟨⟨rfl, rfl, rfl, rfl⟩, { attempt3 with phase := .confirm }, { request3 with state := .active }, rfl, rfl, rfl, rfl, rfl, rfl, rfl, rfl, by decide, rfl, rfl, by decide,
    by decide, by decide, by decide⟩

/-- A presentation hold with its timer at a value. -/
def holding (timer : Nat) : State :=
  having (fun d => { d with retrieval := { d.retrieval with hold := some { class_ := .normal, timer := timer, time := 5000 } } })
    (moving .idle .retrieval indexed)

theorem witness_HoldsEndAndReleaseTheGrant :
    (takes reset .request [] ∧ reset.dev.retrieval.hold = none)
    ∧ (holding 4999).dev.retrieval.hold = some { class_ := .normal, timer := 4999, time := 5000 }
    ∧ (takes (holding 5000) .request [] ∧ (holding 5000).dev.retrieval.hold = some { class_ := .normal, timer := 5000, time := 5000 }
      ∧ (holding 5000).dev.retrieval.queue = [] ∧ (holding 5000).dev.retrieval.attempt = none ∧ (holding 5000).dev.retrieval.hints = []
      ∧ (holding 5000).dev.scan.run = none ∧ (holding 5000).dev.trigger.arm = none ∧ (holding 5000).dev.transport.grant = .retrieval
      ∧ (holding 5000).dev.transport.motion = .idle ∧ (holding 5000).dev.transport.current = none
      ∧ (holding 5000).dev.transport.held = none ∧ Settled (holding 5000).dev) :=
  ⟨⟨⟨rfl, by decide⟩, rfl⟩, rfl, ⟨rfl, by decide⟩, rfl, rfl, rfl, rfl, rfl, rfl, rfl, rfl, rfl, rfl, ⟨rfl, rfl⟩⟩

theorem witness_HoldsEndAndReleaseTheGrant_presents :
    (let s := lens .moving 100 (failing false)
     s.dev.retrieval.attempt = some attempt3 ∧ s.dev.focus.lens.state = .moving ∧ s.dev.retrieval.cfg.holdTime ≠ 0)
    ∧ (let s := lens .idle 100 (failing false)
       s.dev.focus.lens.state ≠ .moving ∧ s.dev.retrieval.completions = []
         ∧ requestOf s.dev 3 = some { request3 with state := .active }) := by decide

theorem witness_HintsKeepTheNewestFour :
    takes reset .request [5, 0] ∧ 2 ≤ [(5 : Byte), 0].length ∧ [4, 3, 2, 1].Nodup ∧ [4, 3, 2, 1].length ≤ 4 ∧ 2 ∈ [4, 3, 2, 1]
      ∧ [3, 2, 1].length < 4 := ⟨⟨rfl, by decide⟩, by decide, by decide, by decide, by decide, by decide⟩

theorem witness_HintsKeepTheNewestFour_served :
    takes indexed .request [0, 0] ∧ natAt [0, 0] 0 2 = 0 ∧ indexed.dev.index.entries[0]? = some entryA ∧ indexed.dev.roll.datum = true
      ∧ indexed.dev.scan.run = none ∧ indexed.dev.retrieval.queue = [] ∧ indexed.dev.retrieval.hold = none
      ∧ indexed.dev.retrieval.attempt = none ∧ indexed.dev.transport.grant = .nobody ∧ indexed.dev.transport.motion = .idle
      ∧ indexed.dev.transport.tension = .hold ∧ indexed.dev.transport.current = none ∧ indexed.dev.transport.held = none
      ∧ indexed.dev.inputs.driveReady = true ∧ indexed.dev.focus.search = none ∧ Settled indexed.dev :=
  ⟨⟨rfl, by decide⟩, rfl, rfl, rfl, rfl, rfl, rfl, rfl, rfl, rfl, rfl, rfl, rfl, rfl, rfl, ⟨rfl, rfl⟩⟩

/-- The bytes of an imported entry (section 11.4), frame 0, as an INDEX_IMPORT_ENTRY of one entry carries it. -/
def importOne : List Byte := [1, 0, 0, 0xA0, 0x86, 0x01, 0x00, 0x28, 0x23, 0x00, 1, 0, 2, 0, 3, 0, 0x00, 0x50, 0, 0]

/-- An import under way, declared for some entries. -/
def importing (declared : Nat) (received : List IndexEntry) : State :=
  having (fun d => { d with index := { d.index with session := some { declared := declared, received := received } } }) ready

theorem witness_ImportBuildsTheIndex :
    (takes ready .service [7, 0, 0, 0, 0, 0x20] ∧ ready.dev.roll.record = some roll7 ∧ roll7.ident = natAt [7, 0, 0, 0, 0, 0x20] 0 4
      ∧ ready.dev.roll.state = .ready ∧ ready.dev.index.state = .empty ∧ ready.dev.scan.run = none
      ∧ natAt [7, 0, 0, 0, 0, 0x20] 4 2 = 8192)
    ∧ (takes (importing 1 []) .service importOne ∧ 20 ≤ importOne.length ∧ natAt importOne 0 1 = 1
      ∧ (importing 1 []).dev.index.session = some { declared := 1, received := [] }
      ∧ importEntryOk 1 [] (importedEntryOf (importOne.drop 1)) = true)
    ∧ importEntryOk 1 [entryA] (importedEntryOf (importOne.drop 1)) = false
    ∧ (takes (importing 1 [entryA]) .service [] ∧ (importing 1 [entryA]).dev.index.session = some { declared := 1, received := [entryA] }
      ∧ [entryA].length = 1 ∧ (importing 1 [entryA]).dev.index.state = .empty ∧ (importing 1 [entryA]).dev.retrieval.queue = []
      ∧ (importing 1 [entryA]).dev.retrieval.hints = [] ∧ Settled (importing 1 [entryA]).dev) :=
  ⟨⟨⟨rfl, by decide⟩, rfl, rfl, rfl, rfl, rfl, rfl⟩, ⟨⟨rfl, by decide⟩, by decide, rfl, rfl, by decide⟩, by decide,
    ⟨rfl, by decide⟩, rfl, rfl, rfl, rfl, rfl, ⟨rfl, rfl⟩⟩

/-- The bytes of the entry of frame 1 that follows the entry of frame 0 in `importOne`, and of one with the same frame number. -/
def nextEntry (frame : Byte) : List Byte := [frame, 0, 0xC9, 0xA9, 0x01, 0x00, 0x28, 0x23, 0x00, 1, 0, 2, 0, 3, 0, 0x00, 0x40, 0, 0]

theorem witness_ImportBuildsTheIndex_entries :
    (let p := (2 : Byte) :: importOne.tail ++ nextEntry 1
     let e := importedEntryOf (p.drop 1)
     let f := importedEntryOf (p.drop 20)
     takes (importing 2 []) .service p ∧ 39 ≤ p.length ∧ natAt p 0 1 = 2 ∧ importEntryOk 2 [] e = true
       ∧ importEntryOk 2 ([] ++ [e.entry]) f = true ∧ e.entry.start + e.entry.length < f.entry.start ∧ f.packed.testBit 14 = true)
    ∧ (let p := (2 : Byte) :: importOne.tail ++ nextEntry 2
       importEntryOk 2 ([] ++ [(importedEntryOf (p.drop 1)).entry]) (importedEntryOf (p.drop 20)) = false)
    ∧ (takes (importing 1 []) .service [3] ∧ natAt [0] 0 1 = 0 ∧ 2 < natAt [3] 0 1) :=
  ⟨⟨⟨rfl, by decide⟩, by decide, rfl, by decide, by decide, by decide, by decide⟩, by decide, ⟨rfl, by decide⟩, by decide, by decide⟩

/-- The index in a state. -/
def indexIs (st : IndexState) : State := having (fun d => { d with index := { d.index with state := st } }) indexed

theorem witness_IndexClosesAndReopens :
    (takes reset .service [] ∧ Settled reset.dev ∧ reset.dev.retrieval.queue = [] ∧ reset.dev.index.state = .empty)
    ∧ (takes (indexIs .closed) .service [] ∧ Settled (indexIs .closed).dev ∧ (indexIs .closed).dev.index.state = .closed
      ∧ (indexIs .closed).dev.roll.state ≠ .runout ∧ (indexIs .closed).dev.index.entries.length ≠ 8192
      ∧ (indexIs .closed).dev.retrieval.queue = [])
    ∧ (Settled (indexIs .open_).dev ∧ (indexIs .open_).dev.index.state = .open_)
    ∧ (Settled indexed.dev ∧ indexed.dev.index.state = .imported) :=
  ⟨⟨⟨rfl, by decide⟩, ⟨rfl, rfl⟩, rfl, rfl⟩, ⟨⟨rfl, by decide⟩, ⟨rfl, rfl⟩, rfl, by decide, by decide, rfl⟩, ⟨⟨rfl, rfl⟩, rfl⟩,
    ⟨⟨rfl, rfl⟩, rfl⟩⟩

theorem witness_ClampedItemsAreStored :
    ((reset.dev.ports.get .service).state = .idle ∧ 1 + configItemWidth (.transport .acceleration) ≤ (3 : Byte).toNat
      ∧ (3 : Byte).toNat ≤ 60 ∧ (3 : Byte).toNat ≤ 1 + [(0xFF : Byte), 0xFF].length ∧ reset.dev.transport.motion = .idle)
    ∧ ((halted.dev.ports.get .service).state = .idle ∧ halted.dev.transport.motion ≠ .idle ∧ halted.dev.transport.motion ≠ .parked)
    ∧ (1 + 4 ≤ (5 : Byte).toNat ∧ (5 : Byte).toNat ≤ 1 + [(1 : Byte), 0, 0, 0].length)
    ∧ (let cfg := setRollItem .matchWindow (max 100 (min 20000 200)) reset.dev.roll.cfg
       cfg.matchWindow < cfg.correctionWindow)
    ∧ (let cfg := setRollItem .matchWindow (max 100 (min 20000 300)) reset.dev.roll.cfg
       cfg.correctionWindow ≤ cfg.matchWindow ∧ reset.dev.roll.pendingCorrection = none) := by decide

theorem witness_ChosenItemsAreRefusedOrStored :
    ((reset.dev.ports.get .service).state = .idle ∧ (9 : Byte).toNat ≤ 60 ∧ 9 ≤ (9 : Byte).toNat ∧ 3 ≤ (3 : Byte).toNat
      ∧ 2 ≤ (2 : Byte).toNat ∧ (9 : Byte).toNat ≤ 1 + [(7 : Byte), 6, 5, 4, 3, 2, 1, 0xFF].length)
    ∧ (leNat ([(0x90 : Byte), 1].take 2) = 400 ∧ leNat ([(0x91 : Byte), 1].take 2) = 401)
    ∧ (combineModeOf (leNat ([(1 : Byte)].take 1)) = some .all ∧ 1 < leNat ([(2 : Byte)].take 1))
    ∧ runIn (withRun .suspended (some .pause) ready).dev [.queued, .preparing, .running, .suspending, .suspended] = true
    ∧ (runIn reset.dev [.queued, .preparing, .running, .suspending, .suspended] = false ∧ reset.dev.trigger.arm = none
      ∧ leNat ([(4 : Byte)].take 1) = 4 ∧ reset.dev.detector.activity ≠ .confirm)
    ∧ (reset.dev.detector.cfg.leaveNeg ≤ leNat ([(170 : Byte)].take 1) ∧ leNat ([(169 : Byte)].take 1) < reset.dev.detector.cfg.leaveNeg)
    ∧ tapMapOf ([(7 : Byte), 6, 5, 4, 3, 2, 1, 0xFF].take 8) ≠ none := by decide

theorem witness_ChosenItemsAreRefusedOrStored_map :
    (∃ a, confirmArmed.dev.trigger.arm = some a ∧ a.mode = .probe) ∧ (confirmArmed.dev.ports.get .service).state = .idle
      ∧ (∃ b ∈ [(0 : Byte), 1, 2, 3, 4, 5, 6, 8], 8 ≤ b.toNat ∧ b ≠ 0xFF)
      ∧ (∃ b ∈ [(0 : Byte), 1, 2, 3, 4, 5, 6, 0xFE], 8 ≤ b.toNat ∧ b ≠ 0xFF)
      ∧ (∀ b ∈ [(7 : Byte), 7, 0xFF, 0, 0xFF, 0xFF, 0xFF, 0xFF], b.toNat < 8 ∨ b = 0xFF)
      ∧ [(7 : Byte), 7, 0xFF, 0, 0xFF, 0xFF, 0xFF, 0xFF] ≠ List.replicate 8 0xFF
      ∧ leNat ([(0 : Byte)].take 1) < 1 ∧ 4 < leNat ([(5 : Byte)].take 1) :=
  ⟨⟨_, rfl, rfl⟩, rfl, by decide, by decide, by decide, by decide, by decide, by decide⟩

theorem witness_ChosenItemsAreRefusedOrStored_detector :
    (let c := reset.dev.detector.cfg
     1 + configItemWidth (.detector .maxMark) ≤ (5 : Byte).toNat ∧ (5 : Byte).toNat ≤ 1 + [(0xFF : Byte), 0xFF, 0xFF, 0xFF].length
       ∧ runIn reset.dev [.running, .suspending] = false ∧ c.l1Min = 300 ∧ 899 < c.l2Min ∧ c.l2Min ≤ 900 ∧ c.l1Min < 301
       ∧ 1799 < c.l3Min ∧ c.l2Min < 901 ∧ 4000 ≤ c.maxMark ∧ c.maxMark < 4001 ∧ c.l3Min ≤ 1800
       ∧ 200 ≤ c.enterNeg ∧ c.enterNeg < 201 ∧ 85 ≤ c.leavePos ∧ c.leavePos < 86 ∧ c.enterPos ≤ 55 ∧ 54 < c.enterPos)
    ∧ (let s := having (fun d => { d with detector := { d.detector with activity := .confirm } }) reset
       s.dev.detector.activity = .confirm)
    ∧ runIn (withRun .running none ready).dev [.running, .suspending] = true ∧ configItemOf 0xEE = none := by decide

theorem witness_RunoutRecordsTheTail_runs :
    (let s := withRun .suspended (some .pause) jogging
     s.dev.scan.run = some (runAs .suspended (some .pause)) ∧ Settled s.dev ∧ s.dev.trigger.arm = none)
    ∧ (let s := having (fun d => { d with detector := { d.detector with
           activity := .run
           openFrame := some { start := 1240000, firstLine := 2, monitorGap := false, lastLine := 4, lastPosition := 1249000 } } })
         (demand 141 (scanArmed none 5))
       s.dev.roll.filmPresent = true ∧ s.dev.roll.state = .ready ∧ 0 < s.dev.transport.demand ∧ s.dev.transport.motion = .scan
         ∧ s.dev.transport.grant = .scan ∧ s.dev.scan.run = some (runAs .running none) ∧ Settled s.dev
         ∧ s.dev.detector.openFrame.isSome = true ∧ s.dev.trigger.arm.isSome = true ∧ s.dev.roll.pendingCorrection = none)
    ∧ (let s := withRun .preparing none (moving .seek .scan (demand 50 ready))
       s.dev.scan.run = some (runAs .preparing none) ∧ Settled s.dev ∧ s.dev.transport.motion = .seek ∧ 0 < s.dev.transport.demand) :=
  ⟨⟨rfl, ⟨rfl, rfl⟩, rfl⟩, ⟨rfl, rfl, by decide, rfl, rfl, rfl, ⟨rfl, rfl⟩, rfl, rfl, rfl⟩, rfl, ⟨rfl, rfl⟩, rfl, by decide⟩

/-- A run RUNNING with an open mark at a position and the counter at another, and some pending marks. -/
def blipRun (open_ : Option Int) (x : Int) (n : Nat) : State :=
  having (fun d =>
    { d with detector :=
      { d.detector with openMark := open_, marks := (List.range n).map fun k => { position := k, level := some 1 } } })
    (at_ x (runWithGrant .running none))

theorem witness_MarksClassesAndAddresses :
    (reset.dev.detector.cfg.blipActive = .high ∧ runIn reset.dev [.running, .suspending] = false)
    ∧ ((blipRun none 1000 0).dev.detector.cfg.blipActive = .high ∧ runIn (blipRun none 1000 0).dev [.running, .suspending] = true
      ∧ (blipRun none 1000 0).dev.detector.openMark = none)
    ∧ ((blipRun (some 1000) 1299 0).dev.detector.openMark = some 1000
      ∧ (blipRun (some 1000) 1299 0).dev.metering.counter + (blipRun (some 1000) 1299 0).dev.detector.cfg.blipOffset - 1000
        < (blipRun (some 1000) 1299 0).dev.detector.cfg.l1Min)
    ∧ (let s := blipRun (some 1000) 1300 15
       let len := s.dev.metering.counter + s.dev.detector.cfg.blipOffset - 1000
       0 < len ∧ (s.dev.detector.cfg.l1Min : Int) ≤ len ∧ s.dev.detector.marks.length < 16 ∧ len < s.dev.detector.cfg.l2Min)
    ∧ (let s := blipRun (some 1000) 2799 0
       let len := s.dev.metering.counter + s.dev.detector.cfg.blipOffset - 1000
       (s.dev.detector.cfg.l2Min : Int) ≤ len ∧ len < s.dev.detector.cfg.l3Min)
    ∧ (let s := blipRun (some 1000) 5000 0
       let len := s.dev.metering.counter + s.dev.detector.cfg.blipOffset - 1000
       (s.dev.detector.cfg.l3Min : Int) ≤ len ∧ len ≤ s.dev.detector.cfg.maxMark)
    ∧ (let s := blipRun (some 1000) 5001 0
       let len := s.dev.metering.counter + s.dev.detector.cfg.blipOffset - 1000
       s.dev.detector.cfg.maxMark < len)
    ∧ 16 ≤ (blipRun (some 1000) 1300 16).dev.detector.marks.length
    ∧ (let marks : List Mark := [{ position := 1, level := some 1 }, { position := 5, level := none }]
       marks.Pairwise (fun a b => a.position ≤ b.position))
    ∧ (let a : Address := { batch := 65535, doc := 65535, page := 65535 }
       a.page = 65535 ∧ a.doc = 65535 ∧ a.batch ≤ 65535) := by decide

/-- A closed frame beyond entry A. -/
def frameBeyond : ClosedFrame :=
  { start := 200000, length := 9000, firstLine := 1, lastLine := 900, address := { batch := 1, doc := 2, page := 4 }, markLevel := 1
    focusStep := none, flags := {}, boundary := 209000, resumeState := .inGap }

theorem witness_AppendKeepsTheTableInOrder :
    (indexIs .open_).dev.index.entries.Pairwise (fun a b => a.stop ≤ b.start)
      ∧ (indexTakes 1 frameBeyond (indexIs .open_).dev).1.kind = .appended := by decide

theorem witness_AppendKeepsTheTableInOrder_matches :
    (matchEntry indexed.dev 102000 9000 = some (0, entryA) ∧ matchEntry indexed.dev 102001 9000 = none)
    ∧ ((detecting .inFrame none none).dev.trigger.arm = some lineArm
      ∧ (300 : Int).natAbs ≤ (detecting .inFrame none none).dev.roll.cfg.correctionWindow
      ∧ (detecting .inFrame none none).dev.roll.cfg.correctionWindow < (301 : Int).natAbs) := by decide

/-! ### Witnesses of the clauses on timers, lines, confirmation, the grant and the search -/

theorem witness_MillisecondSendsTheFrame :
    (∃ c c' k k', (seeking 201 4).dev.transport.current = some c ∧ c.seek = some k ∧ (profile (seeking 201 4).dev).transport.current = some c'
      ∧ c'.seek = some k' ∧ k'.reversals = 1 ∧ k'.elapsed = 8)
    ∧ (∃ c' k', (profile (seeking 201 5).dev).transport.current = some c' ∧ c'.seek = some k' ∧ k'.reversals = 0)
    ∧ (ready.dev.transport.motion = .idle ∧ parked.dev.transport.motion = .parked ∧ halted.dev.transport.motion = .halted
      ∧ (retensioning 0 none .nobody).dev.transport.motion = .retensioning)
    ∧ (ready.dev.transport.grant = .nobody ∧ ready.dev.roll.state ≠ .noRoll ∧ jogging.dev.transport.motion ≠ .idle) :=
  ⟨⟨_, _, _, _, rfl, rfl, rfl, rfl, rfl, rfl⟩, ⟨_, _, rfl, rfl, rfl⟩, ⟨rfl, rfl, rfl, rfl⟩, rfl, by decide, by decide⟩

/-- Frame detection in an activity, a frame open with a window of 64 lines of which some are counted. -/
def windowed (act : DetectorActivity) (count : Nat) (score : Option Nat) : State :=
  having (fun d =>
    { d with
      detector := { d.detector with activity := act }
      focus := { d.focus with frameWindow := some { window := { length := 64, count := count, sumF := 0, sumL := 0 }, score := score } } })
    (lens .idle 100 (detecting .inFrame none (some 499613)))

theorem witness_LinesAndTheirStatistics_handed :
    (∃ seg, (expecting 63).dev.lines.expected = some seg ∧ 63 ≤ seg.bytes.length)
    ∧ ((windowed .run 62 none).dev.trigger.arm = some lineArm ∧ (windowed .run 62 none).dev.detector.activity = .run
      ∧ (windowed .confirm 62 none).dev.detector.activity = .confirm ∧ (windowed .idle 62 none).dev.detector.activity = .idle
      ∧ ready.dev.trigger.arm = none ∧ ready.dev.focus.search = none)
    ∧ (∃ f w st, (windowed .run 62 none).dev.detector.openFrame = some f ∧ (windowed .run 62 none).dev.focus.frameWindow = some w
      ∧ w.score = none ∧ (lineAt 500010 (some 200)).stats = some st ∧ st.counted = true
      ∧ (windowed .run 62 none).dev.focus.lens.state = .idle ∧ ¬ w.window.length ≤ w.window.count + 1)
    ∧ (∃ w, (windowed .run 63 none).dev.focus.frameWindow = some w ∧ w.window.length ≤ w.window.count + 1)
    ∧ (∃ w, (windowed .run 64 (some 0)).dev.focus.frameWindow = some w ∧ w.score ≠ none)
    ∧ ((lineAt 500010 none).stats = none ∧ (detecting .inFrame none none).dev.detector.openFrame = none) :=
  ⟨⟨_, rfl, by decide⟩, ⟨rfl, rfl, rfl, rfl, rfl, rfl⟩, ⟨_, _, _, rfl, rfl, rfl, rfl, rfl, rfl, by decide⟩, ⟨_, rfl, by decide⟩,
    ⟨_, rfl, by decide⟩, rfl, rfl⟩

/-- A scan order whose base is not yet reported, at a position. -/
def baseAhead (x : Int) : State :=
  having (fun d =>
    { d with
      metering := { d.metering with counter := x }
      transport := { d.transport with current := d.transport.current.map fun c => { c with baseReported := false } } })
    (scanArmed none 5)

/-- A search that began at 0, at a position. -/
def searchAt (x : Int) : State :=
  having (fun d => { d with focus := { d.focus with search := some (searching .coarseUp none 0 0 none 2000) } }) (at_ x ready)

theorem witness_LinesAndTheirStatistics_counts :
    (phaseIndex true false + 4 - phaseIndex ready.dev.metering.phaseA ready.dev.metering.phaseB) % 4 = 1
    ∧ max (-2147483648) (min 2147483647 ((2147483647 : Int) + 1)) = 2147483647
    ∧ ((checkBase (baseAhead 1250000).dev).inbox = [.baseReached] ∧ checkBase (baseAhead 1249999).dev = (baseAhead 1249999).dev)
    ∧ (∃ a e, (scanArmed (some 1249999) 5).dev.trigger.arm = some a ∧ e ∈ a.stopAt ∧ e ≤ (scanArmed (some 1249999) 5).dev.metering.counter)
    ∧ (∃ a, (scanArmed (some 1250000) 5).dev.trigger.arm = some a ∧ (∀ e ∈ a.stopAt, ¬ e ≤ (scanArmed (some 1250000) 5).dev.metering.counter)
      ∧ (scanArmed (some 1250000) 5).dev.metering.counter < nextPosition a)
    ∧ (∃ a, (at_ 1250000 (scanArmed none 4294967295)).dev.trigger.arm = some a ∧ a.stopAt = none ∧ a.mode = .scan
      ∧ nextPosition a ≤ (at_ 1250000 (scanArmed none 4294967295)).dev.metering.counter
      ∧ (at_ 1250000 (scanArmed none 4294967295)).dev.trigger.lineCounter = 4294967295
      ∧ (at_ 1250000 (scanArmed none 4294967294)).dev.trigger.lineCounter ≠ 4294967295)
    ∧ (∃ k, (searchAt 16000).dev.focus.search = some k ∧ k.start = 0)
    ∧ (let far := ((searchAt 0).dev.focus.cfg.searchTravel : Int)
       (far : Int) ≤ (searchAt far).dev.metering.counter ∧ ¬ far ≤ (searchAt (far - 1)).dev.metering.counter) :=
  ⟨by decide, by decide, by decide, ⟨_, _, rfl, rfl, by decide⟩, ⟨_, rfl, fun e h => by cases h; decide, by decide⟩,
    ⟨_, rfl, rfl, rfl, by decide, rfl, by decide⟩, ⟨_, rfl, rfl⟩, by decide⟩

/-- An approach that ends at rest, under the grant. -/
def approached : State :=
  having (fun d => { d with retrieval := { d.retrieval with attempt := some { attempt3 with phase := .approach } } })
    (moving .idle .retrieval indexed)

theorem witness_LinesAndTheirStatistics_confirms :
    (let d := (detecting .inGap (some 499613) none).dev
     classify .negative d.detector.cfg .gapLike (some 169) = .imageLike ∧ classify .negative d.detector.cfg .gapLike (some 170) = .gapLike
       ∧ classify .negative d.detector.cfg .imageLike none = .imageLike
       ∧ 256 * (500010 - 499613) + 903 ≥ 256 * (d.detector.cfg.minGap : Int)
       ∧ ¬ 256 * (500010 - 499614) + 903 ≥ 256 * (d.detector.cfg.minGap : Int) ∧ d.detector.gapState = .inGap)
    ∧ (detecting .unknown none none).dev.detector.gapState ≠ .inGap
    ∧ (approached.dev.retrieval.attempt = some { attempt3 with phase := .approach } ∧ approached.dev.transport.grant = .retrieval
      ∧ approached.dev.transport.motion = .idle ∧ approached.dev.trigger.arm = none ∧ approached.dev.inputs.driveReady = true
      ∧ approached.dev.metering.counter < upperLimit approached.dev) := by decide

/-- A PREPARING run under its arm at BASE_REACHED, over an index of two entries, its record rewritten. -/
def baseReached (f : RunRecord → RunRecord) : State :=
  having (fun d =>
    { d with index := { d.index with entries := [entryA, { entryA with start := 120000, address := { batch := 2, doc := 1, page := 1 } }] } })
    (scanAs fun r => f { r with state := .preparing })

theorem witness_LinesAndTheirStatistics_starts :
    (∃ r, (baseReached id).dev.scan.run = some r ∧ r.state = .preparing ∧ (baseReached id).dev.trigger.arm ≠ none ∧ r.started = false
      ∧ r.startMode = .atPosition ∧ (∀ e : IndexEntry, e ∈ (baseReached id).dev.index.entries → r.base ≤ e.start))
    ∧ (∃ r, (baseReached fun r => { r with started := true }).dev.scan.run = some r ∧ r.started = true)
    ∧ (∃ r e, (baseReached fun r => { r with base := 100001 }).dev.scan.run = some r ∧ r.startMode = .atPosition
      ∧ (baseReached fun r => { r with base := 100001 }).dev.index.entries[0]? = some e ∧ e.start < r.base)
    ∧ (∃ r e, (baseReached fun r => { r with startMode := .atFrame 2 }).dev.scan.run = some r ∧ r.startMode = .atFrame (1 + 1)
      ∧ (baseReached id).dev.index.entries[1]? = some e)
    ∧ (takeReport .baseReached (baseReached fun r => { r with startMode := .continue_ }).dev).detector.counters
      = { batch := 2, doc := 1, page := 1 }
    ∧ (takeReport .baseReached (baseReached fun r => { r with base := 120000 }).dev).detector.counters = entryA.address
    ∧ (withRun .preparing none ready).dev.trigger.arm = none ∧ (withRun .preparing none ready).dev.index.entries = [] :=
  ⟨⟨_, rfl, rfl, by decide, rfl, rfl, by decide⟩, ⟨_, rfl, rfl⟩, ⟨_, _, rfl, rfl, rfl, by decide⟩, ⟨_, _, rfl, rfl, rfl⟩, by decide,
    by decide, rfl, rfl⟩

theorem witness_AppendKeepsTheTableInOrder_placed :
    (indexed.dev.index.entries.getLast? = some entryA ∧ matchEntry indexed.dev 109000 10 = none ∧ entryA.start + entryA.length = 109000
      ∧ matchEntry indexed.dev 109001 10 = none)
    ∧ ((indexIs .closed).dev.index.state = .closed ∧ (indexIs .open_).dev.index.state ≠ .closed)
    ∧ (matchEntry indexed.dev frameBeyond.start frameBeyond.length = none ∧ ready.dev.index.entries = []
      ∧ matchEntry ready.dev frameBeyond.start frameBeyond.length = none)
    ∧ ((indexTakes 1 { frameBeyond with address := entryA.address } indexed.dev).1.kind = .appended
      ∧ (indexTakes 1 { frameBeyond with address := { entryA.address with page := 2 } } indexed.dev).1.kind = .notAppended
      ∧ (indexTakes 1 frameBeyond (indexIs .closed).dev).1.kind = .unindexed
      ∧ (indexTakes 1 { frameBeyond with start := 109000, length := 10 } indexed.dev).1.kind = .unmatched) := by decide

theorem witness_RecordsReadBack_checks :
    (23 ≤ (slotRecordBytes slotHigh).length ∧ (slotRecordOf (slotRecordBytes slotHigh)).isSome = true)
    ∧ ((slotRecordOf (slotRecordBytes { slotHigh with busAddress := 128 })).isNone = true
      ∧ (slotRecordOf (slotRecordBytes { slotHigh with period := 9 })).isNone = true
      ∧ (slotRecordOf (slotRecordBytes { slotHigh with pairCount := 65 })).isNone = true
      ∧ (slotRecordOf (slotRecordBytes { slotHigh with preInitWait := 2551 })).isNone = true
      ∧ (slotRecordOf (slotRecordBytes { slotHigh with retries := 4 })).isNone = true
      ∧ (slotRecordOf (slotRecordBytes { slotHigh with overPattern := 0x8000 })).isNone = true
      ∧ (slotRecordOf (slotRecordBytes { slotLow with dataType := .u8, overPattern := 256 })).isNone = true
      ∧ (slotRecordOf (slotRecordBytes { slotHigh with action := .mark })).isNone = true) := by decide

theorem witness_SlotConfigStartsTheSlot_numbers :
    (takes reset .service (4 :: slotRecordBytes slotHigh) ∧ 24 ≤ (4 :: slotRecordBytes slotHigh).length
      ∧ 3 < natAt (4 :: slotRecordBytes slotHigh) 0 1)
    ∧ 1 < natAt (2 :: 2 :: (slotRecordBytes slotHigh).drop 1) 1 1 := ⟨⟨⟨rfl, by decide⟩, by decide, by decide⟩, by decide⟩

theorem witness_ReadsAnswerFromState_samples :
    ((slot2As .polling slotLow).dev.guard.get 2).lastSample = none
      ∧ ({ (slot2As .polling slotLow).dev.guard.get 2 with lastSample := some (-2) } : GuardSlot).lastSample = some (-2) := by decide

theorem witness_RetrieveStartsItsSeek_grants :
    (grantFree (twoWaiting 0 .forward 4000 5000).dev = true ∧ anyEligible (twoWaiting 0 .forward 4000 5000).dev = true
      ∧ anyUrgent (twoWaiting 0 .forward 4000 5000).dev = false ∧ scanClaim (twoWaiting 0 .forward 4000 5000).dev = false)
    ∧ (let urgent := having (fun d => { d with retrieval := { d.retrieval with queue := d.retrieval.queue.map fun r => { r with class_ := .urgent } } })
         (twoWaiting 0 .forward 4000 5000)
       anyUrgent urgent.dev = true ∧ grantFree urgent.dev = true)
    ∧ (scanClaim (withRun .queued none ready).dev = true ∧ grantFree (withRun .queued none ready).dev = true
      ∧ anyEligible (withRun .queued none ready).dev = false)
    ∧ (let hinted := having (fun d => { d with retrieval := { d.retrieval with hints := [0] } }) indexed
       hintClaim hinted.dev = true ∧ anyEligible hinted.dev = false ∧ scanClaim hinted.dev = false)
    ∧ (grantFree ready.dev = true ∧ hintClaim ready.dev = false) ∧ grantFree jogging.dev = false
    ∧ (parked.dev.transport.tension = .release ∧ ready.dev.transport.tension = .hold) := by decide

theorem witness_RetrieveStartsItsSeek_reactions :
    (∃ t, reaction (withRun .queued none ready).dev = some t ∧ (withRun .queued none ready).dev.inbox = []
      ∧ runReaction (withRun .queued none ready).dev = none ∧ retrievalReaction (withRun .queued none ready).dev = none
      ∧ (withRun .queued none ready).dev.transport.releasePending = false)
    ∧ reaction ready.dev = none
    ∧ (having (fun d => { d with inbox := [.baseReached] }) ready).dev.inbox = [.baseReached]
    ∧ (let due := having (fun d => { d with transport := { d.transport with releasePending := true } }) ready
       due.dev.transport.releasePending = true ∧ atRest due.dev = true ∧ due.dev.inbox = []) :=
  ⟨⟨_, rfl, rfl, rfl, rfl, rfl⟩, rfl, rfl, rfl, rfl, rfl⟩

theorem witness_RunsPauseResumeAndAbort_yields :
    (let yielding := fun (st : RunState) (p : YieldPolicy) =>
       having (fun d => { d with scan := { d.scan with run := some { runAs st none with policy := p } } }) (twoWaiting 0 .forward 4000 5000)
     (runReaction (yielding .running .yieldAll).dev).isSome = true ∧ (runReaction (yielding .preparing .yieldAll).dev).isSome = true
       ∧ runReaction (yielding .running .yieldUrgent).dev = none ∧ runReaction (yielding .preparing .noYield).dev = none
       ∧ (∃ q ∈ (yielding .running .yieldAll).dev.retrieval.queue, q.state = .waiting) ∧ (yielding .running .yieldAll).dev.roll.datum = true
       ∧ (yielding .preparing .yieldAll).dev.roll.pendingCorrection = none ∧ (yielding .preparing .yieldAll).dev.inbox = []
       ∧ runReaction (yielding .suspending .yieldAll).dev = none) := by decide

theorem witness_HintsKeepTheNewestFour_abandons :
    (let h := having (fun d => { d with retrieval := { d.retrieval with attempt := some { attempt3 with subject := .hint 0, phase := .hintSeek } } })
       (moving .seek .retrieval (twoWaiting 0 .forward 4000 5000))
     h.dev.retrieval.hold = none ∧ anyEligible h.dev = true ∧ anyUrgent h.dev = false ∧ scanClaim h.dev = false
       ∧ h.dev.transport.grant = .retrieval)
    ∧ (anyEligible (withRun .queued none ready).dev = false ∧ scanClaim (withRun .queued none ready).dev = true)
    ∧ ready.dev.transport.grant ≠ .retrieval ∧ OrderOutcome.arrived ≠ .failed .halted := by decide

theorem witness_SearchScores_candidates :
    ((takeProbe (searching .coarseUp none 0 0 none 4031) 10).2 = some 4095
      ∧ (takeProbe (searching .coarseUp none 0 0 none 4095) 10).2 = some 1936)
    ∧ (takeProbe (searching .coarseUp (some (2000, 10)) 0 1 (some 2000) 2064) 10).2 = some 1936
    ∧ ((takeProbe { searching .coarseUp (some (4095, 10)) 0 1 (some 2000) 0 with startStep := 64 } 10).1.phase = .fine)
    ∧ ((takeProbe (searching .coarseDown (some (2000, 10)) 0 2 (some 2064) 64) 11).2 = some 0
      ∧ (takeProbe (searching .coarseDown (some (2000, 10)) 0 2 (some 64) 0) 11).2 = some 16)
    ∧ ((takeProbe (searching .fine (some (2000, 10)) 16 4 none 1984) 10).2 = some 2016
      ∧ (takeProbe (searching .fine (some (4095, 10)) 16 4 none 4079) 10).2 = some 4087
      ∧ (takeProbe (searching .fine (some (2000, 10)) 1 4 none 2001) 10).2 = none
      ∧ (takeProbe (searching .fine (some (2000, 10)) 16 4 none 2016) 11).2 = some 2000) := by decide

theorem witness_SearchScores_lines :
    (let probing := fun (count probes : Nat) =>
       let k : SearchRecord :=
         { searching .coarseUp none 0 probes none 2000 with window := some { length := 64, count := count, sumF := 0, sumL := 0 } }
       having (fun d => { d with focus := { d.focus with search := some k } }) (lens .idle 2000 ready)
     (∀ n ∈ [62, 63], ∃ k ∈ (probing n 0).dev.focus.search, ∃ w ∈ k.window, w.count = n ∧ w.length = 64)
       ∧ (probing 63 63).dev.focus.lens.state = .idle
       ∧ (takeProbe (searching .coarseUp none 0 63 none 2000) 5).1.probes = 64
       ∧ (takeProbe (searching .coarseUp none 0 62 none 2000) 5).1.probes = 63)
    ∧ (∃ st ∈ (lineAt 500010 (some 200)).stats, st.counted = true)
    ∧ ((lens .idle 2000 ready).dev.focus.lens.step = 2000 ∧ (lens .unhomed 2000 ready).dev.focus.lens.state = .unhomed
      ∧ (lens .moving 2000 ready).dev.focus.lens.state ≠ .idle) := by decide

theorem witness_StepsKeepTheDeviceWellKept : wellKept ready.dev ∧ step { ready with pending := [.splicePulse] } = .next ready := by
  refine ⟨⟨rfl, by decide, rfl, by decide, by decide, by decide, by decide, by decide, fun id => ?_⟩, rfl⟩
  cases id <;> exact ⟨by decide, by decide, by decide⟩

theorem witness_ConfigurationChangesOnlyByItsWrites :
    writesConfiguration .splicePulse = false ∧ exec .splicePulse ready = .next ready := ⟨rfl, rfl⟩

end Sys2Proof.Tests
end

/-! What an operation keeps: the well-kept device and the configuration, with one rule per update of a block (O59, O60). -/

namespace Sys2Proof.Proofs

open Sys2Proof Sys2Proof.Machine

/-- The device `e` that a command makes of `d` is well kept whenever `d` is, and it holds the configuration of `d`. -/
structure WellKeeps (d e : Dev) : Prop where
  wellKept : Machine.wellKept d → Machine.wellKept e
  configuration : Machine.configuration e = Machine.configuration d

/-- What only a millisecond, an encoder phase and an encoder fault change: the timebase, and the metering but for its counter. -/
def encoderClock (d : Dev) : Nat × Bool × Bool × Bool × Nat :=
  (d.time, d.metering.phaseA, d.metering.phaseB, d.metering.unsettled, d.metering.settledAt)

/-- An operation inside a step makes `e` of `d`: it keeps what a command keeps, and the encoder's clock besides. -/
structure Keeps (d e : Dev) : Prop where
  wellKept : Machine.wellKept d → Machine.wellKept e
  configuration : Machine.configuration e = Machine.configuration d
  clock : encoderClock e = encoderClock d

section
variable {d e f : Dev}

theorem WellKeeps.trans (h : WellKeeps d e) (h' : WellKeeps e f) : WellKeeps d f :=
  ⟨fun w => h'.wellKept (h.wellKept w), h'.configuration.trans h.configuration⟩

theorem Keeps.weaken (h : Keeps d e) : WellKeeps d e := ⟨h.wellKept, h.configuration⟩

theorem Keeps.refl (d : Dev) : Keeps d d := ⟨id, rfl, rfl⟩

theorem Keeps.trans (h : Keeps d e) (h' : Keeps e f) : Keeps d f :=
  ⟨fun w => h'.wellKept (h.wellKept w), h'.configuration.trans h.configuration, h'.clock.trans h.clock⟩

theorem Keeps.ite {p : Prop} [Decidable p] (he : Keeps d e) (hf : Keeps d f) : Keeps d (if p then e else f) := by
  split
  · exact he
  · exact hf

/-- An operation that is done under a condition only. -/
theorem Keeps.step_if {p : Prop} [Decidable p] (hf : Keeps e f) (he : Keeps d e) : Keeps d (if p then f else e) :=
  .ite (he.trans hf) he

/-- An operation that is left out under a condition. -/
theorem Keeps.step_unless {p : Prop} [Decidable p] (hf : Keeps e f) (he : Keeps d e) : Keeps d (if p then e else f) :=
  .ite he (he.trans hf)

theorem Keeps.snd_ite {α : Type} {p : Prop} [Decidable p] {x y : α × Dev} (hx : Keeps d x.2) (hy : Keeps d y.2) :
    Keeps d (if p then x else y).2 := by
  split
  · exact hx
  · exact hy

theorem Keeps.of_ite_some {p : Prop} [Decidable p] {g : Dev} (hr : (if p then some g else none) = some f) (h : Keeps d g) :
    Keeps d f := by
  split at hr
  · exact Option.some.inj hr ▸ h
  · contradiction

/-! ### Updates of one block -/

theorem setInbox_keeps {x : List Report} (h : Keeps d e) : Keeps d (e.setInbox x) := ⟨h.1, h.2, h.3⟩
theorem setInputs_keeps {x : Inputs} (h : Keeps d e) : Keeps d (e.setInputs x) := ⟨h.1, h.2, h.3⟩
theorem setIndex_keeps {x : FrameIndex} (h : Keeps d e) : Keeps d (e.setIndex x) := ⟨h.1, h.2, h.3⟩
theorem setTrigger_keeps {x : Trigger} (h : Keeps d e) : Keeps d (e.setTrigger x) := ⟨h.1, h.2, h.3⟩

theorem setTransport_keeps {x : Transport} (hx : x.cfg = e.transport.cfg) (h : Keeps d e) :
    Keeps d (e.setTransport x) :=
  h.trans ⟨id, by simp [configuration, hx], rfl⟩

theorem setFocus_keeps {x : Focus} (hx : x.cfg = e.focus.cfg) (h : Keeps d e) : Keeps d (e.setFocus x) :=
  h.trans ⟨id, by simp [configuration, hx], rfl⟩

theorem setLines_keeps {x : Lines}
    (hx : (x.maxRate, x.tapMap, x.stride) = (e.lines.maxRate, e.lines.tapMap, e.lines.stride)) (h : Keeps d e) :
    Keeps d (e.setLines x) := by
  obtain ⟨hr, hm, hs⟩ : x.maxRate = e.lines.maxRate ∧ x.tapMap = e.lines.tapMap ∧ x.stride = e.lines.stride := by simpa using hx
  exact h.trans ⟨id, by simp [configuration, hr, hm, hs], rfl⟩

/-- The counter set to a signed 32-bit number. -/
theorem setCounter_keeps {p : Int} (hp : Config.minPosition ≤ p ∧ p ≤ Config.maxPosition) (h : Keeps d e) :
    Keeps d (e.setMetering { e.metering with counter := p }) :=
  h.trans ⟨fun ⟨hs, _, hrest⟩ => ⟨hs, hp, hrest⟩, rfl, rfl⟩

/-- The roll context changed outside its state and datum, with no more splices. -/
theorem setRoll_keeps {x : RollContext} (hx : (x.state, x.datum, x.cfg) = (e.roll.state, e.roll.datum, e.roll.cfg))
    (hl : x.splices.length ≤ e.roll.splices.length) (h : Keeps d e) : Keeps d (e.setRoll x) := by
  obtain ⟨hs, hd, hc⟩ : x.state = e.roll.state ∧ x.datum = e.roll.datum ∧ x.cfg = e.roll.cfg := by simpa using hx
  refine h.trans ⟨fun ⟨hm, hp, hr, hsp, hrest⟩ => ⟨hm, hp, ?_, le_trans hl hsp, hrest⟩, by simp [configuration, hc], rfl⟩
  simpa [hs, hd] using hr

/-- The detector changed outside its configuration, with no more pending marks. -/
theorem setDetector_keeps {x : Detector} (hx : x.cfg = e.detector.cfg)
    (hm : x.marks.length ≤ e.detector.marks.length) (h : Keeps d e) : Keeps d (e.setDetector x) :=
  h.trans ⟨fun ⟨hs, hp, hr, hsp, hmk, hrest⟩ => ⟨hs, hp, hr, hsp, le_trans hm hmk, hrest⟩, by simp [configuration, hx], rfl⟩

/-- The scan run controller changed outside its run counter. -/
theorem setScan_keeps {x : ScanControl} (hx : x.runCounter = e.scan.runCounter) (h : Keeps d e) :
    Keeps d (e.setScan x) := by
  refine h.trans ⟨fun w => ?_, rfl, rfl⟩
  simpa [wellKept, hx] using w

/-- The retrieval scheduler changed outside its configuration and ticket counter, with no more hints. -/
theorem setRetrieval_keeps {x : Retrieval} (hx : (x.cfg, x.ticketCounter) = (e.retrieval.cfg, e.retrieval.ticketCounter))
    (hh : x.hints.length ≤ e.retrieval.hints.length) (h : Keeps d e) : Keeps d (e.setRetrieval x) := by
  obtain ⟨hc, ht⟩ : x.cfg = e.retrieval.cfg ∧ x.ticketCounter = e.retrieval.ticketCounter := by simpa using hx
  refine h.trans ⟨fun ⟨hs, hp, hr, hsp, hmk, hhn, hrun, htk, hports⟩ => ?_, by simp [configuration, hc], rfl⟩
  exact ⟨hs, hp, hr, hsp, hmk, le_trans hh hhn, hrun, by simpa [ht] using htk, hports⟩

/-- What CONFIG_WRITE, SLOT_CONFIG and SCRIPT_WRITE write in the guard unit. -/
def guardConfiguration (g : Guard) : List Host.Cell × Nat × CombineMode × List SlotRecord :=
  (g.script, g.busSpeed, g.combineMode, g.slots.map (·.record))

theorem setGuard_keeps {x : Guard} (hx : guardConfiguration x = guardConfiguration e.guard) (h : Keeps d e) :
    Keeps d (e.setGuard x) := by
  obtain ⟨hs, hb, hc, h0, h1, h2, h3⟩ : x.script = e.guard.script ∧ x.busSpeed = e.guard.busSpeed
      ∧ x.combineMode = e.guard.combineMode ∧ x.slot0.record = e.guard.slot0.record ∧ x.slot1.record = e.guard.slot1.record
      ∧ x.slot2.record = e.guard.slot2.record ∧ x.slot3.record = e.guard.slot3.record := by
    simpa [guardConfiguration, Guard.slots] using hx
  exact h.trans ⟨fun w => by simpa [wellKept, hs] using w, by simp [configuration, hs, hb, hc, h0, h1, h2, h3], rfl⟩

/-- One port replaced by a port that is kept in its place. -/
theorem setPort_keeps {id : PortId} {p : Port} (h : Keeps d e) (hp : portKept id (e.ports.get id) → portKept id p) :
    Keeps d (setPort id p e) := by
  refine h.trans ⟨fun ⟨hs, hc, hr, hsp, hmk, hhn, hrun, htk, hports⟩ => ⟨hs, hc, hr, hsp, hmk, hhn, hrun, htk, ?_⟩, rfl, rfl⟩
  intro other
  by_cases ho : other = id
  · subst ho
    simpa [setPort] using hp (hports other)
  · simpa [setPort, Ports.get_put_other _ _ ho] using hports other

/-! ### Events, reports and the run record -/

/-- Flags within a port's list stay within it when flags of the list are added. -/
theorem flags_within_or {a b k : BitVec 16} (ha : a &&& ~~~k = 0) (hb : b &&& ~~~k = 0) : (a ||| b) &&& ~~~k = 0 := by
  rw [BitVec.and_or_distrib_right, ha, hb]
  rfl

theorem flags_and_within (a k : BitVec 16) : a &&& k &&& ~~~k = 0 := by
  simp [BitVec.and_assoc]

theorem raise_keeps {id : PortId} {k : EventKind} (h : Keeps d e) : Keeps d (raise id k e) :=
  setPort_keeps h fun ⟨hf, hm, hr⟩ => ⟨flags_within_or hf (flags_and_within _ _), hm, hr⟩

theorem raiseRoll_keeps (h : Keeps d e) : Keeps d (raiseRoll e) := raise_keeps (raise_keeps h)
theorem raiseAll_keeps {k : EventKind} (h : Keeps d e) : Keeps d (raiseAll k e) := raise_keeps (raise_keeps (raise_keeps h))
theorem report_keeps {r : Report} (h : Keeps d e) : Keeps d (report r e) := setInbox_keeps h
theorem setDemand_keeps {v : Int} (h : Keeps d e) : Keeps d (setDemand v e) := setTransport_keeps rfl h
theorem sendFrame_keeps (h : Keeps d e) : Keeps d (sendFrame e) := setTransport_keeps rfl h
theorem modifyRun_keeps {g : RunRecord → RunRecord} (h : Keeps d e) : Keeps d (modifyRun g e) := setScan_keeps rfl h
theorem setRunCause_keeps {c : RunCause} (h : Keeps d e) : Keeps d (setRunCause c e) := modifyRun_keeps h

theorem setRunState_keeps {st : RunState} (h : Keeps d e) : Keeps d (setRunState st e) := by
  unfold setRunState
  split
  · exact h
  · exact .ite h (raise_keeps (modifyRun_keeps h))

end
end Sys2Proof.Proofs

/-! What the shared operations of the roll, the index, the lens, the queue, the generator and the transport keep. -/

namespace Sys2Proof.Proofs

open Sys2Proof Sys2Proof.Machine

section
variable {d e f : Dev}

/-! ### Roll context and metering -/

theorem saturate_within (x : Int) : Config.minPosition ≤ saturate x ∧ saturate x ≤ Config.maxPosition := by
  simp only [saturate, Config.minPosition, Config.maxPosition]
  omega

/-- A change of the roll state sets the datum flag with it. -/
theorem setRollState_keeps {st : RollState} (h : Keeps d e) : Keeps d (setRollState st e) := by
  have hset : Keeps d (e.setRoll { e.roll with state := st, datum := st == .ready || st == .runout }) :=
    h.trans ⟨fun ⟨hs, hp, _, hsp, hrest⟩ => ⟨hs, hp, rfl, hsp, hrest⟩, rfl, rfl⟩
  exact .ite hset (raiseRoll_keeps hset)

theorem applyCorrection_keeps {delta : Int} (h : Keeps d e) : Keeps d (applyCorrection delta e) := by
  have hmeter := setCounter_keeps (p := saturate (e.metering.counter - delta)) (saturate_within _) h
  exact modifyRun_keeps (setDetector_keeps rfl (by simp) (setRoll_keeps rfl (by simp) hmeter))

theorem applyPending_keeps (h : Keeps d e) : Keeps d (applyPending e) := by
  unfold applyPending
  split
  · exact h
  · exact applyCorrection_keeps h

theorem shiftDatum_keeps {v : Int} (h : Keeps d e) : Keeps d (shiftDatum v e) :=
  modifyRun_keeps (setRoll_keeps rfl (by simp) h)

theorem length_insertAscending (x : Int) (xs : List Int) : (insertAscending x xs).length = xs.length + 1 := by
  induction xs with
  | nil => rfl
  | cons y rest ih =>
    unfold insertAscending
    split
    · rfl
    · simp [ih]

/-- A splice is inserted only where the list has room. -/
theorem offerSplice_keeps {x : Int} (h : Keeps d e) : Keeps d (offerSplice x e) := by
  unfold offerSplice
  split_ifs with _ hfull
  · exact h
  · exact raise_keeps h
  · refine h.trans ⟨fun ⟨hs, hp, hr, _, hrest⟩ => ⟨hs, hp, hr, ?_, hrest⟩, rfl, rfl⟩
    simp only [Dev.setRoll_roll, length_insertAscending]
    omega

theorem markEntry_keeps {n : Nat} {v : Bool} (h : Keeps d e) : Keeps d (markEntry n v e) := setIndex_keeps h

theorem driftReport_keeps {n : Nat} {delta : Int} (h : Keeps d e) : Keeps d (driftReport n delta e).2 := by
  unfold driftReport
  split
  · have hmarked := markEntry_keeps (n := n) (v := true)
      (setRoll_keeps (x := { e.roll with pendingCorrection := some delta }) rfl le_rfl h)
    exact .ite (applyPending_keeps hmarked) hmarked
  · exact raise_keeps (markEntry_keeps h)

/-! ### Frame index -/

theorem setIndexState_keeps {st : IndexState} {c : Option CloseCause} (h : Keeps d e) : Keeps d (setIndexState st c e) :=
  .ite (setIndex_keeps h) (raiseAll_keeps (setIndex_keeps h))

/-! ### Lens stage -/

theorem setLens_keeps {l : Lens} (h : Keeps d e) : Keeps d (setLens l e) := setFocus_keeps rfl h
theorem noteLensMoved_keeps (h : Keeps d e) : Keeps d (noteLensMoved e) := setFocus_keeps rfl h
theorem lensRest_keeps (h : Keeps d e) : Keeps d (lensRest e) := .ite (raise_keeps (setLens_keeps h)) (setLens_keeps h)

theorem beginSettle_keeps {m : MoveRecord} (h : Keeps d e) : Keeps d (beginSettle m e) :=
  .ite (lensRest_keeps (setLens_keeps h)) (setLens_keeps h)

theorem moveRequest_keeps {target : Nat} {req : Requester} (h : Keeps d e) : Keeps d (moveRequest target req e).2 := by
  unfold moveRequest
  split
  · exact h
  · exact h
  · exact h
  · split
    · exact h
    · exact noteLensMoved_keeps (setLens_keeps h)
  · exact .snd_ite (beginSettle_keeps (.ite (report_keeps h) h)) (setLens_keeps (.ite (report_keeps h) h))

theorem moveRequest_eq_keeps {target : Nat} {req : Requester} {a : MoveAnswer} (hm : moveRequest target req e = (a, f))
    (h : Keeps d e) : Keeps d f := by
  simpa [hm] using moveRequest_keeps (target := target) (req := req) h

theorem issueStep_keeps {m : MoveRecord} (h : Keeps d e) : Keeps d (issueStep m e) :=
  .ite (beginSettle_keeps (setLens_keeps h)) (setLens_keeps h)

theorem homingSeen_keeps {x : Homing} (h : Keeps d e) : Keeps d (homingSeen x e) := setLens_keeps h

/-! ### Retrieval queue -/

theorem modifyRequests_keeps {g : RetrievalRequest → RetrievalRequest} (h : Keeps d e) : Keeps d (modifyRequests g e) :=
  setRetrieval_keeps rfl le_rfl h

theorem modifyRequest_keeps {t : Nat} {g : RetrievalRequest → RetrievalRequest} (h : Keeps d e) :
    Keeps d (modifyRequest t g e) :=
  modifyRequests_keeps h

theorem completeRequest_keeps {r : RetrievalRequest} {result : CompletionResult} {flags : CompletionFlags} {c : Int}
    (h : Keeps d e) : Keeps d (completeRequest r result flags c e) := by
  unfold completeRequest
  split
  · exact h
  · exact .ite (raise_keeps (setRetrieval_keeps rfl le_rfl h)) (setRetrieval_keeps rfl le_rfl h)

theorem completeIdle_keeps {result : CompletionResult} {r : RetrievalRequest} (h : Keeps d e) :
    Keeps d (completeIdle result r e) :=
  completeRequest_keeps h

theorem completeAll_keeps {result : CompletionResult} {rs : List RetrievalRequest} (h : Keeps d e) :
    Keeps d (completeAll result rs e) := by
  induction rs generalizing e with
  | nil => exact h
  | cons r rest ih => exact ih (completeIdle_keeps h)

theorem resolveDeferred_keeps (h : Keeps d e) : Keeps d (resolveDeferred e) := modifyRequests_keeps h
theorem failDeferred_keeps (h : Keeps d e) : Keeps d (failDeferred e) := completeAll_keeps h
theorem closeIndex_keeps {c : CloseCause} (h : Keeps d e) : Keeps d (closeIndex c e) :=
  failDeferred_keeps (setIndexState_keeps h)

/-! ### Line triggers -/

theorem pushNotice_keeps {n : Notice} (h : Keeps d e) : Keeps d (pushNotice n e) :=
  .ite (raise_keeps (setScan_keeps rfl h)) (setScan_keeps rfl h)

theorem setGate_keeps {on : Bool} (h : Keeps d e) : Keeps d (setGate on e) := setScan_keeps rfl h

theorem dropRecentMarks_keeps (h : Keeps d e) : Keeps d (dropRecentMarks e) := setDetector_keeps rfl (by simp) h

theorem truncateOpen_keeps (h : Keeps d e) : Keeps d (truncateOpen e) := by
  refine dropRecentMarks_keeps ?_
  split
  · exact pushNotice_keeps (setGate_keeps h)
  · exact h

theorem detectorIdle_keeps (h : Keeps d e) : Keeps d (detectorIdle e) := setFocus_keeps rfl (setDetector_keeps rfl le_rfl h)

theorem disarm_keeps {why : DisarmCause} {atClose : Bool} (h : Keeps d e) : Keeps d (disarm why atClose e) := by
  unfold disarm
  split
  · exact h
  · refine report_keeps (applyPending_keeps (modifyRun_keeps (.step_if (modifyRun_keeps (.refl _)) ?_)))
    refine setFocus_keeps rfl (setLines_keeps rfl (setTrigger_keeps (setGate_keeps (detectorIdle_keeps ?_))))
    exact .step_if (truncateOpen_keeps (.refl _)) h

theorem emitTrigger_keeps {a : Arm} (h : Keeps d e) : Keeps d (emitTrigger a e) := setLines_keeps rfl (setTrigger_keeps h)
theorem triggerDue_keeps {a : Arm} (h : Keeps d e) : Keeps d (triggerDue a e) := .ite (disarm_keeps h) (emitTrigger_keeps h)

theorem armTrigger_keeps {o : Owner} {m : ArmMode} {base : Int} {pitch : Nat} {stopAt : Option Int} {line : Nat}
    (h : Keeps d e) : Keeps d (armTrigger o m base pitch stopAt line e) := by
  have harmed : ∀ (x : Trigger) (r : Report), Keeps d (report r ((disarm .command false e).setTrigger x)) :=
    fun _ _ => report_keeps (setTrigger_keeps (disarm_keeps h))
  exact .ite (report_keeps h) (.ite (disarm_keeps (harmed _ _)) (.ite (triggerDue_keeps (harmed _ _)) (harmed _ _)))

/-! ### Motion -/

theorem dropGrant_keeps (h : Keeps d e) : Keeps d (dropGrant e) := by
  have hset := setTransport_keeps (x := { e.transport with grant := .nobody, releasePending := false }) rfl h
  unfold dropGrant
  dsimp only
  split
  · exact .ite (disarm_keeps hset) hset
  · exact hset

theorem releaseGrant_keeps {o : Owner} (h : Keeps d e) : Keeps d (releaseGrant o e) :=
  .ite h (.ite (dropGrant_keeps h) (setTransport_keeps rfl h))

theorem giveGrant_keeps {o : Owner} (h : Keeps d e) : Keeps d (giveGrant o e) :=
  .ite (setTransport_keeps rfl (setTransport_keeps rfl h)) (setTransport_keeps rfl h)

theorem beginOrder_keeps {o : Order} {m : MotionState} {s : Option SeekRun} {v : Nat} (h : Keeps d e) :
    Keeps d (beginOrder o m s v e) :=
  setTransport_keeps rfl h

theorem startOrder_keeps {o : Order} (h : Keeps d e) : Keeps d (startOrder o e) := by
  unfold startOrder
  split
  · exact report_keeps h
  · split
    · exact beginOrder_keeps h
    · exact report_keeps (beginOrder_keeps h)
    · exact beginOrder_keeps h
    · exact beginOrder_keeps h
    · exact h

theorem enterStopping_keeps {r : StopReason} {c : Option CurrentOrder} (h : Keeps d e) : Keeps d (enterStopping r c e) :=
  setTransport_keeps rfl h

theorem giveStop_keeps {o : Owner} (h : Keeps d e) : Keeps d (giveStop o e) := by
  refine .ite (report_keeps h) ?_
  split
  · exact enterStopping_keeps h
  · exact enterStopping_keeps h
  · exact enterStopping_keeps h
  · exact enterStopping_keeps h
  · exact report_keeps h
  · exact report_keeps h
  · exact report_keeps (setTransport_keeps rfl h)
  · exact .ite h (setTransport_keeps rfl h)
  · exact h

theorem stopIfRunning_keeps {o : Owner} (h : Keeps d e) : Keeps d (stopIfRunning o e) := .ite (giveStop_keeps h) h

theorem giveOrder_keeps {o : Order} (h : Keeps d e) : Keeps d (giveOrder o e) := by
  refine .ite (report_keeps h) ?_
  split
  · exact giveStop_keeps h
  · split
    · exact setTransport_keeps rfl h
    · exact setTransport_keeps rfl h
    · exact report_keeps h
    · exact startOrder_keeps h

theorem becomeIdle_keeps (h : Keeps d e) : Keeps d (becomeIdle e) := setDemand_keeps (setTransport_keeps rfl h)

theorem startHeld_keeps (h : Keeps d e) : Keeps d (startHeld e) := by
  unfold startHeld
  split
  · exact h
  · exact startOrder_keeps (setTransport_keeps rfl h)

theorem endOrder_keeps {o : OrderOutcome} (h : Keeps d e) : Keeps d (endOrder o e) := by
  unfold endOrder
  split
  · exact becomeIdle_keeps h
  · exact report_keeps (becomeIdle_keeps h)

theorem failSeek_keeps {c : FailCause} (h : Keeps d e) : Keeps d (failSeek c e) := by
  unfold failSeek
  split
  · exact h
  · exact report_keeps (enterStopping_keeps h)

end
end Sys2Proof.Proofs

/-! What the search, the scan run controller, the retrieval scheduler, a halt and the chain of reactions keep. -/

namespace Sys2Proof.Proofs

open Sys2Proof Sys2Proof.Machine

section
variable {d e f : Dev}

/-! ### Focus search -/

theorem closeSearchMotion_keeps {who : SearchOwner} (h : Keeps d e) : Keeps d (closeSearchMotion who e) := by
  refine .step_if (giveStop_keeps (.refl _)) ?_
  split
  · exact .step_if (disarm_keeps (.refl _)) h
  · exact h

theorem recordOutcome_keeps {who : SearchOwner} {o : FocusOutcome} {b : Option (Nat × Nat)} (h : Keeps d e) :
    Keeps d (recordOutcome who o b e) :=
  raise_keeps (setFocus_keeps rfl h)

theorem leaveToRun_keeps {b : Bool} {best : Option (Nat × Nat)} {n : Nat} (h : Keeps d e) :
    Keeps d (leaveToRun b best n e) := by
  unfold leaveToRun
  split
  · exact h
  · split
    · exact .step_if (setFocus_keeps rfl (.refl _)) h
    · exact setFocus_keeps rfl h
    · exact h

theorem endSearch_keeps {lost : Bool} (h : Keeps d e) : Keeps d (endSearch lost e) := by
  unfold endSearch
  split
  · exact h
  · dsimp only
    split
    · exact report_keeps (leaveToRun_keeps
        (.step_unless (moveRequest_keeps (.refl _)) (recordOutcome_keeps (closeSearchMotion_keeps h))))
    · exact releaseGrant_keeps
        (.step_unless (moveRequest_keeps (.refl _)) (recordOutcome_keeps (closeSearchMotion_keeps h)))

theorem abandonSearch_keeps (h : Keeps d e) : Keeps d (abandonSearch e) := by
  unfold abandonSearch
  split
  · exact h
  · dsimp only
    split
    · exact recordOutcome_keeps (closeSearchMotion_keeps h)
    · exact releaseGrant_keeps (recordOutcome_keeps (closeSearchMotion_keeps h))

theorem beginProbeWindow_keeps (h : Keeps d e) : Keeps d (beginProbeWindow e) := setFocus_keeps rfl h

theorem probeAt_keeps {c : Nat} (h : Keeps d e) : Keeps d (probeAt c e) := by
  unfold probeAt
  dsimp only
  split
  next hm => exact endSearch_keeps (moveRequest_eq_keeps hm (setFocus_keeps rfl h))
  next hm => exact beginProbeWindow_keeps (moveRequest_eq_keeps hm (setFocus_keeps rfl h))
  next hm => exact moveRequest_eq_keeps hm (setFocus_keeps rfl h)

theorem searchLensIdle_keeps (h : Keeps d e) : Keeps d (searchLensIdle e) := by
  unfold searchLensIdle
  split
  · exact .ite (beginProbeWindow_keeps h) h
  · exact h

theorem searchLine_keeps {r : LineResult} (h : Keeps d e) : Keeps d (searchLine r e) := by
  unfold searchLine
  split
  · exact h
  · split
    · dsimp only
      split
      · split
        · exact endSearch_keeps (setFocus_keeps rfl h)
        · exact .ite (endSearch_keeps (setFocus_keeps rfl h)) (probeAt_keeps (setFocus_keeps rfl h))
      · exact setFocus_keeps rfl h
    · exact h

theorem beginSearch_keeps {who : SearchOwner} (h : Keeps d e) : Keeps d (beginSearch who e) := by
  unfold beginSearch
  dsimp only
  split
  · exact endSearch_keeps (setFocus_keeps rfl h)
  · exact endSearch_keeps (setFocus_keeps rfl h)
  · exact endSearch_keeps (setFocus_keeps rfl h)
  · exact .ite (endSearch_keeps (giveOrder_keeps (setFocus_keeps rfl h)))
      (probeAt_keeps (armTrigger_keeps (giveOrder_keeps (setFocus_keeps rfl h))))

/-! ### Scan run controller -/

theorem endRun_keeps (h : Keeps d e) : Keeps d (endRun e) :=
  setDetector_keeps rfl (Nat.zero_le _) (setFocus_keeps rfl (setRunState_keeps (modifyRun_keeps h)))

theorem beginEnding_keeps {c : RunCause} (h : Keeps d e) : Keeps d (beginEnding c e) := setRunState_keeps (setRunCause_keeps h)
theorem endAtDisarm_keeps {c : RunCause} (h : Keeps d e) : Keeps d (endAtDisarm c e) :=
  .ite (beginEnding_keeps (giveStop_keeps h)) h
theorem endAtLimit_keeps (h : Keeps d e) : Keeps d (endAtLimit e) :=
  endRun_keeps (setRunCause_keeps (releaseGrant_keeps (disarm_keeps h)))
theorem finishEnding_keeps (h : Keeps d e) : Keeps d (finishEnding e) := endRun_keeps (releaseGrant_keeps h)
theorem finishReturn_keeps {t : TrackContext} (h : Keeps d e) : Keeps d (finishReturn t e) := raise_keeps (setFocus_keeps rfl h)

theorem pauseTrack_keeps (h : Keeps d e) : Keeps d (pauseTrack e) := by
  unfold pauseTrack
  split
  · exact h
  · exact setFocus_keeps rfl (.step_if (finishReturn_keeps (.refl _)) h)

theorem suspendRun_keeps {c : RunCause} {b : Bool} (h : Keeps d e) : Keeps d (suspendRun c b e) :=
  setRunState_keeps (modifyRun_keeps h)
theorem beginSuspending_keeps {c : RunCause} (h : Keeps d e) : Keeps d (beginSuspending c e) :=
  setRunState_keeps (setRunCause_keeps h)

theorem completeSuspension_keeps (h : Keeps d e) : Keeps d (completeSuspension e) := by
  unfold completeSuspension
  dsimp only
  split
  · exact releaseGrant_keeps (giveStop_keeps (disarm_keeps (modifyRun_keeps h)))
  · exact suspendRun_keeps (releaseGrant_keeps (giveStop_keeps (disarm_keeps (modifyRun_keeps h))))

theorem failPreparation_keeps (h : Keeps d e) : Keeps d (failPreparation e) :=
  suspendRun_keeps (modifyRun_keeps (releaseGrant_keeps (disarm_keeps h)))
theorem cutPreparation_keeps {c : RunCause} {b : Bool} (h : Keeps d e) : Keeps d (cutPreparation c b e) :=
  suspendRun_keeps (modifyRun_keeps (releaseGrant_keeps (stopIfRunning_keeps (disarm_keeps (abandonSearch_keeps h)))))

theorem giveScanOrder_keeps (h : Keeps d e) : Keeps d (giveScanOrder e) := by
  unfold giveScanOrder
  split
  · exact h
  · exact giveOrder_keeps (modifyRun_keeps h)

theorem startPreparation_keeps (h : Keeps d e) : Keeps d (startPreparation e) := by
  unfold startPreparation
  dsimp only
  split
  · exact setRunState_keeps (modifyRun_keeps h)
  · exact .ite (giveOrder_keeps (modifyRun_keeps (setRunState_keeps (modifyRun_keeps h))))
      (giveScanOrder_keeps (setRunState_keeps (modifyRun_keeps h)))

theorem loseTrack_keeps (h : Keeps d e) : Keeps d (loseTrack e) := raise_keeps (modifyRun_keeps (setFocus_keeps rfl h))

theorem restoreLens_keeps (h : Keeps d e) : Keeps d (restoreLens e) := by
  unfold restoreLens
  split
  · exact h
  · split
    · exact h
    · split
      · exact moveRequest_keeps h
      · exact h
    · split
      · exact .ite (moveRequest_keeps h) (loseTrack_keeps h)
      · exact h
    · split
      · exact moveRequest_keeps (setFocus_keeps rfl h)
      · exact h

/-- A start of the detector keeps its marks or drops them all. -/
theorem startDetector_keeps {st : ResumeState} {r : RunRecord} (h : Keeps d e) : Keeps d (startDetector st r e) := by
  unfold startDetector
  dsimp only
  split
  · exact setDetector_keeps rfl le_rfl h
  · exact setDetector_keeps rfl (Nat.zero_le _) h

theorem detectorUnderArm_keeps (h : Keeps d e) : Keeps d (detectorUnderArm e) :=
  .ite (detectorIdle_keeps (truncateOpen_keeps h)) h

theorem runReachesBase_keeps (h : Keeps d e) : Keeps d (runReachesBase e) := by
  unfold runReachesBase
  split
  · exact h
  · exact .ite (modifyRun_keeps (detectorUnderArm_keeps (startDetector_keeps (setRunState_keeps h)))) h

theorem scanReport_keeps {o : OrderOutcome} (h : Keeps d e) : Keeps d (scanReport o e) := by
  unfold scanReport
  split
  · exact h
  · split
    · exact h
    · exact beginSearch_keeps (modifyRun_keeps h)
    · exact failPreparation_keeps h
    · exact endSearch_keeps h
    · exact endSearch_keeps h
    · exact endAtLimit_keeps h
    · exact failPreparation_keeps h
    · exact endAtLimit_keeps h
    · exact endAtLimit_keeps h
    · exact h

theorem searchHandedBack_keeps (h : Keeps d e) : Keeps d (searchHandedBack e) := by
  unfold searchHandedBack
  split
  · exact h
  · exact .ite (giveScanOrder_keeps h) h

theorem haltRecordsBoundary_keeps (h : Keeps d e) : Keeps d (haltRecordsBoundary e) := .ite (modifyRun_keeps h) h

theorem scanOnHalt_keeps (h : Keeps d e) : Keeps d (scanOnHalt e) := by
  unfold scanOnHalt
  split
  · exact h
  · split
    · exact suspendRun_keeps (modifyRun_keeps h)
    · exact pauseTrack_keeps (suspendRun_keeps (modifyRun_keeps h))
    · exact pauseTrack_keeps (suspendRun_keeps (modifyRun_keeps h))
    · exact endRun_keeps h
    · exact h

theorem endAtRunout_keeps (h : Keeps d e) : Keeps d (endAtRunout e) :=
  beginEnding_keeps (abandonSearch_keeps (disarm_keeps h))

/-! ### Retrieval scheduler -/

theorem requestRecall_keeps {n : Option Nat} (h : Keeps d e) : Keeps d (requestRecall n e).2 := by
  unfold requestRecall
  split
  · exact h
  · exact .snd_ite (moveRequest_keeps h) h

theorem markChosen_keeps {r : RetrievalRequest} (h : Keeps d e) : Keeps d (markChosen r e) := modifyRequests_keeps h
theorem setAttempt_keeps {a : Option Attempt} (h : Keeps d e) : Keeps d (setAttempt a e) := setRetrieval_keeps rfl le_rfl h
theorem modifyAttempt_keeps {g : Attempt → Attempt} (h : Keeps d e) : Keeps d (modifyAttempt g e) := setAttempt_keeps h
theorem retrievalSeek_keeps {x : Int} (h : Keeps d e) : Keeps d (retrievalSeek x e) := giveOrder_keeps h

theorem startAttempt_keeps {r : RetrievalRequest} (h : Keeps d e) : Keeps d (startAttempt r e) := by
  have hseek : ∀ x a, Keeps d (retrievalSeek x (setAttempt a (markChosen r e))) :=
    fun _ _ => retrievalSeek_keeps (setAttempt_keeps (markChosen_keeps h))
  refine .step_if (modifyRequest_keeps (modifyAttempt_keeps (requestRecall_keeps (.refl _)))) ?_
  split
  · exact hseek _ _
  · exact hseek _ _

theorem selectNext_keeps (h : Keeps d e) : Keeps d (selectNext e) := by
  unfold selectNext
  split
  · exact startAttempt_keeps h
  · exact releaseGrant_keeps h

theorem keepDecision_keeps (h : Keeps d e) : Keeps d (keepDecision e) :=
  .ite h (.ite (selectNext_keeps h) (releaseGrant_keeps h))

theorem completeActive_keeps {r : CompletionResult} (h : Keeps d e) : Keeps d (completeActive r e) := by
  unfold completeActive
  split
  · exact setAttempt_keeps h
  · exact setAttempt_keeps (completeRequest_keeps h)

theorem endHold_keeps (h : Keeps d e) : Keeps d (endHold e) := keepDecision_keeps (setRetrieval_keeps rfl le_rfl h)
theorem startHold_keeps {c : RequestClass} (h : Keeps d e) : Keeps d (startHold c e) :=
  .ite (keepDecision_keeps h) (setRetrieval_keeps rfl le_rfl h)

theorem completeDone_keeps (h : Keeps d e) : Keeps d (completeDone e) := by
  unfold completeDone
  split
  · exact h
  · exact startHold_keeps (completeActive_keeps h)

theorem disarmConfirm_keeps (h : Keeps d e) : Keeps d (disarmConfirm e) := by
  unfold disarmConfirm
  split
  · exact .ite (disarm_keeps h) h
  · exact h

theorem failAttempt_keeps (h : Keeps d e) : Keeps d (failAttempt e) := by
  unfold failAttempt
  dsimp only
  split
  · exact disarmConfirm_keeps h
  · exact keepDecision_keeps (.ite (completeActive_keeps (disarmConfirm_keeps h))
      (setAttempt_keeps (modifyRequest_keeps (disarmConfirm_keeps h))))

theorem finishCancel_keeps (h : Keeps d e) : Keeps d (finishCancel e) := keepDecision_keeps (completeActive_keeps h)

theorem presentActive_keeps (h : Keeps d e) : Keeps d (presentActive e) := by
  unfold presentActive
  split
  · exact h
  · exact retrievalSeek_keeps (modifyAttempt_keeps h)

theorem presentArrived_keeps (h : Keeps d e) : Keeps d (presentArrived e) :=
  .ite (modifyAttempt_keeps h) (completeDone_keeps h)

theorem beginConfirm_keeps (h : Keeps d e) : Keeps d (beginConfirm e) :=
  giveOrder_keeps (setDetector_keeps rfl le_rfl (armTrigger_keeps (modifyAttempt_keeps h)))

theorem giveUpConfirm_keeps (h : Keeps d e) : Keeps d (giveUpConfirm e) :=
  presentActive_keeps (modifyAttempt_keeps (disarmConfirm_keeps h))

theorem takeMeasuredStart_keeps {m : Int} (h : Keeps d e) : Keeps d (takeMeasuredStart m e) := by
  unfold takeMeasuredStart
  split
  · exact h
  · refine .ite h ?_
    split
    · exact h
    · exact presentActive_keeps (.ite (modifyAttempt_keeps (driftReport_keeps (disarmConfirm_keeps h)))
        (modifyAttempt_keeps (disarmConfirm_keeps h)))

theorem takeConfirmLine_keeps {x : Int} (h : Keeps d e) : Keeps d (takeConfirmLine x e) := by
  unfold takeConfirmLine
  split
  · exact h
  · refine .ite h ?_
    split
    · exact h
    · exact .ite (giveUpConfirm_keeps h) h

theorem endHint_keeps (h : Keeps d e) : Keeps d (endHint e) := keepDecision_keeps (setAttempt_keeps h)

theorem serveHint_keeps (h : Keeps d e) : Keeps d (serveHint e) := by
  unfold serveHint
  split
  · exact releaseGrant_keeps h
  · exact requestRecall_keeps (retrievalSeek_keeps (setRetrieval_keeps rfl (by simp) h))

theorem abandonHint_keeps (h : Keeps d e) : Keeps d (abandonHint e) := giveStop_keeps (modifyAttempt_keeps h)

theorem retrievalReport_keeps {o : OrderOutcome} {b : Bool} (h : Keeps d e) : Keeps d (retrievalReport o b e) := by
  unfold retrievalReport
  split
  · exact h
  · split
    · exact h
    · exact endHint_keeps h
    · exact endHint_keeps h
    · exact endHint_keeps h
    · exact beginConfirm_keeps h
    · exact failAttempt_keeps h
    · exact giveUpConfirm_keeps h
    · exact .ite (failAttempt_keeps h) (giveUpConfirm_keeps h)
    · exact failAttempt_keeps h
    · exact presentArrived_keeps h
    · exact failAttempt_keeps h
    · exact finishCancel_keeps h
    · exact h

theorem retrievalOnHalt_keeps (h : Keeps d e) : Keeps d (retrievalOnHalt e) := by
  unfold retrievalOnHalt
  dsimp only
  split
  · exact setRetrieval_keeps rfl le_rfl h
  · split
    · exact setAttempt_keeps (setRetrieval_keeps rfl le_rfl h)
    · exact setAttempt_keeps (setRetrieval_keeps rfl le_rfl h)
    · exact completeActive_keeps (setRetrieval_keeps rfl le_rfl h)
    · exact failAttempt_keeps (setRetrieval_keeps rfl le_rfl h)

/-! ### Halts, runout and the chain of reactions -/

theorem reportHalted_keeps {o : Option Order} (h : Keeps d e) : Keeps d (reportHalted o e) := by
  unfold reportHalted
  split
  · exact report_keeps h
  · exact h

theorem homingLosesGrant_keeps (h : Keeps d e) : Keeps d (homingLosesGrant e) := setLens_keeps h

theorem halt_keeps {c : HaltCause} (h : Keeps d e) : Keeps d (halt c e) := by
  refine .ite h (retrievalOnHalt_keeps (scanOnHalt_keeps (raiseAll_keeps (homingLosesGrant_keeps ?_))))
  exact endSearch_keeps (disarm_keeps (haltRecordsBoundary_keeps (reportHalted_keeps (reportHalted_keeps
    (setTransport_keeps rfl h)))))

theorem stopForRunout_keeps (h : Keeps d e) : Keeps d (stopForRunout e) := by
  have hreported : Keeps d (match e.transport.current with
      | some c =>
        if c.order.kind = .stop ∨ (runIn e [.preparing, .running, .suspending] ∧ c.order.owner = .scan) then e
        else report (.orderEnded c.order.owner (.failed .limit) true) e
      | none => e) := by
    split
    · exact .ite h (report_keeps h)
    · exact h
  refine .step_if (endAtRunout_keeps (.refl _)) (.ite (enterStopping_keeps hreported) ?_)
  split
  · exact .step_unless (setTransport_keeps rfl (.refl _)) hreported
  · exact hreported

theorem runout_keeps (h : Keeps d e) : Keeps d (runout e) :=
  .step_if (closeIndex_keeps (.refl _)) (stopForRunout_keeps (setRollState_keeps (setRoll_keeps rfl le_rfl h)))

theorem serviceReport_keeps {o : OrderOutcome} (h : Keeps d e) : Keeps d (serviceReport o e) := by
  have hraised : Keeps d (match o with
      | .failed _ => raise .service .fault
        (raise .service .motionEnd (e.setTransport { e.transport with serviceOutcome := some o }))
      | _ => raise .service .motionEnd (e.setTransport { e.transport with serviceOutcome := some o })) := by
    split
    · exact raise_keeps (raise_keeps (setTransport_keeps rfl h))
    · exact raise_keeps (setTransport_keeps rfl h)
  exact .ite (endSearch_keeps hraised) (.ite hraised (releaseGrant_keeps hraised))

theorem takeDisarm_keeps {o : Owner} {c : DisarmCause} (h : Keeps d e) : Keeps d (takeDisarm o c e) := by
  unfold takeDisarm
  split
  · exact endAtDisarm_keeps h
  · exact endAtDisarm_keeps h
  · exact h

theorem takeReport_keeps {r : Report} (h : Keeps d e) : Keeps d (takeReport r e) := by
  unfold takeReport
  split
  · exact scanReport_keeps h
  · exact retrievalReport_keeps h
  · exact serviceReport_keeps h
  · exact h
  · exact .ite (restoreLens_keeps h) h
  · exact h
  · exact runReachesBase_keeps h
  · exact h
  · exact h
  · exact takeDisarm_keeps h
  · exact searchHandedBack_keeps h
  · exact abandonSearch_keeps h
  · exact takeMeasuredStart_keeps h
  · exact takeConfirmLine_keeps h

theorem runReaction_keeps (hr : runReaction e = some f) : Keeps e f := by
  unfold runReaction at hr
  split at hr
  · contradiction
  · split at hr
    · exact .of_ite_some hr (finishEnding_keeps (.refl _))
    · exact .of_ite_some hr (cutPreparation_keeps (.refl _))
    · exact .of_ite_some hr (beginSuspending_keeps (.refl _))
    · contradiction

theorem retrievalReaction_keeps (hr : retrievalReaction e = some f) : Keeps e f := by
  unfold retrievalReaction at hr
  dsimp only at hr
  split_ifs at hr <;> obtain rfl := Option.some.inj hr
  · exact endHold_keeps (.refl _)
  · exact completeDone_keeps (.refl _)
  · exact abandonHint_keeps (.refl _)
  · exact setRetrieval_keeps rfl (by simp) (.refl _)

theorem grantReaction_keeps (hr : grantReaction e = some f) : Keeps e f := by
  unfold grantReaction at hr
  split_ifs at hr <;> obtain rfl := Option.some.inj hr
  · exact selectNext_keeps (giveGrant_keeps (.refl _))
  · exact startPreparation_keeps (giveGrant_keeps (.refl _))
  · exact selectNext_keeps (giveGrant_keeps (.refl _))
  · exact serveHint_keeps (giveGrant_keeps (.refl _))

theorem reaction_keeps (hr : reaction e = some f) : Keeps e f := by
  unfold reaction at hr
  split at hr
  · obtain rfl := Option.some.inj hr
    exact takeReport_keeps (setInbox_keeps (.refl _))
  · split_ifs at hr
    · obtain rfl := Option.some.inj hr
      exact dropGrant_keeps (.refl _)
    · split at hr
      next hrun => exact Option.some.inj hr ▸ runReaction_keeps hrun
      · split at hr
        next hret => exact Option.some.inj hr ▸ retrievalReaction_keeps hret
        · exact grantReaction_keeps hr

theorem settleFor_keeps {n : Nat} (h : Keeps d e) : Keeps d (settleFor n e) := by
  induction n generalizing e with
  | zero => exact h
  | succ n ih =>
    unfold settleFor
    split
    next hr => exact ih (h.trans (reaction_keeps hr))
    · exact h

theorem stopParkTimer_keeps (h : Keeps d e) : Keeps d (stopParkTimer e) := .step_unless (setTransport_keeps rfl (.refl _)) h

/-- Whatever an event brings about in its step keeps the device and its configuration. -/
theorem settle_keeps (h : Keeps d e) : Keeps d (settle e) := stopParkTimer_keeps (settleFor_keeps h)

end
end Sys2Proof.Proofs

/-! What the guard unit, the line results, the encoder, the motion profile and the events of the field side and of time keep. -/

namespace Sys2Proof.Proofs

open Sys2Proof Sys2Proof.Machine

section
variable {d e f : Dev}

/-! ### Guard unit -/

theorem guardStopBegins_keeps (h : Keeps d e) : Keeps d (guardStopBegins e) := by
  unfold guardStopBegins
  split
  · exact enterStopping_keeps h
  · exact enterStopping_keeps h
  · exact enterStopping_keeps h
  · exact enterStopping_keeps h
  · exact setTransport_keeps rfl h
  · exact halt_keeps h
  · exact halt_keeps h
  · exact halt_keeps h
  · exact h

theorem recomputeGuard_keeps (h : Keeps d e) : Keeps d (recomputeGuard e) :=
  .step_if (guardStopBegins_keeps (.refl _)) (setGuard_keeps rfl h)

theorem openClearsSuspect_keeps (h : Keeps d e) : Keeps d (openClearsSuspect e) := setGuard_keeps rfl h

/-- A slot rewritten with its record kept. -/
theorem modifySlot_keeps {n : Fin 4} {g : GuardSlot → GuardSlot} (hg : ∀ s, (g s).record = s.record) (h : Keeps d e) :
    Keeps d (modifySlot n g e) := by
  refine setGuard_keeps ?_ h
  match n with
  | 0 | 1 | 2 | 3 => simp [guardConfiguration, Guard.slots, Guard.put, Guard.get, hg]

theorem beginAttempt_keeps {n : Fin 4} {u : BusUse} (h : Keeps d e) : Keeps d (beginAttempt n u e) := setGuard_keeps rfl h
theorem beginTransaction_keeps {n : Fin 4} {u : BusUse} (h : Keeps d e) : Keeps d (beginTransaction n u e) :=
  beginAttempt_keeps (modifySlot_keeps (fun _ => rfl) h)
theorem requestBus_keeps {n : Fin 4} {u : BusUse} (h : Keeps d e) : Keeps d (requestBus n u e) :=
  .ite (beginTransaction_keeps h) (modifySlot_keeps (fun _ => rfl) h)

theorem passBus_keeps (h : Keeps d e) : Keeps d (passBus e) := by
  unfold passBus
  dsimp only
  split
  · exact beginTransaction_keeps (setGuard_keeps rfl h)
  · exact setGuard_keeps rfl h

theorem enterInit_keeps {n : Fin 4} (h : Keeps d e) : Keeps d (enterInit n e) := modifySlot_keeps (fun _ => rfl) h
theorem startSlot_keeps {n : Fin 4} (h : Keeps d e) : Keeps d (startSlot n e) := enterInit_keeps (modifySlot_keeps (fun _ => rfl) h)
theorem enterPolling_keeps {n : Fin 4} (h : Keeps d e) : Keeps d (enterPolling n e) := requestBus_keeps (modifySlot_keeps (fun _ => rfl) h)
theorem enterSettle_keeps {n : Fin 4} (h : Keeps d e) : Keeps d (enterSettle n e) :=
  .ite (enterPolling_keeps h) (modifySlot_keeps (fun _ => rfl) h)
theorem preInitOver_keeps {n : Fin 4} (h : Keeps d e) : Keeps d (preInitOver n e) :=
  .ite (enterSettle_keeps (modifySlot_keeps (fun _ => rfl) h)) (requestBus_keeps (modifySlot_keeps (fun _ => rfl) h))

theorem dueTime_keeps {n : Fin 4} {t : Nat} (h : Keeps d e) : Keeps d (dueTime n t e) := by
  refine .step_unless ?_ (modifySlot_keeps (fun _ => rfl) h)
  split
  · exact enterInit_keeps (modifySlot_keeps (fun _ => rfl) (.refl _))
  · exact requestBus_keeps (modifySlot_keeps (fun _ => rfl) (.refl _))

theorem takeSample_keeps {n : Fin 4} {v : Int} (h : Keeps d e) : Keeps d (takeSample n v e) :=
  .step_unless (recomputeGuard_keeps (raise_keeps (.refl _))) (modifySlot_keeps (fun _ => rfl) h)

theorem faultSlot_keeps {n : Fin 4} (h : Keeps d e) : Keeps d (faultSlot n e) :=
  recomputeGuard_keeps (passBus_keeps (raise_keeps (modifySlot_keeps (fun _ => rfl) h)))

theorem attemptFailed_keeps {t : BusTransaction} (h : Keeps d e) : Keeps d (attemptFailed t e) :=
  .ite (passBus_keeps h) (.ite (beginAttempt_keeps (modifySlot_keeps (fun _ => rfl) h)) (faultSlot_keeps h))

theorem attemptSucceeded_keeps {t : BusTransaction} {data : List Byte} (h : Keeps d e) : Keeps d (attemptSucceeded t data e) := by
  refine .ite (passBus_keeps h) ?_
  split
  · exact passBus_keeps (.ite (requestBus_keeps (modifySlot_keeps (fun _ => rfl) h)) (enterSettle_keeps (modifySlot_keeps (fun _ => rfl) h)))
  · exact passBus_keeps (takeSample_keeps (modifySlot_keeps (fun _ => rfl) (modifySlot_keeps (fun _ => rfl) h)))

/-! ### Line results -/

theorem trackMove_keeps {t : TrackContext} (h : Keeps d e) : Keeps d (trackMove t e) := by
  unfold trackMove
  dsimp only
  split
  · exact h
  · split
    next hm => exact moveRequest_eq_keeps hm h
    next hm => exact setFocus_keeps rfl (moveRequest_eq_keeps hm h)
  · split
    next hm => exact moveRequest_eq_keeps hm h
    next hm => exact setFocus_keeps rfl (moveRequest_eq_keeps hm h)
  · exact finishReturn_keeps (moveRequest_keeps h)

theorem recallMove_keeps {x : Int} (h : Keeps d e) : Keeps d (recallMove x e) := by
  unfold recallMove
  split
  · exact .ite h (moveRequest_keeps h)
  · exact h

theorem gapAccepted_keeps {x : Int} (h : Keeps d e) : Keeps d (gapAccepted x e) := by
  refine .ite ?_ h
  split
  · exact .ite (trackMove_keeps h) h
  · exact recallMove_keeps h
  · exact h

theorem focusOpening_keeps (h : Keeps d e) : Keeps d (focusOpening e) := setFocus_keeps rfl h

theorem frameLine_keeps {r : LineResult} (h : Keeps d e) : Keeps d (frameLine r e) := by
  unfold frameLine
  split
  · exact .ite h (setFocus_keeps rfl h)
  · exact h

theorem appendFrame_keeps {n : Nat} {c : ClosedFrame} (h : Keeps d e) : Keeps d (appendFrame n c e).2 :=
  .step_if (closeIndex_keeps (.refl _))
    (.step_if (beginSuspending_keeps (.refl _)) (resolveDeferred_keeps (setIndexState_keeps (setIndex_keeps h))))

theorem indexTakes_keeps {n : Nat} {c : ClosedFrame} (h : Keeps d e) : Keeps d (indexTakes n c e).2 := by
  unfold indexTakes
  split
  · exact driftReport_keeps h
  · exact .snd_ite h (.snd_ite h (.snd_ite (appendFrame_keeps h) h))

theorem endAtCount_keeps (h : Keeps d e) : Keeps d (endAtCount e) := beginEnding_keeps (giveStop_keeps (disarm_keeps h))

theorem scanTakesClose_keeps {c : ClosedFrame} {a : IndexAnswer} (h : Keeps d e) : Keeps d (scanTakesClose c a e) := by
  unfold scanTakesClose
  split
  · exact h
  · have hclosed : ∀ n g, Keeps d (modifyRun g (pushNotice n (setGate false e))) :=
      fun _ _ => modifyRun_keeps (pushNotice_keeps (setGate_keeps h))
    exact .ite (endAtCount_keeps (hclosed _ _)) (.ite (completeSuspension_keeps (hclosed _ _))
      (.ite (beginSuspending_keeps (hclosed _ _)) (hclosed _ _)))

/-- A close keeps the marks at or beyond its end, and no others. -/
theorem closeFrame_keeps {forced : Bool} {c : OpenFrame} {stop_ q x : Int} {n : Nat} {st : ResumeState} (h : Keeps d e) :
    Keeps d (closeFrame forced c stop_ n q st x e) := by
  refine .step_if (pauseTrack_keeps (.refl _)) (.step_unless (gapAccepted_keeps (.refl _)) ?_)
  split
  · refine setFocus_keeps rfl (setDetector_keeps rfl le_rfl (scanTakesClose_keeps ?_))
    split
    · exact setDetector_keeps rfl le_rfl (indexTakes_keeps (setFocus_keeps rfl (setDetector_keeps rfl (List.length_filter_le _ _) h)))
    · exact indexTakes_keeps (setFocus_keeps rfl (setDetector_keeps rfl (List.length_filter_le _ _) h))
  · refine setDetector_keeps rfl le_rfl (scanTakesClose_keeps ?_)
    split
    · exact setDetector_keeps rfl le_rfl (indexTakes_keeps (setFocus_keeps rfl (setDetector_keeps rfl (List.length_filter_le _ _) h)))
    · exact indexTakes_keeps (setFocus_keeps rfl (setDetector_keeps rfl (List.length_filter_le _ _) h))

theorem openFrame_keeps {r : LineResult} (h : Keeps d e) : Keeps d (openFrame r e) :=
  setGate_keeps (focusOpening_keeps (openClearsSuspect_keeps (setDetector_keeps rfl le_rfl h)))

theorem runLine_keeps {a : Arm} {r : LineResult} (h : Keeps d e) : Keeps d (runLine a r e) := by
  refine .ite (openFrame_keeps h) ?_
  split
  · split
    · exact closeFrame_keeps (setDetector_keeps rfl le_rfl h)
    · exact .ite (closeFrame_keeps (frameLine_keeps (setDetector_keeps rfl le_rfl h))) (setDetector_keeps rfl le_rfl h)
  · exact setDetector_keeps rfl le_rfl h
  · exact .ite (openFrame_keeps (setDetector_keeps rfl le_rfl h))
      (.ite (gapAccepted_keeps (setDetector_keeps rfl le_rfl (setDetector_keeps rfl le_rfl h))) (setDetector_keeps rfl le_rfl h))
  · exact .ite (gapAccepted_keeps (setDetector_keeps rfl le_rfl (setDetector_keeps rfl le_rfl h))) (setDetector_keeps rfl le_rfl h)

theorem confirmLine_keeps {a : Arm} {r : LineResult} (h : Keeps d e) : Keeps d (confirmLine a r e) :=
  .ite (report_keeps (detectorIdle_keeps (setDetector_keeps rfl le_rfl h))) (report_keeps (setDetector_keeps rfl le_rfl h))

theorem detectorTakes_keeps {r : LineResult} (h : Keeps d e) : Keeps d (detectorTakes r e) := by
  unfold detectorTakes
  split
  · exact runLine_keeps h
  · exact confirmLine_keeps h
  · exact h

theorem handResult_keeps {r : LineResult} (h : Keeps d e) : Keeps d (handResult r e) :=
  frameLine_keeps (searchLine_keeps (detectorTakes_keeps (setLines_keeps rfl h)))

theorem receiveByte_keeps {b : Byte} (h : Keeps d e) : Keeps d (receiveByte b e) := by
  unfold receiveByte
  split
  · exact h
  · exact .ite (handResult_keeps (setLines_keeps rfl h)) (setLines_keeps rfl h)

/-! ### Encoder counts -/

theorem checkBase_keeps (h : Keeps d e) : Keeps d (checkBase e) := by
  unfold checkBase
  split
  · exact h
  · split
    · exact .ite (report_keeps (setTransport_keeps rfl h)) h
    · exact h

theorem emitAtCount_keeps {a : Arm} (h : Keeps d e) : Keeps d (emitAtCount a e) := by
  unfold emitAtCount
  dsimp only
  split
  · exact handResult_keeps (emitTrigger_keeps h)
  · exact emitTrigger_keeps h

theorem generatorCount_keeps (h : Keeps d e) : Keeps d (generatorCount e) := by
  unfold generatorCount
  split
  · exact h
  · exact .ite (disarm_keeps h) (.ite (.ite (disarm_keeps h) (emitAtCount_keeps h)) h)

theorem searchTravelCheck_keeps (h : Keeps d e) : Keeps d (searchTravelCheck e) := by
  unfold searchTravelCheck
  split
  · exact .ite (endSearch_keeps h) h
  · exact h

theorem count_keeps {dir : Direction} (h : Keeps d e) : Keeps d (count dir e) := by
  unfold count
  split
  · exact searchTravelCheck_keeps (generatorCount_keeps (checkBase_keeps (setCounter_keeps (saturate_within _) h)))
  · exact searchTravelCheck_keeps (setCounter_keeps (saturate_within _) h)

/-! ### The motion profile and the timers -/

theorem setSeek_keeps {s : SeekRun} (h : Keeps d e) : Keeps d (setSeek s e) := setTransport_keeps rfl h

theorem positioned_keeps {c : CurrentOrder} {start : Int} {pitch line : Nat} {stopAt : Option Int} (h : Keeps d e) :
    Keeps d (positioned c start pitch line stopAt e) :=
  checkBase_keeps (armTrigger_keeps (report_keeps (setDemand_keeps (setTransport_keeps rfl h))))

theorem seekArrived_keeps {c : CurrentOrder} (h : Keeps d e) : Keeps d (seekArrived c e) := by
  unfold seekArrived
  split
  · exact positioned_keeps h
  · exact endOrder_keeps h

theorem seekStep_keeps {c : CurrentOrder} {s : SeekRun} (h : Keeps d e) : Keeps d (seekStep c s e) :=
  .ite (seekArrived_keeps (setSeek_keeps h)) (.ite (failSeek_keeps (setSeek_keeps h))
    (.ite (setDemand_keeps (setSeek_keeps h)) (.ite (setDemand_keeps (setSeek_keeps h)) (setDemand_keeps (setSeek_keeps h)))))

theorem runStep_keeps {dir : Direction} {v : Nat} (h : Keeps d e) : Keeps d (runStep dir v e) :=
  .ite (setDemand_keeps h) (.ite (endOrder_keeps h) (.ite (setDemand_keeps h) (setDemand_keeps h)))

theorem stopEnds_keeps (h : Keeps d e) : Keeps d (stopEnds e) := by
  refine .ite (halt_keeps (setDemand_keeps h)) ?_
  split
  · exact startHeld_keeps (.ite (endOrder_keeps h) (becomeIdle_keeps h))
  · exact startHeld_keeps (becomeIdle_keeps h)

theorem stoppingStep_keeps (h : Keeps d e) : Keeps d (stoppingStep e) := by
  refine .ite (stopEnds_keeps h) ?_
  split
  · exact setDemand_keeps h
  · exact h

theorem profile_keeps (h : Keeps d e) : Keeps d (profile e) := by
  unfold profile
  split
  · split
    · exact seekStep_keeps h
    · exact h
  · split
    · exact runStep_keeps h
    · exact h
  · exact runStep_keeps h
  · exact runStep_keeps h
  · exact stoppingStep_keeps h
  · exact h

theorem setTime_wellKeeps (d : Dev) (t : Nat) : WellKeeps d (d.setTime t) := ⟨id, rfl⟩

theorem tickTimers_wellKeeps (d : Dev) : WellKeeps d (tickTimers d) := by
  refine (setTime_wellKeeps d (d.time + 1)).trans (Keeps.weaken ?_)
  exact setRetrieval_keeps rfl le_rfl (setLens_keeps (.ite (setTransport_keeps rfl (.refl _)) (stopParkTimer_keeps (.refl _))))

theorem samplePins_keeps {p : PinSample} (h : Keeps d e) : Keeps d (samplePins p e) := setInputs_keeps h

theorem millisecond_wellKeeps (p : PinSample) (d : Dev) : WellKeeps d (millisecond p d) :=
  ((samplePins_keeps (.refl d)).weaken.trans (tickTimers_wellKeeps (samplePins p d))).trans
    (sendFrame_keeps (settle_keeps (.ite (halt_keeps (.refl _)) (profile_keeps (.refl _))))).weaken

/-! ### Events of the field side -/

/-- The halt of an encoder fault, with the roll state that follows it (R10). -/
def encoderHalted (d : Dev) : Dev :=
  let d := halt .encoder d
  if d.roll.state = .ready ∨ d.roll.state = .runout then setRollState .threaded d else d

theorem filmLost_keeps (h : Keeps d e) : Keeps d (filmLost e) := setRollState_keeps (halt_keeps h)

theorem filmChange_keeps {b : Bool} (h : Keeps d e) : Keeps d (filmChange b e) := by
  unfold filmChange
  dsimp only
  split
  · exact runout_keeps (setRoll_keeps rfl le_rfl h)
  · exact filmLost_keeps (setRoll_keeps rfl le_rfl h)
  · exact filmLost_keeps (setRoll_keeps rfl le_rfl h)
  · exact setRollState_keeps (setRoll_keeps rfl le_rfl h)
  · exact setRoll_keeps rfl le_rfl h

theorem filmSamples_keeps {s1 s2 : Bool} (h : Keeps d e) : Keeps d (filmSamples s1 s2 e) :=
  .ite (settle_keeps (filmChange_keeps h)) h

/-- The metering changed outside its counter. -/
theorem setMetering_wellKeeps (d : Dev) {x : Metering} (hx : x.counter = d.metering.counter) : WellKeeps d (d.setMetering x) :=
  ⟨fun ⟨hs, hp, hrest⟩ => ⟨hs, by simpa [hx] using hp, hrest⟩, rfl⟩

/-- An encoder fault but for the time at which the encoder settles. -/
theorem encoderHalted_keeps (h : Keeps d e) : Keeps d (encoderHalted e) := .step_if (setRollState_keeps (.refl _)) (halt_keeps h)

theorem encoderFault_wellKeeps (d : Dev) : WellKeeps d (encoderFault d) :=
  (encoderHalted_keeps (.refl d)).weaken.trans (setMetering_wellKeeps _ rfl)

theorem phaseChange_wellKeeps (a b : Bool) (d : Dev) : WellKeeps d (phaseChange a b d) := by
  have hphase := setMetering_wellKeeps d (x := { d.metering with phaseA := a, phaseB := b }) rfl
  unfold phaseChange
  dsimp only
  split
  · exact hphase
  · exact hphase.trans (settle_keeps (count_keeps (.refl _))).weaken
  · exact (hphase.trans (encoderFault_wellKeeps _)).trans (settle_keeps (.refl _)).weaken
  · exact hphase.trans (settle_keeps (count_keeps (.refl _))).weaken

theorem unsettledExpiry_wellKeeps (d : Dev) : WellKeeps d (unsettledExpiry d) := by
  unfold unsettledExpiry
  split
  · exact setMetering_wellKeeps d rfl
  · exact (Keeps.refl d).weaken

theorem splicePulse_keeps (h : Keeps d e) : Keeps d (splicePulse e) := .ite (offerSplice_keeps h) h

theorem driveFaultSample_keeps (h : Keeps d e) : Keeps d (driveFaultSample e) := settle_keeps (halt_keeps (setInputs_keeps h))

theorem attemptEnd_keeps {o : BusOutcome} (h : Keeps d e) : Keeps d (attemptEnd o e) := by
  unfold attemptEnd
  split
  · exact h
  · split
    · exact .ite (settle_keeps (attemptSucceeded_keeps h)) h
    · exact settle_keeps (attemptFailed_keeps h)

theorem sclHeld_keeps (h : Keeps d e) : Keeps d (sclHeld e) := by
  unfold sclHeld
  split
  · exact h
  · exact .ite (settle_keeps (attemptFailed_keeps h)) h

theorem length_insertMark (m : Mark) (ms : List Mark) : (insertMark m ms).length = ms.length + 1 := by
  induction ms with
  | nil => rfl
  | cons y rest ih =>
    unfold insertMark
    split
    · rfl
    · simp [ih]

/-- A mark is inserted only where the list has room. -/
theorem offerMark_keeps {m : Mark} (h : Keeps d e) : Keeps d (offerMark m e) := by
  unfold offerMark
  split
  · exact setDetector_keeps rfl le_rfl h
  next hroom =>
    refine h.trans ⟨fun ⟨hs, hp, hr, hsp, _, hrest⟩ => ⟨hs, hp, hr, hsp, ?_, hrest⟩, rfl, rfl⟩
    simp only [Dev.setDetector_detector, length_insertMark]
    omega

theorem setBlip_keeps {b : Bool} (h : Keeps d e) : Keeps d (setBlip b e) := setInputs_keeps h
theorem blipStart_keeps (h : Keeps d e) : Keeps d (blipStart e) := .ite (setDetector_keeps rfl le_rfl (setBlip_keeps h)) (setBlip_keeps h)

theorem blipEnd_keeps (h : Keeps d e) : Keeps d (blipEnd e) := by
  refine .step_if ?_ (setBlip_keeps h)
  split
  · exact .refl _
  · refine .ite (setDetector_keeps rfl le_rfl (.refl _)) ?_
    split
    · exact offerMark_keeps (setDetector_keeps rfl le_rfl (.refl _))
    · exact setDetector_keeps rfl le_rfl (.refl _)

/-! ### Time-driven events -/

theorem seekTimeout_keeps (h : Keeps d e) : Keeps d (seekTimeout e) := by
  unfold seekTimeout
  split
  · exact .ite (settle_keeps (failSeek_keeps h)) h
  · exact h

theorem huntingSeek_keeps (h : Keeps d e) : Keeps d (huntingSeek e) := by
  unfold huntingSeek
  split
  · exact .ite (settle_keeps (failSeek_keeps h)) h
  · exact h

theorem endRetensioning_keeps (h : Keeps d e) : Keeps d (endRetensioning e) := startHeld_keeps (setTransport_keeps rfl h)

theorem retensioned_keeps (h : Keeps d e) : Keeps d (retensioned e) := by
  unfold retensioned
  split
  · exact .ite (settle_keeps (endRetensioning_keeps h)) h
  · exact h

theorem park_keeps (h : Keeps d e) : Keeps d (park e) := .ite (raise_keeps (setTransport_keeps rfl h)) h

theorem slotDue_keeps {n : Fin 4} (h : Keeps d e) : Keeps d (slotDue n e) := by
  unfold slotDue
  split
  · exact .ite (dueTime_keeps h) h
  · exact h

theorem preInitDue_keeps {n : Fin 4} (h : Keeps d e) : Keeps d (preInitDue n e) := by
  unfold preInitDue
  dsimp only
  split
  · exact .ite (preInitOver_keeps h) h
  · exact h

theorem postInitDue_keeps {n : Fin 4} (h : Keeps d e) : Keeps d (postInitDue n e) := by
  unfold postInitDue
  dsimp only
  split
  · exact .ite (enterPolling_keeps h) h
  · exact h

theorem lensStep_keeps (h : Keeps d e) : Keeps d (lensStep e) := by
  unfold lensStep
  split
  · exact .ite (settle_keeps (searchLensIdle_keeps (issueStep_keeps h))) h
  · exact h

theorem homingEnds_keeps {st : LensState} (h : Keeps d e) : Keeps d (homingEnds st e) :=
  .step_if (releaseGrant_keeps (.refl _)) (raise_keeps (setLens_keeps h))

theorem homeSwitchSeen_keeps {x : Homing} (h : Keeps d e) : Keeps d (homeSwitchSeen x e) :=
  .step_if (homingEnds_keeps (.refl _)) (homingSeen_keeps h)

theorem lensSettled_keeps (h : Keeps d e) : Keeps d (lensSettled e) := by
  unfold lensSettled
  split
  · split
    · exact .ite (settle_keeps (searchLensIdle_keeps (lensRest_keeps h))) h
    · exact h
  · split
    · exact .ite (settle_keeps (homingEnds_keeps h)) h
    · exact h
  · exact h

theorem issueHomingStep_keeps {x : Homing} (h : Keeps d e) : Keeps d (issueHomingStep x e) := setLens_keeps h

theorem homingStepDue_keeps {b : Bool} (h : Keeps d e) : Keeps d (homingStepDue b e) := by
  unfold homingStepDue
  dsimp only
  split
  · exact .step_if (.ite (settle_keeps (homeSwitchSeen_keeps (.refl _))) (issueHomingStep_keeps (.refl _))) (setInputs_keeps h)
  · exact setInputs_keeps h

theorem homingGivesUp_keeps (h : Keeps d e) : Keeps d (homingGivesUp e) := by
  unfold homingGivesUp
  split
  · exact .ite (settle_keeps (homingEnds_keeps (setLens_keeps h))) h
  · exact h

theorem expireDeferred_keeps {t : Nat} (h : Keeps d e) : Keeps d (expireDeferred t e) := by
  unfold expireDeferred
  split
  · exact h
  · exact .ite (settle_keeps (completeIdle_keeps h)) h

theorem holdTimeout_keeps (h : Keeps d e) : Keeps d (holdTimeout e) := by
  unfold holdTimeout
  split
  · exact .ite (settle_keeps (endHold_keeps h)) h
  · exact h

end
end Sys2Proof.Proofs

/-! What the port unit and each request keep. -/

namespace Sys2Proof.Proofs

open Sys2Proof Sys2Proof.Machine

section
variable {d e f : Dev}

/-! ### The port unit -/

theorem shiftOut_keeps {id : PortId} {mosi due : List Byte} (h : Keeps d e) : Keeps d (shiftOut id mosi due e) :=
  setPort_keeps h fun hp => hp

/-- An answer comes with the state READY. -/
theorem respond_keeps {id : PortId} {tag : Byte} {r : Result} {payload : List Byte} (h : Keeps d e) :
    Keeps d (respond id tag r payload e) :=
  setPort_keeps h fun ⟨hf, hm, _⟩ => ⟨hf, hm, by simp⟩

/-- A port that is not READY holds no response, so it may become BUSY. -/
theorem becomeBusy_keeps {id : PortId} (h : Keeps d e) (hs : (e.ports.get id).state ≠ .ready) : Keeps d (becomeBusy id e) :=
  setPort_keeps h fun ⟨hf, hm, hr⟩ => ⟨hf, hm, by simpa [hs] using hr⟩

/-- What a transaction with a request frame comes to: it is ignored or refused by the port itself, or the port holds the answer that the
handler gives over a device that the port unit has kept. -/
theorem takeFrame_cases (r : Option Request) (id : PortId) (mosi : List Byte) (h : Handler) (d : Dev) :
    Keeps d (takeFrame r id mosi h d)
      ∨ ∃ tag p e, Keeps d e ∧ takeFrame r id mosi h d = respond id tag (h p e).result (h p e).payload (h p e).dev := by
  have hshift : Keeps d (shiftOut id mosi [] d) := shiftOut_keeps (.refl d)
  unfold takeFrame
  dsimp only
  split
  next hidle =>
    split_ifs
    · exact .inl (respond_keeps hshift)
    · split
      · exact .inl (respond_keeps hshift)
      · split_ifs
        · exact .inl (respond_keeps hshift)
        · refine .inr ⟨_, _, _, becomeBusy_keeps hshift ?_, rfl⟩
          rw [shiftOut_portState, hidle]
          decide
  · exact .inl hshift

theorem takeFrame_wellKeeps {r : Option Request} {id : PortId} {mosi : List Byte} {h : Handler}
    (hh : ∀ p d, Keeps d (h p d).dev) (d : Dev) : WellKeeps d (takeFrame r id mosi h d) := by
  rcases takeFrame_cases r id mosi h d with hk | ⟨tag, p, e, he, heq⟩
  · exact hk.weaken
  · exact heq ▸ (respond_keeps (he.trans (hh p e))).weaken

theorem takeFrame_wellKept {r : Option Request} {id : PortId} {mosi : List Byte} {h : Handler}
    (hh : ∀ p d, wellKept d → wellKept (h p d).dev) (d : Dev) (w : wellKept d) : wellKept (takeFrame r id mosi h d) := by
  rcases takeFrame_cases r id mosi h d with hk | ⟨tag, p, e, he, heq⟩
  · exact hk.wellKept w
  · exact heq ▸ (respond_keeps (.refl _)).wellKept (hh p e (he.wellKept w))

theorem softResetPort_kept {id : PortId} {p : Port} (h : portKept id p) : portKept id (softResetPort p) :=
  ⟨by simp [softResetPort], h.2.1, by simp [softResetPort]⟩

theorem softResetSlot_record (now : Nat) (s : GuardSlot) : (softResetSlot now s).record = s.record := by
  unfold softResetSlot
  split <;> rfl

theorem softResetRoll_datum (r : RollContext) :
    (softResetRoll r).datum = ((softResetRoll r).state == .ready || (softResetRoll r).state == .runout) := by
  simp only [softResetRoll]
  split <;> rfl

/-- SOFT_RESET keeps the configuration, the counter and the masks (R193). -/
theorem softReset_keeps (h : Keeps d e) : Keeps d (softReset e) := by
  refine h.trans ⟨fun ⟨hs, hp, _, _, _, _, _, _, hports⟩ => ?_, ?_, rfl⟩
  · refine ⟨hs, hp, softResetRoll_datum _, Nat.zero_le _, Nat.zero_le _, Nat.zero_le _,
      ⟨Nat.le_refl 1, (by decide : 1 ≤ 254)⟩, ⟨Nat.le_refl 1, (by decide : 1 ≤ 255)⟩, fun id => ?_⟩
    cases id with
    | capture => exact softResetPort_kept (hports .capture)
    | request => exact softResetPort_kept (hports .request)
    | service => exact softResetPort_kept (hports .service)
  · simp only [configuration, softReset, softResetGuard, softResetSlot_record]
    rfl

theorem takeFetch_keeps {id : PortId} {mosi : List Byte} (h : Keeps d e) : Keeps d (takeFetch id mosi e) := by
  unfold takeFetch
  dsimp only
  split
  · refine .step_unless ?_ (shiftOut_keeps h)
    exact .step_if (softReset_keeps (.refl _)) (setPort_keeps (.refl _) fun ⟨hf, hm, _⟩ => ⟨hf, hm, by simp⟩)
  · exact shiftOut_keeps h

/-! ### Answers -/

theorem Keeps.dev_ite {p : Prop} [Decidable p] {x y : Answer} (hx : Keeps d x.dev) (hy : Keeps d y.dev) :
    Keeps d (if p then x else y).dev := by
  split
  · exact hx
  · exact hy

theorem answered_keeps {payload : List Byte} (h : Keeps d e) : Keeps d (answered payload e).dev := h
theorem taken_keeps {r : Result} {payload : List Byte} (h : Keeps d e) : Keeps d (taken r payload e).dev := settle_keeps h

theorem needBytes_keeps {n : Nat} {h : Handler} (hh : ∀ p d, Keeps d (h p d).dev) (p : List Byte) (d : Dev) :
    Keeps d (needBytes n h p d).dev :=
  .dev_ite (.refl d) (hh p d)

theorem needBytes_wellKept {n : Nat} {h : Handler} (hh : ∀ p d, wellKept d → wellKept (h p d).dev) (p : List Byte) (d : Dev)
    (w : wellKept d) : wellKept (needBytes n h p d).dev := by
  unfold needBytes
  split
  · exact w
  · exact hh p d w

/-! ### Requests of the ports -/

theorem answerSoftReset_keeps (p : List Byte) (d : Dev) : Keeps d (answerSoftReset p d).dev :=
  ⟨fun ⟨hs, hp, hr, hsp, hmk, hhn, hrun, htk, hports⟩ =>
    ⟨hs, hp, hr, hsp, hmk, hhn, hrun, htk, fun id => by cases id <;> exact hports _⟩, rfl, rfl⟩

theorem levelEvents_within (id : PortId) (d : Dev) : levelEvents id d &&& ~~~(portKinds id) = 0 := by
  cases id <;> simp only [levelEvents] <;> (try split) <;> decide

theorem and_within {a b k : BitVec 16} (h : b &&& ~~~k = 0) : a &&& b &&& ~~~k = 0 := by
  rw [BitVec.and_assoc, h]
  simp

theorem and_within_left {a b k : BitVec 16} (h : a &&& ~~~k = 0) : a &&& b &&& ~~~k = 0 := by
  rw [BitVec.and_comm a b]
  exact and_within h

/-- The flags left by an acknowledgement are flags that were set, or level flags of the port's list. -/
theorem answerAckEvents_keeps (id : PortId) (p : List Byte) (d : Dev) : Keeps d (answerAckEvents id p d).dev :=
  needBytes_keeps (fun _ d => setPort_keeps (.refl d) fun ⟨hf, hm, hr⟩ =>
    ⟨flags_within_or (and_within_left hf) (and_within (levelEvents_within _ _)), hm, hr⟩) p d

theorem answerEventMask_keeps (id : PortId) (p : List Byte) (d : Dev) : Keeps d (answerEventMask id p d).dev :=
  needBytes_keeps (fun _ d => setPort_keeps (.refl d) fun ⟨hf, _, hr⟩ => ⟨hf, flags_and_within _ _, hr⟩) p d

/-! ### Requests of the frame index -/

theorem answerIndexRead_keeps (p : List Byte) (d : Dev) : Keeps d (answerIndexRead p d).dev :=
  needBytes_keeps (fun _ d => .dev_ite (.refl d) (.dev_ite (.refl d) (.refl d))) p d

theorem answerIndexFind_keeps (p : List Byte) (d : Dev) : Keeps d (answerIndexFind p d).dev := by
  refine needBytes_keeps (fun _ d => ?_) p d
  split
  · exact .refl d
  · exact .refl d

theorem answerImportBegin_keeps (p : List Byte) (d : Dev) : Keeps d (answerImportBegin p d).dev :=
  needBytes_keeps (fun _ d => .dev_ite (.refl d) (.dev_ite (.refl d) (.dev_ite (.refl d)
    (answered_keeps (setIndex_keeps (.refl d)))))) p d

theorem abortImport_keeps {n : Nat} (h : Keeps d e) : Keeps d (abortImport n e).dev := setIndex_keeps h

theorem answerImportEntry_keeps (p : List Byte) (d : Dev) : Keeps d (answerImportEntry p d).dev := by
  refine needBytes_keeps (fun _ d => .dev_ite (.refl d) ?_) p d
  split
  · exact .refl d
  · refine .dev_ite (abortImport_keeps (.refl d)) ?_
    split
    · exact abortImport_keeps (.refl d)
    · exact answered_keeps (setIndex_keeps (.refl d))

theorem finishImport_keeps {es : List IndexEntry} (h : Keeps d e) : Keeps d (finishImport es e) :=
  .step_if (closeIndex_keeps (.refl _)) (resolveDeferred_keeps (setIndexState_keeps (setIndex_keeps h)))

theorem answerImportEnd_keeps (p : List Byte) (d : Dev) : Keeps d (answerImportEnd p d).dev := by
  unfold answerImportEnd
  split
  · exact .refl d
  · exact .dev_ite (abortImport_keeps (.refl d)) (taken_keeps (finishImport_keeps (.refl d)))

theorem answerIndexClose_keeps (p : List Byte) (d : Dev) : Keeps d (answerIndexClose p d).dev := by
  unfold answerIndexClose
  split
  · exact .refl d
  · exact .refl d
  · exact taken_keeps (closeIndex_keeps (.refl d))

theorem answerIndexReopen_keeps (p : List Byte) (d : Dev) : Keeps d (answerIndexReopen p d).dev :=
  .dev_ite (.refl d) (answered_keeps (setIndexState_keeps (.refl d)))

/-! ### Requests of the Capture port -/

/-- The run counter goes from 1 to 254 and back to 1 (R142). -/
theorem queueRun_keeps {r : RunRecord} (h : Keeps d e) : Keeps d (queueRun r e) := by
  refine raise_keeps (h.trans ⟨fun ⟨hs, hp, hr, hsp, hmk, hhn, _, hrest⟩ => ⟨hs, hp, hr, hsp, hmk, hhn, ?_, hrest⟩, rfl, rfl⟩)
  simp only [Dev.setScan_scan, nextRunNumber]
  split <;> omega

theorem answerScanStart_keeps (p : List Byte) (d : Dev) : Keeps d (answerScanStart p d).dev := by
  refine needBytes_keeps (fun _ d => .dev_ite (.refl d) ?_) p d
  split
  · refine .dev_ite (.refl d) ?_
    split
    · exact .refl d
    · exact .dev_ite (.refl d) (taken_keeps (queueRun_keeps (.refl d)))
  · exact .refl d

theorem pauseSuspended_keeps {r : RunRecord} (h : Keeps d e) : Keeps d (pauseSuspended r e) := .ite h (modifyRun_keeps h)

theorem answerScanPause_keeps (p : List Byte) (d : Dev) : Keeps d (answerScanPause p d).dev := by
  unfold answerScanPause
  split
  · exact .refl d
  · split
    · exact taken_keeps (suspendRun_keeps (.refl d))
    · exact taken_keeps (cutPreparation_keeps (.refl d))
    · exact taken_keeps (beginSuspending_keeps (.refl d))
    · exact taken_keeps (setRunCause_keeps (.refl d))
    · exact taken_keeps (pauseSuspended_keeps (.refl d))
    · exact .refl d
    · exact .refl d

theorem answerScanResume_keeps (p : List Byte) (d : Dev) : Keeps d (answerScanResume p d).dev := by
  unfold answerScanResume
  split
  · exact .refl d
  · exact .dev_ite (.refl d) (.dev_ite (.dev_ite (.refl d) (taken_keeps (modifyRun_keeps (.refl d)))) (.refl d))

theorem abortActive_keeps (h : Keeps d e) : Keeps d (abortActive e) :=
  beginEnding_keeps (stopIfRunning_keeps (abandonSearch_keeps (disarm_keeps h)))

theorem answerScanAbort_keeps (p : List Byte) (d : Dev) : Keeps d (answerScanAbort p d).dev := by
  unfold answerScanAbort
  split
  · exact .refl d
  · split
    · exact taken_keeps (endRun_keeps (setRunCause_keeps (.refl d)))
    · exact taken_keeps (endRun_keeps (setRunCause_keeps (.refl d)))
    · exact taken_keeps (abortActive_keeps (.refl d))
    · exact taken_keeps (abortActive_keeps (.refl d))
    · exact taken_keeps (abortActive_keeps (.refl d))
    · exact .refl d
    · exact .refl d

theorem answerNoticesRead_keeps (p : List Byte) (d : Dev) : Keeps d (answerNoticesRead p d).dev := by
  unfold answerNoticesRead
  split
  · exact .refl d
  · exact taken_keeps (setScan_keeps rfl (.refl d))

/-! ### Requests of the Request port -/

theorem nextTicket_within (t : Nat) : 1 ≤ nextTicket t ∧ nextTicket t ≤ 255 := by
  unfold nextTicket
  split <;> omega

/-- The ticket counter goes from 1 to 255 and back to 1 (R165). -/
theorem admitRequest_keeps {r : RetrievalRequest} (h : Keeps d e) : Keeps d (admitRequest r e) :=
  .step_if (completeIdle_keeps (.refl _))
    (h.trans ⟨fun ⟨hs, hp, hr, hsp, hmk, hhn, hrun, _, hports⟩ =>
      ⟨hs, hp, hr, hsp, hmk, hhn, hrun, nextTicket_within _, hports⟩, rfl, rfl⟩)

theorem answerRetrieve_keeps (p : List Byte) (d : Dev) : Keeps d (answerRetrieve p d).dev := by
  refine needBytes_keeps (fun _ d => .dev_ite (.refl d) ?_) p d
  split
  · exact .dev_ite (.refl d) (.dev_ite (.refl d) (taken_keeps (admitRequest_keeps (.refl d))))
  · exact .refl d

theorem cancelActive_keeps (h : Keeps d e) : Keeps d (cancelActive e) :=
  .ite h (giveStop_keeps (modifyAttempt_keeps (disarmConfirm_keeps h)))

theorem answerCancel_keeps (p : List Byte) (d : Dev) : Keeps d (answerCancel p d).dev := by
  refine needBytes_keeps (fun _ d => ?_) p d
  split
  · exact .refl d
  · split
    · exact taken_keeps (completeIdle_keeps (.refl d))
    · exact taken_keeps (completeIdle_keeps (.refl d))
    · exact taken_keeps (cancelActive_keeps (.refl d))

/-- At most 4 hints are kept (R178). -/
theorem answerHint_keeps (p : List Byte) (d : Dev) : Keeps d (answerHint p d).dev := by
  refine needBytes_keeps (fun p d => taken_keeps ?_) p d
  exact ⟨fun ⟨hs, hp, hr, hsp, hmk, _, hrest⟩ => ⟨hs, hp, hr, hsp, hmk, List.length_take_le _ _, hrest⟩, rfl, rfl⟩

theorem answerReleaseHold_keeps (p : List Byte) (d : Dev) : Keeps d (answerReleaseHold p d).dev := by
  unfold answerReleaseHold
  split
  · exact taken_keeps (endHold_keeps (.refl d))
  · exact .refl d

theorem answerCompletionsRead_keeps (p : List Byte) (d : Dev) : Keeps d (answerCompletionsRead p d).dev :=
  .dev_ite (.refl d) (answered_keeps (setRetrieval_keeps rfl le_rfl (.refl d)))

/-! ### Roll requests -/

theorem releaseRequests_keeps {rs : List RetrievalRequest} (h : Keeps d e) : Keeps d (releaseRequests rs e) := by
  induction rs generalizing e with
  | nil => exact h
  | cons r rest ih => exact ih (completeRequest_keeps h)

theorem releaseRoll_keeps (h : Keeps d e) : Keeps d (releaseRoll e) := by
  refine setRollState_keeps (setRoll_keeps rfl (Nat.zero_le _) (setIndexState_keeps (setIndex_keeps (releaseGrant_keeps ?_))))
  refine setRetrieval_keeps rfl (Nat.zero_le _) (releaseRequests_keeps ?_)
  exact .step_if (endRun_keeps (setRunCause_keeps (.refl _))) h

theorem answerReleaseRoll_keeps (p : List Byte) (d : Dev) : Keeps d (answerReleaseRoll p d).dev :=
  .dev_ite (.refl d) (.dev_ite (.refl d) (taken_keeps (releaseRoll_keeps (.refl d))))

/-- A datum within its range is a signed 32-bit number. -/
theorem setDatum_keeps {v : Int} (h : Keeps d e) (hv : ¬ (v < -2000000 ∨ 80000000 < v)) : Keeps d (setDatum v e) := by
  refine setRollState_keeps (setCounter_keeps ?_ (.step_if (shiftDatum_keeps (.refl _)) h))
  simp only [Config.minPosition, Config.maxPosition]
  omega

theorem answerSetDatum_keeps (p : List Byte) (d : Dev) : Keeps d (answerSetDatum p d).dev := by
  refine .dev_ite (.refl d) (.dev_ite (.refl d) ?_)
  split
  · exact .refl d
  next hv => exact taken_keeps (setDatum_keeps (.refl d) hv)

/-! ### Motion and lens requests -/

theorem serviceOrder_keeps {k : OrderKind} (h : Keeps d e) : Keeps d (serviceOrder k e) := giveOrder_keeps (giveGrant_keeps h)

theorem answerJog_keeps (p : List Byte) (d : Dev) : Keeps d (answerJog p d).dev := by
  refine needBytes_keeps (fun _ d => ?_) p d
  split
  · exact .refl d
  · exact .refl d
  · exact taken_keeps (serviceOrder_keeps (.refl d))

theorem answerServiceSeek_keeps (p : List Byte) (d : Dev) : Keeps d (answerServiceSeek p d).dev := by
  refine needBytes_keeps (fun _ d => .dev_ite (.refl d) ?_) p d
  split
  · exact .refl d
  · exact .dev_ite (.refl d) (taken_keeps (serviceOrder_keeps (.refl d)))

theorem serviceStop_keeps (h : Keeps d e) : Keeps d (serviceStop e) :=
  .step_if (endSearch_keeps (.refl _)) (giveStop_keeps h)

theorem answerStop_keeps (p : List Byte) (d : Dev) : Keeps d (answerStop p d).dev := by
  unfold answerStop
  split
  · exact taken_keeps (serviceStop_keeps (.refl d))
  · exact .refl d
  · exact .refl d
  · exact .refl d

theorem answerHalt_keeps (p : List Byte) (d : Dev) : Keeps d (answerHalt p d).dev := taken_keeps (halt_keeps (.refl d))

theorem answerClearFault_keeps (p : List Byte) (d : Dev) : Keeps d (answerClearFault p d).dev :=
  .dev_ite (.refl d) (.dev_ite (.refl d) (taken_keeps (setTransport_keeps rfl (.refl d))))

theorem startHoming_keeps (h : Keeps d e) : Keeps d (startHoming e) :=
  .step_if (homeSwitchSeen_keeps (.refl _)) (noteLensMoved_keeps (setLens_keeps h))

theorem answerLensHome_keeps (p : List Byte) (d : Dev) : Keeps d (answerLensHome p d).dev := by
  unfold answerLensHome
  split
  · exact .refl d
  · exact .dev_ite (.refl d) (taken_keeps (startHoming_keeps (giveGrant_keeps (.refl d))))

theorem serviceMove_keeps {n : Nat} (h : Keeps d e) : Keeps d (serviceMove n e) := by
  unfold serviceMove
  split
  next hm => exact setLens_keeps (moveRequest_eq_keeps hm h)
  next hm => exact raise_keeps (moveRequest_eq_keeps hm h)

theorem answerLensMove_keeps (p : List Byte) (d : Dev) : Keeps d (answerLensMove p d).dev :=
  needBytes_keeps (fun _ d => .dev_ite (.refl d) (.dev_ite (.refl d) (taken_keeps (serviceMove_keeps (.refl d))))) p d

theorem answerFocusSearch_keeps (p : List Byte) (d : Dev) : Keeps d (answerFocusSearch p d).dev := by
  unfold answerFocusSearch
  split
  · exact .refl d
  · exact .dev_ite (.refl d) (taken_keeps (beginSearch_keeps (giveGrant_keeps (.refl d))))

/-! ### Guard requests and reads -/

theorem answerSlotRestart_keeps (p : List Byte) (d : Dev) : Keeps d (answerSlotRestart p d).dev := by
  refine needBytes_keeps (fun _ d => ?_) p d
  split
  · exact .refl d
  · exact .dev_ite (taken_keeps (recomputeGuard_keeps (startSlot_keeps (.refl d)))) (.refl d)

theorem answerSlotRead_keeps (p : List Byte) (d : Dev) : Keeps d (answerSlotRead p d).dev := by
  refine needBytes_keeps (fun _ d => ?_) p d
  split
  · exact .refl d
  · exact .refl d

theorem answerScriptRead_keeps (p : List Byte) (d : Dev) : Keeps d (answerScriptRead p d).dev :=
  needBytes_keeps (fun _ d => .dev_ite (.refl d) (.refl d)) p d

theorem answerConfigRead_keeps (p : List Byte) (d : Dev) : Keeps d (answerConfigRead p d).dev := by
  refine needBytes_keeps (fun _ d => ?_) p d
  split
  · exact .refl d
  · exact .refl d

/-! ### The requests that write configuration -/

theorem taken_wellKept {r : Result} {payload : List Byte} (w : wellKept d) : wellKept (taken r payload d).dev :=
  (settle_keeps (.refl d)).wellKept w

theorem answerDeclareRoll_wellKept (p : List Byte) (d : Dev) (w : wellKept d) : wellKept (answerDeclareRoll p d).dev := by
  refine needBytes_wellKept (fun p d w => ?_) p d w
  split_ifs
  · exact w
  · exact w
  · dsimp only
    split
    · exact w
    · split_ifs
      · exact w
      · refine taken_wellKept ((setRollState_keeps (.refl _)).wellKept ?_)
        have hcleared := setRoll_keeps (x := { d.roll with splices := [] }) rfl (Nat.zero_le _) (.refl d)
        exact hcleared.wellKept w

/-- A slot's record is no part of what is kept. -/
theorem modifySlot_wellKept {n : Fin 4} {g : GuardSlot → GuardSlot} (w : wellKept d) : wellKept (modifySlot n g d) := by
  have hscript : ∀ x, (d.guard.put n x).script = d.guard.script := fun _ => by match n with | 0 | 1 | 2 | 3 => rfl
  simpa [wellKept, modifySlot, hscript] using w

theorem recomputeGuard_setGuard_wellKept {x : Guard} (hx : guardConfiguration x = guardConfiguration d.guard) (w : wellKept d) :
    wellKept (recomputeGuard (d.setGuard x)) :=
  (recomputeGuard_keeps (setGuard_keeps hx (.refl d))).wellKept w

theorem disableSlot_wellKept {n : Fin 4} (w : wellKept d) : wellKept (disableSlot n d) := by
  unfold disableSlot
  split_ifs
  · exact modifySlot_wellKept w
  · exact recomputeGuard_setGuard_wellKept rfl (modifySlot_wellKept w)

theorem answerSlotConfig_wellKept (p : List Byte) (d : Dev) (w : wellKept d) : wellKept (answerSlotConfig p d).dev := by
  refine needBytes_wellKept (fun p d w => ?_) p d w
  split
  · split_ifs
    · exact w
    · split
      · exact taken_wellKept ((recomputeGuard_keeps (startSlot_keeps (.refl _))).wellKept (modifySlot_wellKept w))
      · exact w
  · exact taken_wellKept (disableSlot_wellKept w)
  · exact w

/-- A store keeps the canonical form of the script memory. -/
theorem answerScriptWrite_wellKept (p : List Byte) (d : Dev) (w : wellKept d) : wellKept (answerScriptWrite p d).dev := by
  refine needBytes_wellKept (fun p d w => ?_) p d w
  dsimp only
  split
  · exact w
  · split
    · exact w
    · split
      · exact w
      · obtain ⟨hs, hrest⟩ := w
        exact ⟨Memory.store_wf hs _ _, hrest⟩

theorem writeItem_wellKept {c : ConfigItem} {h : List Byte → Dev → Answer} (hh : ∀ v d, wellKept d → wellKept (h v d).dev)
    (p : List Byte) (d : Dev) (w : wellKept d) : wellKept (writeItem c h p d).dev :=
  needBytes_wellKept (fun _ => hh _) p d w

theorem wellKept_dev_ite {p : Prop} [Decidable p] {x y : Answer} (hx : wellKept x.dev) (hy : wellKept y.dev) :
    wellKept (if p then x else y).dev := by
  split
  · exact hx
  · exact hy

theorem discardLargePending_keeps (h : Keeps d e) : Keeps d (discardLargePending e) := by
  unfold discardLargePending
  split
  · exact .ite (setRoll_keeps rfl le_rfl h) h
  · exact h

theorem answerRollItem_wellKept (i : RollItem) (p : List Byte) (d : Dev) (w : wellKept d) : wellKept (answerRollItem i p d).dev := by
  refine writeItem_wellKept (fun v d w => wellKept_dev_ite w ?_) p d w
  exact (Keeps.step_if (discardLargePending_keeps (.refl _)) (.refl _)).wellKept
    (show wellKept (d.setRoll { d.roll with cfg := _ }) from w)

theorem answerTransportItem_wellKept (i : TransportItem) (p : List Byte) (d : Dev) (w : wellKept d) :
    wellKept (answerTransportItem i p d).dev :=
  writeItem_wellKept (fun _ _ w => wellKept_dev_ite w w) p d w

theorem answerBusSpeed_wellKept (p : List Byte) (d : Dev) (w : wellKept d) : wellKept (answerBusSpeed p d).dev :=
  writeItem_wellKept (fun _ _ w => wellKept_dev_ite w w) p d w

theorem answerCombineMode_wellKept (p : List Byte) (d : Dev) (w : wellKept d) : wellKept (answerCombineMode p d).dev := by
  refine writeItem_wellKept (fun v d w => ?_) p d w
  dsimp only
  split
  · exact w
  · exact (settle_keeps (recomputeGuard_keeps (.refl _))).wellKept w

theorem answerLineRate_wellKept (p : List Byte) (d : Dev) (w : wellKept d) : wellKept (answerLineRate p d).dev :=
  writeItem_wellKept (fun _ _ w => w) p d w

theorem answerTapMap_wellKept (p : List Byte) (d : Dev) (w : wellKept d) : wellKept (answerTapMap p d).dev := by
  refine writeItem_wellKept (fun v d w => wellKept_dev_ite w ?_) p d w
  split
  · exact w
  · exact w

theorem answerStride_wellKept (p : List Byte) (d : Dev) (w : wellKept d) : wellKept (answerStride p d).dev :=
  writeItem_wellKept (fun _ _ w => wellKept_dev_ite w (wellKept_dev_ite w w)) p d w

theorem answerFocusItem_wellKept (i : FocusItem) (p : List Byte) (d : Dev) (w : wellKept d) :
    wellKept (answerFocusItem i p d).dev :=
  writeItem_wellKept (fun _ _ w => w) p d w

theorem answerDetectorItem_wellKept (i : DetectorItem) (p : List Byte) (d : Dev) (w : wellKept d) :
    wellKept (answerDetectorItem i p d).dev := by
  refine writeItem_wellKept (fun v d w => wellKept_dev_ite w ?_) p d w
  split
  · exact w
  · exact w

theorem answerRetrievalItem_wellKept (i : RetrievalItem) (p : List Byte) (d : Dev) (w : wellKept d) :
    wellKept (answerRetrievalItem i p d).dev :=
  writeItem_wellKept (fun _ _ w => w) p d w

theorem portReset_kept (id : PortId) : portKept id (Port.reset (portKinds id)) := by
  cases id <;> exact ⟨by decide, by decide, by decide⟩

theorem devReset_wellKept : wellKept Dev.reset := by
  refine ⟨rfl, by decide, rfl, Nat.zero_le _, Nat.zero_le _, Nat.zero_le _, by decide, by decide, fun id => ?_⟩
  cases id <;> exact portReset_kept _

/-- The levels at the release are no part of what is kept. -/
theorem pinReset_wellKept (l : ReleaseLevels) : wellKept (pinReset l) := devReset_wellKept

end
end Sys2Proof.Proofs

/-! What every command keeps: O58, O59 and O60. -/

namespace Sys2Proof.Proofs

open Sys2Proof Sys2Proof.Machine

/-- Every command that writes no configuration is an effect on the device that keeps it and its configuration. -/
theorem exec_wellKeeps (c : Instr) (hc : writesConfiguration c = false) :
    ∃ f : Dev → Dev, (∀ s, exec c s = onDev f s) ∧ ∀ d, WellKeeps d (f d) := by
  cases c with
  | softReset => exact ⟨_, fun _ => rfl, takeFrame_wellKeeps answerSoftReset_keeps⟩
  | unknownCodeFrame => exact ⟨_, fun _ => rfl, takeFrame_wellKeeps fun _ => .refl⟩
  | statusRequest => exact ⟨_, fun _ => rfl, takeFrame_wellKeeps fun _ => .refl⟩
  | identify => exact ⟨_, fun _ => rfl, takeFrame_wellKeeps fun _ => .refl⟩
  | fetch => exact ⟨_, fun _ => rfl, fun d => (takeFetch_keeps (.refl d)).weaken⟩
  | ackEvents => exact ⟨_, fun _ => rfl, takeFrame_wellKeeps (answerAckEvents_keeps _)⟩
  | eventMask => exact ⟨_, fun _ => rfl, takeFrame_wellKeeps (answerEventMask_keeps _)⟩
  | indexRead => exact ⟨_, fun _ => rfl, takeFrame_wellKeeps answerIndexRead_keeps⟩
  | scanStart => exact ⟨_, fun _ => rfl, takeFrame_wellKeeps answerScanStart_keeps⟩
  | scanPause => exact ⟨_, fun _ => rfl, takeFrame_wellKeeps answerScanPause_keeps⟩
  | scanResume => exact ⟨_, fun _ => rfl, takeFrame_wellKeeps answerScanResume_keeps⟩
  | scanAbort => exact ⟨_, fun _ => rfl, takeFrame_wellKeeps answerScanAbort_keeps⟩
  | noticesRead => exact ⟨_, fun _ => rfl, takeFrame_wellKeeps answerNoticesRead_keeps⟩
  | retrieve => exact ⟨_, fun _ => rfl, takeFrame_wellKeeps answerRetrieve_keeps⟩
  | cancel => exact ⟨_, fun _ => rfl, takeFrame_wellKeeps answerCancel_keeps⟩
  | hint => exact ⟨_, fun _ => rfl, takeFrame_wellKeeps answerHint_keeps⟩
  | releaseHold => exact ⟨_, fun _ => rfl, takeFrame_wellKeeps answerReleaseHold_keeps⟩
  | completionsRead => exact ⟨_, fun _ => rfl, takeFrame_wellKeeps answerCompletionsRead_keeps⟩
  | indexFind => exact ⟨_, fun _ => rfl, takeFrame_wellKeeps answerIndexFind_keeps⟩
  | releaseRoll => exact ⟨_, fun _ => rfl, takeFrame_wellKeeps answerReleaseRoll_keeps⟩
  | setDatum => exact ⟨_, fun _ => rfl, takeFrame_wellKeeps answerSetDatum_keeps⟩
  | jog => exact ⟨_, fun _ => rfl, takeFrame_wellKeeps answerJog_keeps⟩
  | serviceSeek => exact ⟨_, fun _ => rfl, takeFrame_wellKeeps answerServiceSeek_keeps⟩
  | stop => exact ⟨_, fun _ => rfl, takeFrame_wellKeeps answerStop_keeps⟩
  | halt => exact ⟨_, fun _ => rfl, takeFrame_wellKeeps answerHalt_keeps⟩
  | clearFault => exact ⟨_, fun _ => rfl, takeFrame_wellKeeps answerClearFault_keeps⟩
  | lensHome => exact ⟨_, fun _ => rfl, takeFrame_wellKeeps answerLensHome_keeps⟩
  | lensMove => exact ⟨_, fun _ => rfl, takeFrame_wellKeeps answerLensMove_keeps⟩
  | focusSearch => exact ⟨_, fun _ => rfl, takeFrame_wellKeeps answerFocusSearch_keeps⟩
  | slotRestart => exact ⟨_, fun _ => rfl, takeFrame_wellKeeps answerSlotRestart_keeps⟩
  | slotRead => exact ⟨_, fun _ => rfl, takeFrame_wellKeeps answerSlotRead_keeps⟩
  | scriptRead => exact ⟨_, fun _ => rfl, takeFrame_wellKeeps answerScriptRead_keeps⟩
  | configWriteUnknownItem =>
    exact ⟨_, fun _ => rfl, takeFrame_wellKeeps (needBytes_keeps fun _ => .refl)⟩
  | configRead => exact ⟨_, fun _ => rfl, takeFrame_wellKeeps answerConfigRead_keeps⟩
  | indexImportBegin => exact ⟨_, fun _ => rfl, takeFrame_wellKeeps answerImportBegin_keeps⟩
  | indexImportEntry => exact ⟨_, fun _ => rfl, takeFrame_wellKeeps answerImportEntry_keeps⟩
  | indexImportEnd => exact ⟨_, fun _ => rfl, takeFrame_wellKeeps answerImportEnd_keeps⟩
  | indexClose => exact ⟨_, fun _ => rfl, takeFrame_wellKeeps answerIndexClose_keeps⟩
  | indexReopen => exact ⟨_, fun _ => rfl, takeFrame_wellKeeps answerIndexReopen_keeps⟩
  | filmPresentChange => exact ⟨_, fun _ => rfl, fun d => (filmSamples_keeps (.refl d)).weaken⟩
  | encoderPhaseChange => exact ⟨_, fun _ => rfl, phaseChange_wellKeeps _ _⟩
  | encoderUnsettledExpiry => exact ⟨_, fun _ => rfl, unsettledExpiry_wellKeeps⟩
  | splicePulse => exact ⟨_, fun _ => rfl, fun d => (splicePulse_keeps (.refl d)).weaken⟩
  | profileStep => exact ⟨_, fun _ => rfl, millisecond_wellKeeps _⟩
  | seekTimeout => exact ⟨_, fun _ => rfl, fun d => (seekTimeout_keeps (.refl d)).weaken⟩
  | hunting => exact ⟨_, fun _ => rfl, fun d => (huntingSeek_keeps (.refl d)).weaken⟩
  | driveFault => exact ⟨_, fun _ => rfl, fun d => (driveFaultSample_keeps (.refl d)).weaken⟩
  | retensioningEnd => exact ⟨_, fun _ => rfl, fun d => (retensioned_keeps (.refl d)).weaken⟩
  | parkTimeout => exact ⟨_, fun _ => rfl, fun d => (park_keeps (.refl d)).weaken⟩
  | slotDueTime => exact ⟨_, fun _ => rfl, fun d => (slotDue_keeps (.refl d)).weaken⟩
  | preInitWaitEnd => exact ⟨_, fun _ => rfl, fun d => (preInitDue_keeps (.refl d)).weaken⟩
  | postInitWaitEnd => exact ⟨_, fun _ => rfl, fun d => (postInitDue_keeps (.refl d)).weaken⟩
  | busAttemptEnd => exact ⟨_, fun _ => rfl, fun d => (attemptEnd_keeps (.refl d)).weaken⟩
  | sclHoldTimeout => exact ⟨_, fun _ => rfl, fun d => (sclHeld_keeps (.refl d)).weaken⟩
  | segmentComplete byte =>
    exact ⟨fun d => settle (receiveByte byte d), fun _ => rfl, fun d => (settle_keeps (receiveByte_keeps (.refl d))).weaken⟩
  | blipStartEdge => exact ⟨_, fun _ => rfl, fun d => (blipStart_keeps (.refl d)).weaken⟩
  | blipEndEdge => exact ⟨_, fun _ => rfl, fun d => (blipEnd_keeps (.refl d)).weaken⟩
  | lensStepDue => exact ⟨_, fun _ => rfl, fun d => (lensStep_keeps (.refl d)).weaken⟩
  | lensSettleEnd => exact ⟨_, fun _ => rfl, fun d => (lensSettled_keeps (.refl d)).weaken⟩
  | homingStep => exact ⟨_, fun _ => rfl, fun d => (homingStepDue_keeps (.refl d)).weaken⟩
  | homingStepLimit => exact ⟨_, fun _ => rfl, fun d => (homingGivesUp_keeps (.refl d)).weaken⟩
  | deferralExpiry => exact ⟨_, fun _ => rfl, fun d => (expireDeferred_keeps (.refl d)).weaken⟩
  | holdTimeout => exact ⟨_, fun _ => rfl, fun d => (holdTimeout_keeps (.refl d)).weaken⟩
  | monitorByteReceived byte =>
    exact ⟨fun d => settle (receiveByte byte d), fun _ => rfl, fun d => (settle_keeps (receiveByte_keeps (.refl d))).weaken⟩
  | _ => cases hc

/-- Every command that may write configuration is an effect on the device that leaves it well kept. -/
theorem exec_wellKept (c : Instr) (hc : writesConfiguration c = true) :
    ∃ f : Dev → Dev, (∀ s, exec c s = onDev f s) ∧ ∀ d, wellKept d → wellKept (f d) := by
  cases c with
  | pinReset levels => exact ⟨fun _ => pinReset levels, fun _ => rfl, fun _ _ => pinReset_wellKept levels⟩
  | declareRoll => exact ⟨_, fun _ => rfl, takeFrame_wellKept answerDeclareRoll_wellKept⟩
  | slotConfigEnable => exact ⟨_, fun _ => rfl, takeFrame_wellKept answerSlotConfig_wellKept⟩
  | slotConfigDisable => exact ⟨_, fun _ => rfl, takeFrame_wellKept answerSlotConfig_wellKept⟩
  | scriptWrite => exact ⟨_, fun _ => rfl, takeFrame_wellKept answerScriptWrite_wellKept⟩
  | configWriteRollItem => exact ⟨_, fun _ => rfl, takeFrame_wellKept (answerRollItem_wellKept _)⟩
  | configWriteTransportItem => exact ⟨_, fun _ => rfl, takeFrame_wellKept (answerTransportItem_wellKept _)⟩
  | configWriteBusSpeed => exact ⟨_, fun _ => rfl, takeFrame_wellKept answerBusSpeed_wellKept⟩
  | configWriteCombineMode => exact ⟨_, fun _ => rfl, takeFrame_wellKept answerCombineMode_wellKept⟩
  | configWriteLineRate => exact ⟨_, fun _ => rfl, takeFrame_wellKept answerLineRate_wellKept⟩
  | configWriteTapMap => exact ⟨_, fun _ => rfl, takeFrame_wellKept answerTapMap_wellKept⟩
  | configWriteStride => exact ⟨_, fun _ => rfl, takeFrame_wellKept answerStride_wellKept⟩
  | configWriteFocusItem => exact ⟨_, fun _ => rfl, takeFrame_wellKept (answerFocusItem_wellKept _)⟩
  | configWriteDetectorItem => exact ⟨_, fun _ => rfl, takeFrame_wellKept (answerDetectorItem_wellKept _)⟩
  | configWriteRetrievalItem => exact ⟨_, fun _ => rfl, takeFrame_wellKept (answerRetrievalItem_wellKept _)⟩
  | _ => cases hc

/-- A command that writes no configuration keeps the device and its configuration. -/
theorem wellKeeps_of_exec {c : Instr} {s t : State} (hc : writesConfiguration c = false) (h : exec c s = .next t) : WellKeeps s.dev t.dev := by
  obtain ⟨f, hf, hk⟩ := exec_wellKeeps c hc
  rw [hf] at h
  obtain rfl := Host.Outcome.next.inj h
  exact hk s.dev

/-- Any command leaves the device well kept. -/
theorem wellKept_of_exec {c : Instr} {s t : State} (w : wellKept s.dev) (h : exec c s = .next t) : wellKept t.dev := by
  cases hc : writesConfiguration c with
  | false => exact (wellKeeps_of_exec hc h).wellKept w
  | true =>
    obtain ⟨f, hf, hk⟩ := exec_wellKept c hc
    rw [hf] at h
    obtain rfl := Host.Outcome.next.inj h
    exact hk s.dev w

/-- Settles O58: the reset values of Dev.reset meet each part of the invariant. -/
theorem resetIsWellKept : Obligations.ResetIsWellKept := devReset_wellKept

/-- Settles O59, by the command at the front of the queue: each one leaves the device well kept. -/
theorem stepsKeepTheDeviceWellKept : Obligations.StepsKeepTheDeviceWellKept := by
  intro s t w h
  unfold step at h
  split at h
  · exact Host.Outcome.next.inj h ▸ w
  next i rest _ => exact wellKept_of_exec (s := { s with pending := rest }) w h

/-- Settles O60, by the same walk over the commands. -/
theorem configurationChangesOnlyByItsWrites : Obligations.ConfigurationChangesOnlyByItsWrites :=
  fun _ _ _ hc h => (wellKeeps_of_exec hc h).configuration

end Sys2Proof.Proofs

/-! Pin reset, the splice list and the film-present input: O3, O17 and O18. -/

namespace Sys2Proof.Proofs

open Sys2Proof Sys2Proof.Machine

/-! ### Pin reset -/

/-- Settles O3: the device that PIN_RESET makes is that of Dev.reset with the sampled levels, block by block. -/
theorem pinResetGivesResetValues : Obligations.PinResetGivesResetValues := by
  intro l s
  refine ⟨s.setDev (pinReset l), rfl, rfl, ?roll, ?metering, ?transport, ?guard, ?lines, ?focus, ?detector, ?index, ?scan, ?retrieval,
    ?ports⟩
  case roll => exact ⟨rfl, rfl, rfl, rfl, rfl, rfl, rfl, rfl⟩
  case metering => exact ⟨rfl, rfl, rfl, rfl⟩
  case transport => exact ⟨rfl, rfl, rfl, rfl, rfl, rfl, rfl, rfl, rfl, rfl, rfl, rfl⟩
  case guard =>
    refine ⟨fun n => ?_, rfl, fun _ => rfl, rfl, rfl, rfl, rfl⟩
    match n with
    | 0 | 1 | 2 | 3 => exact ⟨rfl, rfl, rfl, rfl, rfl⟩
  case lines => exact ⟨rfl, rfl, rfl, rfl, rfl, rfl⟩
  case focus => exact ⟨rfl, rfl, rfl, rfl, rfl, rfl⟩
  case detector => exact ⟨rfl, rfl, rfl, rfl, rfl⟩
  case index => exact ⟨rfl, rfl, rfl, rfl⟩
  case scan => exact ⟨rfl, rfl, rfl, rfl, rfl⟩
  case retrieval => exact ⟨rfl, rfl, rfl, rfl, rfl, rfl⟩
  case ports =>
    intro port
    cases port <;> exact ⟨rfl, rfl, rfl, rfl⟩

/-! ### The direction of motion -/

theorem motionDirection_eq_forward_iff (d : Dev) : motionDirection d = some .forward ↔ 0 < d.transport.demand := by
  unfold motionDirection
  split_ifs with hpos hneg
  · exact iff_of_true rfl hpos
  · exact iff_of_false (by simp) hpos
  · exact iff_of_false (by simp) hpos

theorem motionDirection_of_neg {d : Dev} (h : d.transport.demand < 0) : motionDirection d = some .reverse := by
  unfold motionDirection
  rw [if_neg (by omega), if_pos h]

/-! ### The splice list -/

/-- A splice is put between the entries up to it and the first entry beyond it. -/
theorem insertAscending_split (x : Int) (xs : List Int) :
    ∃ below above, xs = below ++ above ∧ insertAscending x xs = below ++ x :: above ∧ (∀ y ∈ below, y ≤ x)
      ∧ ∀ y ∈ above.head?, x < y := by
  induction xs with
  | nil => exact ⟨[], [], rfl, rfl, by simp, by simp⟩
  | cons y rest ih =>
    unfold insertAscending
    split
    next hlt => exact ⟨[], y :: rest, rfl, rfl, by simp, by simpa using hlt⟩
    next hle =>
      obtain ⟨below, above, hxs, hins, hb, ha⟩ := ih
      refine ⟨y :: below, above, by simp [hxs], by simp [hins], ?_, ha⟩
      simpa using ⟨Int.not_lt.1 hle, hb⟩

/-- A list whose entries lie more than the merging distance apart, in ascending order (R15). -/
def Spaced (xs : List Int) : Prop := xs.Pairwise fun x y => x + 1000 < y

/-- Every entry of a spaced list lies beyond what its first entry lies beyond. -/
theorem Spaced.lt_of_head {x : Int} {xs : List Int} (hs : Spaced xs) (hh : ∀ y ∈ xs.head?, x < y) : ∀ y ∈ xs, x < y := by
  cases xs with
  | nil => simp
  | cons z rest =>
    obtain ⟨hz, -⟩ := List.pairwise_cons.1 hs
    have hxz : x < z := hh z rfl
    rintro y (_ | ⟨_, hy⟩)
    · exact hxz
    · have := hz y hy
      omega

/-- A splice far from every entry is inserted into a spaced list. -/
theorem Spaced.insertAscending {x : Int} {xs : List Int} (hs : Spaced xs) (hfar : ∀ y ∈ xs, 1000 < (y - x).natAbs) :
    Spaced (insertAscending x xs) := by
  obtain ⟨below, above, hxs, hins, hb, ha⟩ := insertAscending_split x xs
  subst hxs
  obtain ⟨hbelow, habove, hcross⟩ := List.pairwise_append.1 hs
  have hbx : ∀ y ∈ below, y + 1000 < x := fun y hy => by
    have := hfar y (by simp [hy])
    have := hb y hy
    omega
  have hxa : ∀ y ∈ above, x + 1000 < y := fun y hy => by
    have := hfar y (by simp [hy])
    have := Spaced.lt_of_head habove ha y hy
    omega
  rw [hins]
  refine List.pairwise_append.2 ⟨hbelow, List.pairwise_cons.2 ⟨hxa, habove⟩, fun y hy z hz => ?_⟩
  rcases List.mem_cons.1 hz with rfl | hz
  · exact hbx y hy
  · exact hcross y hy z hz

/-- Some entry lies within the merging distance of a splice. -/
theorem near_splice_iff (x : Int) (xs : List Int) :
    (xs.any fun y => decide ((y - x).natAbs ≤ Config.spliceSpacing.toNat)) = true ↔ ∃ y ∈ xs, (y - x).natAbs ≤ 1000 := by
  simp only [List.any_eq_true, decide_eq_true_eq]
  rfl

theorem offerSplice_near {x : Int} {d : Dev} (h : ∃ y ∈ d.roll.splices, (y - x).natAbs ≤ 1000) : offerSplice x d = d :=
  if_pos ((near_splice_iff _ _).2 h)

theorem far_splice {x : Int} {xs : List Int} (h : ∀ y ∈ xs, 1000 < (y - x).natAbs) :
    ¬ (xs.any fun y => decide ((y - x).natAbs ≤ Config.spliceSpacing.toNat)) = true := by
  rw [near_splice_iff]
  rintro ⟨y, hy, hle⟩
  exact absurd (h y hy) (by omega)

theorem offerSplice_full {x : Int} {d : Dev} (h : ∀ y ∈ d.roll.splices, 1000 < (y - x).natAbs)
    (hf : Config.spliceCapacity ≤ d.roll.splices.length) :
    offerSplice x d = raise .service .spliceListFull d := by
  unfold offerSplice
  rw [if_neg (far_splice h), if_pos hf]

theorem offerSplice_inserts {x : Int} {d : Dev} (h : ∀ y ∈ d.roll.splices, 1000 < (y - x).natAbs)
    (hf : d.roll.splices.length < Config.spliceCapacity) :
    offerSplice x d = d.setRoll { d.roll with splices := insertAscending x d.roll.splices } := by
  unfold offerSplice
  rw [if_neg (far_splice h), if_neg (Nat.not_le.2 hf)]

/-- A splice offered to a spaced list within its capacity leaves it so. -/
theorem offerSplice_spaced (x : Int) (d : Dev) (hs : Spaced d.roll.splices) (hl : d.roll.splices.length ≤ 64) :
    Spaced (offerSplice x d).roll.splices ∧ (offerSplice x d).roll.splices.length ≤ 64 := by
  by_cases hnear : ∃ y ∈ d.roll.splices, (y - x).natAbs ≤ 1000
  · rw [offerSplice_near hnear]
    exact ⟨hs, hl⟩
  · have hfar : ∀ y ∈ d.roll.splices, 1000 < (y - x).natAbs := fun y hy => Nat.not_le.1 fun h => hnear ⟨y, hy, h⟩
    rcases Nat.lt_or_ge d.roll.splices.length 64 with hroom | hfull
    · rw [offerSplice_inserts hfar hroom]
      refine ⟨hs.insertAscending hfar, ?_⟩
      simp only [Dev.setRoll_roll, length_insertAscending]
      omega
    · rw [offerSplice_full hfar hfull]
      exact ⟨hs, hl⟩

/-- Where the pulse of a splice goes. -/
theorem splicePulse_forward {d : Dev} (hr : d.roll.state ≠ .noRoll) (hd : 0 < d.transport.demand) :
    splicePulse d = offerSplice (min 2147483647 (d.metering.counter + d.roll.cfg.spliceOffset)) d :=
  if_pos ⟨hr, (motionDirection_eq_forward_iff d).2 hd⟩

theorem splicePulse_ignored {d : Dev} (h : d.roll.state = .noRoll ∨ d.transport.demand ≤ 0) : splicePulse d = d := by
  refine if_neg fun ⟨hr, hd⟩ => ?_
  have := (motionDirection_eq_forward_iff d).1 hd
  rcases h with h | h
  · exact hr h
  · omega

theorem exec_splicePulse (s : State) : exec .splicePulse s = .next (s.setDev (splicePulse s.dev)) := rfl

/-- Settles O17, by the place of insertion in the ascending list. -/
theorem splicesAreListed : Obligations.SplicesAreListed := by
  refine ⟨fun s => ⟨fun hr hd => ⟨fun hnear => ?_, fun hfar hfull => ?_, fun hfar hroom => ?_⟩, fun h => ?_⟩, fun s t hs hl h => ?_⟩
  · rw [exec_splicePulse, splicePulse_forward hr hd, offerSplice_near hnear]
    rfl
  · rw [exec_splicePulse, splicePulse_forward hr hd, offerSplice_full hfar hfull]
  · obtain ⟨below, above, hxs, hins, hb, ha⟩ := insertAscending_split
      (min 2147483647 (s.dev.metering.counter + s.dev.roll.cfg.spliceOffset)) s.dev.roll.splices
    refine ⟨below, above, hxs, hb, ha, ?_⟩
    rw [exec_splicePulse, splicePulse_forward hr hd, offerSplice_inserts hfar hroom, hins]
  · rw [exec_splicePulse, splicePulse_ignored h]
    rfl
  · obtain rfl := Host.Outcome.next.inj h
    show Spaced (splicePulse s.dev).roll.splices ∧ _
    by_cases hp : s.dev.roll.state = .noRoll ∨ s.dev.transport.demand ≤ 0
    · rw [State.setDev_dev, splicePulse_ignored hp]
      exact ⟨hs, hl⟩
    · obtain ⟨hr, hd⟩ := not_or.1 hp
      rw [State.setDev_dev, splicePulse_forward hr (Int.not_le.1 hd)]
      exact offerSplice_spaced _ _ hs hl

/-! ### The film-present input -/

theorem exec_filmPresentChange (s : State) (s1 s2 : Bool) :
    exec (.filmPresentChange s1 s2) s = .next (s.setDev (filmSamples s1 s2 s.dev)) := rfl

/-- Two samples of a level other than the sensed one are a change. -/
theorem filmSamples_taken {d : Dev} {b : Bool} (h : d.roll.filmPresent = !b) : filmSamples b b d = settle (filmChange b d) :=
  if_pos ⟨rfl, by simp [h]⟩

theorem filmSamples_ignored {d : Dev} {s1 s2 : Bool} (h : s1 ≠ s2 ∨ s1 = d.roll.filmPresent) : filmSamples s1 s2 d = d :=
  if_neg fun ⟨heq, hne⟩ => h.elim (fun hn => hn heq) hne

/-- A change of the roll state comes with ROLL at the Request and Service ports. -/
theorem setRollState_of_ne {st : RollState} {d : Dev} (h : d.roll.state ≠ st) :
    setRollState st d = raise .service .roll (raise .request .roll
      (d.setRoll { d.roll with state := st, datum := st == .ready || st == .runout })) :=
  if_neg h

/-- The film comes back in reverse motion. -/
theorem filmChange_returns {d : Dev} (hs : d.roll.state = .runout) (hd : d.transport.demand < 0) :
    filmChange true d = setRollState .ready (d.setRoll { d.roll with filmPresent := true }) := by
  have hroll : (d.setRoll { d.roll with filmPresent := true }).roll.state = .runout := hs
  have hdir : motionDirection (d.setRoll { d.roll with filmPresent := true }) = some .reverse := motionDirection_of_neg hd
  unfold filmChange
  dsimp only
  rw [hroll, hdir]

/-- Settles O18, by the two samples that a change needs. -/
theorem filmPresentIsFiltered : Obligations.FilmPresentIsFiltered := by
  refine ⟨fun s s1 s2 h => ?_, fun s hf hs hd hdatum => ?_⟩
  · rw [exec_filmPresentChange, filmSamples_ignored h]
    rfl
  · have hne : (s.dev.setRoll { s.dev.roll with filmPresent := true }).roll.state ≠ .ready := by simp [hs]
    rw [exec_filmPresentChange, filmSamples_taken hf, filmChange_returns hs hd, setRollState_of_ne hne]
    simp [hdatum]

end Sys2Proof.Proofs

/-! Clamped configuration items: O54. -/

namespace Sys2Proof.Proofs

open Sys2Proof Sys2Proof.Machine

/-! ### Clamped configuration items -/

/-- The payload of a frame within the limit is its declared part. -/
theorem framePayload_cons (tag : Byte) {len : Byte} (body : List Byte) (h60 : len.toNat ≤ 60) :
    framePayload (tag :: len :: body) len = body.take len.toNat := by
  have h : framePayload (tag :: len :: body) len = (body.take 61).take len.toNat := rfl
  rw [h, List.take_take, Nat.min_eq_left (by omega)]

/-- A CONFIG_WRITE frame with a whole value in the item's width goes to the owning block, and its answer to the Service port. -/
theorem takeFrame_writeItem {s : State} {tag len : Byte} {v : List Byte} (id : Nat) (c : ConfigItem)
    (h : List Byte → Dev → Answer) (hi : (s.dev.ports.get .service).state = .idle) (hw : 1 + configItemWidth c ≤ len.toNat)
    (h60 : len.toNat ≤ 60) (hv : len.toNat ≤ 1 + v.length) :
    onDev (takeFrame (some .configWrite) .service (configFrame tag len id v) (writeItem c h)) s
      = .next (answers s .service tag
          (h (v.take (configItemWidth c)) (heard .service (configFrame tag len id v) s)).result
          (h (v.take (configItemWidth c)) (heard .service (configFrame tag len id v) s)).payload
          (h (v.take (configItemWidth c)) (heard .service (configFrame tag len id v) s)).dev) := by
  have hok : frameLengthOk (configFrame tag len id v) len = true :=
    frameLengthOk_of_long tag len (BitVec.ofNat 8 id :: v) h60 (by simpa [Nat.add_comm] using hv)
  have hpay : framePayload (configFrame tag len id v) len = (BitVec.ofNat 8 id :: v).take len.toNat :=
    framePayload_cons tag _ h60
  have hlong : ¬ ((BitVec.ofNat 8 id :: v).take len.toNat).length < 1 + configItemWidth c := by
    simp only [List.length_take, List.length_cons]
    omega
  have hvalue : (((BitVec.ofNat 8 id :: v).take len.toNat).drop 1).take (configItemWidth c) = v.take (configItemWidth c) := by
    rw [List.drop_take, List.take_take]
    simp only [List.drop_succ_cons, List.drop_zero]
    rw [show min (configItemWidth c) (len.toNat - 1) = configItemWidth c by omega]
  have hwrite : ∀ d, writeItem c h (framePayload (configFrame tag len id v) len) d = h (v.take (configItemWidth c)) d := by
    intro d
    rw [hpay, ← hvalue]
    exact if_neg hlong
  unfold configFrame at hok hwrite ⊢
  simp [onDev, takeFrame, hi, hok, hwrite, answers, heard, permitted]

/-- What an item reads after a write: the value written to that item, and what it read before for every other item. -/
theorem rollValue_setRollItem (i j : RollItem) (n : Nat) (c : RollConfig) :
    rollValue (setRollItem i n c) j = if j = i then n else rollValue c j := by
  cases i <;> cases j <;> rfl

theorem rollValue_set (i : RollItem) (n : Nat) (c : RollConfig) : rollValue (setRollItem i n c) i = n :=
  (rollValue_setRollItem i i n c).trans (if_pos rfl)

theorem rollValue_set_of_ne {i j : RollItem} (n : Nat) (c : RollConfig) (h : j ≠ i) :
    rollValue (setRollItem i n c) j = rollValue c j :=
  (rollValue_setRollItem i j n c).trans (if_neg h)

theorem transportValue_setTransportItem (i j : TransportItem) (n : Nat) (c : TransportConfig) :
    transportValue (setTransportItem i n c) j = if j = i then n else transportValue c j := by
  cases i <;> cases j <;> rfl

theorem transportValue_set (i : TransportItem) (n : Nat) (c : TransportConfig) : transportValue (setTransportItem i n c) i = n :=
  (transportValue_setTransportItem i i n c).trans (if_pos rfl)

theorem transportValue_set_of_ne {i j : TransportItem} (n : Nat) (c : TransportConfig) (h : j ≠ i) :
    transportValue (setTransportItem i n c) j = transportValue c j :=
  (transportValue_setTransportItem i j n c).trans (if_neg h)

theorem focusValue_setFocusItem (i j : FocusItem) (n : Nat) (c : FocusConfig) :
    focusValue (setFocusItem i n c) j = if j = i then n else focusValue c j := by
  cases i <;> cases j <;> rfl

theorem focusValue_set (i : FocusItem) (n : Nat) (c : FocusConfig) : focusValue (setFocusItem i n c) i = n :=
  (focusValue_setFocusItem i i n c).trans (if_pos rfl)

theorem focusValue_set_of_ne {i j : FocusItem} (n : Nat) (c : FocusConfig) (h : j ≠ i) :
    focusValue (setFocusItem i n c) j = focusValue c j :=
  (focusValue_setFocusItem i j n c).trans (if_neg h)

theorem retrievalValue_setRetrievalItem (i j : RetrievalItem) (n : Nat) (c : RetrievalConfig) :
    retrievalValue (setRetrievalItem i n c) j = if j = i then n else retrievalValue c j := by
  cases i <;> cases j <;> rfl

theorem retrievalValue_set (i : RetrievalItem) (n : Nat) (c : RetrievalConfig) : retrievalValue (setRetrievalItem i n c) i = n :=
  (retrievalValue_setRetrievalItem i i n c).trans (if_pos rfl)

theorem retrievalValue_set_of_ne {i j : RetrievalItem} (n : Nat) (c : RetrievalConfig) (h : j ≠ i) :
    retrievalValue (setRetrievalItem i n c) j = retrievalValue c j :=
  (retrievalValue_setRetrievalItem i j n c).trans (if_neg h)

/-- A discard of the pending correction needs one. -/
theorem discardLargePending_none {d : Dev} (h : d.roll.pendingCorrection = none) : discardLargePending d = d := by
  unfold discardLargePending
  rw [h]

/-- A taken write is answered with what the item then reads. -/
theorem stored_roll (i : RollItem) {x : Nat} {e : Dev} (h : rollValue e.roll.cfg i = x) (hnone : e.roll.pendingCorrection = none) :
    stored (.roll i) (if i = .correctionWindow then discardLargePending e else e)
      = { result := .ok, payload := BitVec.ofNat 8 (rollItemId i) :: leBytes (configItemWidth (.roll i)) x, dev := e } := by
  subst h
  rw [discardLargePending_none hnone, ite_self]
  rfl

theorem stored_transport (i : TransportItem) {x : Nat} {e : Dev} (h : transportValue e.transport.cfg i = x) :
    stored (.transport i) e
      = { result := .ok, payload := BitVec.ofNat 8 (transportItemId i) :: leBytes (configItemWidth (.transport i)) x, dev := e } := by
  subst h
  rfl

theorem stored_focus (i : FocusItem) {x : Nat} {e : Dev} (h : focusValue e.focus.cfg i = x) :
    stored (.focus i) e = { result := .ok, payload := BitVec.ofNat 8 (focusItemId i) :: leBytes (configItemWidth (.focus i)) x, dev := e } := by
  subst h
  rfl

theorem stored_retrieval (i : RetrievalItem) {x : Nat} {e : Dev} (h : retrievalValue e.retrieval.cfg i = x) :
    stored (.retrieval i) e
      = { result := .ok, payload := BitVec.ofNat 8 (retrievalItemId i) :: leBytes (configItemWidth (.retrieval i)) x, dev := e } := by
  subst h
  rfl

/-- A roll context item written with the value that `v` carries, clamped to the item's range. -/
def writtenRollItem (i : RollItem) (v : List Byte) (d : Dev) : Dev :=
  d.setRoll { d.roll with cfg := setRollItem i (clampNat (rollRange i).1 (rollRange i).2 (leNat v)) d.roll.cfg }

/-- A step that answers `a`. -/
def nextAnswer (s : State) (tag : Byte) (a : Answer) : Host.Outcome State Fault Refusal :=
  .next (answers s .service tag a.result a.payload a.dev)

/-- Settles O54: the clamped value reaches the item's own field, and the answer reads it back. -/
theorem clampedItemsAreStored : Obligations.ClampedItemsAreStored := by
  intro s tag len v w hi hw h60 hv
  refine ⟨?_, ?_, ?_, ?_, ?_, ?_, ⟨rfl, rfl, rfl, rfl⟩, fun c => ⟨rfl, fun i n => ?_⟩, fun c => ⟨rfl, fun i n => ?_⟩,
    fun c => ⟨rfl, fun i n => ?_⟩, fun c => ⟨rfl, fun i n => ?_⟩, rfl⟩
  · rintro i rfl hacc hmot
    exact (takeFrame_writeItem (transportItemId i) (.transport i) _ hi hw h60 hv).trans (congrArg (nextAnswer s tag) (if_pos ⟨hacc, hmot⟩))
  · rintro i rfl hfree
    have hneg : ¬ (i = .acceleration ∧ s.dev.transport.motion ≠ .idle ∧ s.dev.transport.motion ≠ .parked) := by tauto
    exact (takeFrame_writeItem (transportItemId i) (.transport i) _ hi hw h60 hv).trans (congrArg (nextAnswer s tag)
      ((if_neg hneg).trans (stored_transport i (transportValue_set i _ _))))
  · rintro i rfl
    exact (takeFrame_writeItem (focusItemId i) (.focus i) _ hi hw h60 hv).trans (congrArg (nextAnswer s tag) (stored_focus i (focusValue_set i _ _)))
  · rintro i rfl
    exact (takeFrame_writeItem (retrievalItemId i) (.retrieval i) _ hi hw h60 hv).trans (congrArg (nextAnswer s tag)
      (stored_retrieval i (retrievalValue_set i _ _)))
  · rintro rfl
    exact takeFrame_writeItem (configItemId .lineRate) .lineRate _ hi hw h60 hv
  · rintro i rfl
    refine ⟨fun hbad => ?_, fun hgood hnone => ?_⟩
    · exact (takeFrame_writeItem (rollItemId i) (.roll i) _ hi hw h60 hv).trans (congrArg (nextAnswer s tag) (if_pos hbad))
    · have hkeep : (writtenRollItem i (v.take (configItemWidth (.roll i)))
          (heard .service (configFrame tag len (rollItemId i) v) s)).roll.pendingCorrection = none := hnone
      exact (takeFrame_writeItem (rollItemId i) (.roll i) _ hi hw h60 hv).trans (congrArg (nextAnswer s tag)
        ((if_neg (Nat.not_lt.2 hgood)).trans (stored_roll i (rollValue_set i _ _) hkeep)))
  · exact ⟨rollValue_set i n c, fun _ => rollValue_set_of_ne n c⟩
  · exact ⟨transportValue_set i n c, fun _ => transportValue_set_of_ne n c⟩
  · exact ⟨focusValue_set i n c, fun _ => focusValue_set_of_ne n c⟩
  · exact ⟨retrievalValue_set i n c, fun _ => retrievalValue_set_of_ne n c⟩

end Sys2Proof.Proofs

/-! The encoder: O16. -/

namespace Sys2Proof.Proofs

open Sys2Proof Sys2Proof.Machine

/-! ### Encoder counts -/

/-- A transport with no scan order in progress. -/
def NoScanOrder (d : Dev) : Prop :=
  ∀ c start v pitch line stop, d.transport.current = some c → c.order.kind ≠ .scan start v pitch line stop

theorem checkBase_of_noScanOrder {d : Dev} (h : NoScanOrder d) : checkBase d = d := by
  unfold checkBase
  cases hc : d.transport.current with
  | none => rfl
  | some c =>
    dsimp only
    split
    next start v pitch line stop hk => exact absurd hk (h c start v pitch line stop hc)
    next => rfl

theorem generatorCount_of_noArm {d : Dev} (h : d.trigger.arm = none) : generatorCount d = d := by
  unfold generatorCount
  rw [h]

theorem searchTravelCheck_of_noSearch {d : Dev} (h : d.focus.search = none) : searchTravelCheck d = d := by
  unfold searchTravelCheck
  rw [h]

/-- A count with nothing that waits for a position moves the counter, and that is all. -/
theorem count_forward {d : Dev} (ha : d.trigger.arm = none) (hs : d.focus.search = none) (ho : NoScanOrder d) :
    count .forward d = d.setMetering { d.metering with counter := saturate (d.metering.counter + 1) } := by
  have hbase := checkBase_of_noScanOrder
    (d := d.setMetering { d.metering with counter := saturate (d.metering.counter + 1) }) ho
  show searchTravelCheck (generatorCount (checkBase _)) = _
  rw [hbase, generatorCount_of_noArm (by exact ha), searchTravelCheck_of_noSearch (by exact hs)]

theorem count_reverse {d : Dev} (hs : d.focus.search = none) :
    count .reverse d = d.setMetering { d.metering with counter := saturate (d.metering.counter - 1) } :=
  searchTravelCheck_of_noSearch hs

theorem exec_encoderPhaseChange (a b : Bool) (s : State) : exec (.encoderPhaseChange a b) s = .next (s.setDev (phaseChange a b s.dev)) :=
  rfl

/-- The phase lines sampled. -/
def samplePhase (a b : Bool) (d : Dev) : Dev := d.setMetering { d.metering with phaseA := a, phaseB := b }

/-- The pairs of phases one step apart in the forward cycle, and in the reverse cycle. -/
theorem phaseChange_forward {a b : Bool} {d : Dev}
    (h : ((d.metering.phaseA, d.metering.phaseB), (a, b)) ∈ [((false, false), (true, false)), ((true, false), (true, true)),
      ((true, true), (false, true)), ((false, true), (false, false))]) :
    phaseChange a b d = settle (count .forward (samplePhase a b d)) := by
  have hturn : (phaseIndex a b + 4 - phaseIndex d.metering.phaseA d.metering.phaseB) % 4 = 1 := by
    simp only [List.mem_cons, List.not_mem_nil, Prod.mk.injEq, or_false] at h
    obtain ⟨⟨hA, hB⟩, ha, hb⟩ | ⟨⟨hA, hB⟩, ha, hb⟩ | ⟨⟨hA, hB⟩, ha, hb⟩ | ⟨⟨hA, hB⟩, ha, hb⟩ := h <;>
      rw [hA, hB, ha, hb] <;> rfl
  unfold phaseChange
  rw [hturn]
  rfl

theorem phaseChange_reverse {a b : Bool} {d : Dev}
    (h : ((d.metering.phaseA, d.metering.phaseB), (a, b)) ∈ [((false, false), (false, true)), ((false, true), (true, true)),
      ((true, true), (true, false)), ((true, false), (false, false))]) :
    phaseChange a b d = settle (count .reverse (samplePhase a b d)) := by
  have hturn : (phaseIndex a b + 4 - phaseIndex d.metering.phaseA d.metering.phaseB) % 4 = 3 := by
    simp only [List.mem_cons, List.not_mem_nil, Prod.mk.injEq, or_false] at h
    obtain ⟨⟨hA, hB⟩, ha, hb⟩ | ⟨⟨hA, hB⟩, ha, hb⟩ | ⟨⟨hA, hB⟩, ha, hb⟩ | ⟨⟨hA, hB⟩, ha, hb⟩ := h <;>
      rw [hA, hB, ha, hb] <;> rfl
  unfold phaseChange
  rw [hturn]
  rfl

/-- Both lines changed: the phase opposite in the cycle. -/
theorem phaseChange_illegal {a b : Bool} {d : Dev} (ha : a ≠ d.metering.phaseA) (hb : b ≠ d.metering.phaseB) :
    phaseChange a b d = settle (encoderFault (samplePhase a b d)) := by
  have hturn : (phaseIndex a b + 4 - phaseIndex d.metering.phaseA d.metering.phaseB) % 4 = 2 := by
    rw [Bool.eq_not.2 ha, Bool.eq_not.2 hb]
    cases d.metering.phaseA <;> cases d.metering.phaseB <;> rfl
  unfold phaseChange
  rw [hturn]
  rfl

/-- A device with the encoder clock of another has its metering, but for the counter. -/
theorem metering_of_encoderClock {d e : Dev} (h : encoderClock e = encoderClock d) :
    e.time = d.time ∧ e.metering = { d.metering with counter := e.metering.counter } := by
  simp only [encoderClock, Prod.mk.injEq] at h
  obtain ⟨ht, ha, hb, hu, hs⟩ := h
  refine ⟨ht, ?_⟩
  dsimp only
  rw [← ha, ← hb, ← hu, ← hs]

/-- An encoder fault and what follows it leave the encoder unsettled for 100 ms from now. -/
theorem settle_encoderFault_metering (d : Dev) :
    (settle (encoderFault d)).time = d.time ∧ (settle (encoderFault d)).metering
      = { d.metering with unsettled := true, settledAt := d.time + 100, counter := (settle (encoderFault d)).metering.counter } := by
  obtain ⟨htime, hmeter⟩ := metering_of_encoderClock (encoderHalted_keeps (.refl d)).clock
  obtain ⟨htime', hmeter'⟩ := metering_of_encoderClock (settle_keeps (.refl (encoderFault d))).clock
  have hf : encoderFault d = (encoderHalted d).setMetering
    { (encoderHalted d).metering with unsettled := true, settledAt := (encoderHalted d).time + 100 } := rfl
  refine ⟨htime'.trans htime, hmeter'.trans ?_⟩
  rw [hf, Dev.setMetering_metering, hmeter, htime]

/-- Settles O16: a count reaches only the counter, and reactions leave the encoder clock of a fault. -/
theorem encoderCountsAndSettles : Obligations.EncoderCountsAndSettles := by
  refine ⟨fun s a b ha hs ho hset => ⟨fun h => ?_, fun h => ?_⟩, fun s => ⟨fun a b ha hb => ?_, fun h => ?_, fun h => ?_⟩⟩
  · rw [exec_encoderPhaseChange, phaseChange_forward h, count_forward (d := samplePhase a b s.dev) ha hs ho,
      settle_of_settled _ (by simpa [samplePhase] using hset)]
    rfl
  · rw [exec_encoderPhaseChange, phaseChange_reverse h, count_reverse (d := samplePhase a b s.dev) hs,
      settle_of_settled _ (by simpa [samplePhase] using hset)]
    rfl
  · obtain ⟨htime, hmeter⟩ := settle_encoderFault_metering (samplePhase a b s.dev)
    refine ⟨_, exec_encoderPhaseChange a b s, rfl, ?_⟩
    rw [State.setDev_dev, phaseChange_illegal ha hb]
    exact ⟨htime, hmeter⟩
  · exact congrArg (fun d => Host.Outcome.next (s.setDev d)) (if_pos h)
  · exact congrArg (fun d => Host.Outcome.next (s.setDev d)) (if_neg (Nat.not_le.2 h))

end Sys2Proof.Proofs

/-! The declaration of a roll and the datum: O13 and O15. -/

namespace Sys2Proof.Proofs

open Sys2Proof Sys2Proof.Machine

/-! ### Changes of the roll that give no reaction its turn -/

section
variable {d : Dev} {x : RollContext}

theorem eligible_setRoll (hd : x.datum = d.roll.datum) : eligible (d.setRoll x) = eligible d := by
  funext r
  simp [eligible, hd]

theorem anyEligible_setRoll (hd : x.datum = d.roll.datum) : anyEligible (d.setRoll x) = anyEligible d := by
  unfold anyEligible
  rw [eligible_setRoll hd]
  rfl

theorem anyUrgent_setRoll (hd : x.datum = d.roll.datum) : anyUrgent (d.setRoll x) = anyUrgent d := by
  unfold anyUrgent
  rw [eligible_setRoll hd]
  rfl

theorem yieldDemand_setRoll (hd : x.datum = d.roll.datum) : yieldDemand (d.setRoll x) = yieldDemand d := by
  unfold yieldDemand
  rw [anyEligible_setRoll hd, anyUrgent_setRoll hd]
  rfl

theorem scanClaim_setRoll (hs : x.state = d.roll.state) (hd : x.datum = d.roll.datum) : scanClaim (d.setRoll x) = scanClaim d := by
  unfold scanClaim
  rw [yieldDemand_setRoll hd, Dev.setRoll_roll, hs]
  rfl

theorem holdPreempted_setRoll (hd : x.datum = d.roll.datum) : holdPreempted (d.setRoll x) = holdPreempted d := by
  unfold holdPreempted
  rw [anyUrgent_setRoll hd]
  rfl

theorem hintConditions_setRoll (hs : x.state = d.roll.state) (hd : x.datum = d.roll.datum) :
    hintConditions (d.setRoll x) = hintConditions d := by
  unfold hintConditions
  rw [anyEligible_setRoll hd, scanClaim_setRoll hs hd, Dev.setRoll_roll, hd]
  rfl

/-- The reactions read no more of the roll than its state and its datum flag. -/
theorem settled_setRoll (hs : x.state = d.roll.state) (hd : x.datum = d.roll.datum) : Settled (d.setRoll x) ↔ Settled d := by
  have hreaction : reaction (d.setRoll x) = none ↔ reaction d = none := by
    simp [reaction_none_iff, runReaction_none_iff, retrievalReaction_none_iff, grantReaction_none_iff, retrievalClaim, hintClaim,
      anyEligible_setRoll hd, anyUrgent_setRoll hd, yieldDemand_setRoll hd, scanClaim_setRoll hs hd, holdPreempted_setRoll hd,
      hintConditions_setRoll hs hd]
  unfold Settled
  rw [hreaction, stopParkTimer_eq_iff, stopParkTimer_eq_iff]
  simp [parkConditions, hs]

end

/-! ### Changes of the run that give no reaction its turn -/

/-- A change of the run record outside what the reactions read of it. -/
def RunQuiet (f : RunRecord → RunRecord) : Prop :=
  ∀ r, (f r).state = r.state ∧ (f r).policy = r.policy ∧ (f r).resumePermitted = r.resumePermitted

section
variable {f : RunRecord → RunRecord}

theorem yieldDemand_modifyRun (hf : RunQuiet f) (d : Dev) : yieldDemand (modifyRun f d) = yieldDemand d := by
  unfold yieldDemand modifyRun
  cases hr : d.scan.run with
  | none => simp
  | some r =>
    obtain ⟨-, hpolicy, -⟩ := hf r
    simp [hpolicy]

theorem scanClaim_modifyRun (hf : RunQuiet f) (d : Dev) : scanClaim (modifyRun f d) = scanClaim d := by
  have hy := yieldDemand_modifyRun hf d
  unfold scanClaim
  rw [hy]
  unfold modifyRun
  cases hr : d.scan.run with
  | none => simp
  | some r =>
    obtain ⟨hstate, -, hresume⟩ := hf r
    simp [hstate, hresume]

theorem runIn_modifyRun (hf : RunQuiet f) (d : Dev) (l : List RunState) : runIn (modifyRun f d) l = runIn d l := by
  unfold runIn modifyRun
  cases hr : d.scan.run with
  | none => simp
  | some r =>
    obtain ⟨hstate, -, -⟩ := hf r
    simp [hstate]

theorem hintConditions_modifyRun (hf : RunQuiet f) (d : Dev) : hintConditions (modifyRun f d) = hintConditions d := by
  unfold hintConditions
  rw [scanClaim_modifyRun hf, runIn_modifyRun hf]
  rfl

theorem runReaction_modifyRun (hf : RunQuiet f) (d : Dev) : runReaction (modifyRun f d) = none ↔ runReaction d = none := by
  rw [runReaction_none_iff, runReaction_none_iff, yieldDemand_modifyRun hf]
  unfold modifyRun
  cases hr : d.scan.run with
  | none => simp
  | some r =>
    obtain ⟨hstate, -, -⟩ := hf r
    simp [hstate]

theorem settled_modifyRun (hf : RunQuiet f) (d : Dev) : Settled (modifyRun f d) ↔ Settled d := by
  have hreaction : reaction (modifyRun f d) = none ↔ reaction d = none := by
    rw [reaction_none_iff, reaction_none_iff, runReaction_modifyRun hf]
    rw [retrievalReaction_none_iff, retrievalReaction_none_iff, grantReaction_none_iff, grantReaction_none_iff]
    rw [hintClaim, scanClaim_modifyRun hf, hintConditions_modifyRun hf]
    rfl
  unfold Settled
  rw [hreaction, stopParkTimer_eq_iff, stopParkTimer_eq_iff]
  rfl

end

/-! ### A roll without a datum -/

/-- Without a datum and outside READY there is no claim: only a release, the end of a run or the arrival of the lens can be due. -/
theorem reaction_none_of_no_datum {d : Dev} (hdatum : d.roll.datum = false) (hready : d.roll.state ≠ .ready) (hinbox : d.inbox = [])
    (hrelease : (d.transport.releasePending && atRest d) = false)
    (hending : ∀ r, d.scan.run = some r → r.state = .ending → atRest d = false) (hlens : lensArrived d = false) : reaction d = none := by
  have hel : anyEligible d = false := by simp [anyEligible, eligible, hdatum]
  have hurgent : anyUrgent d = false := by simp [anyUrgent, eligible, hdatum]
  have hyield : yieldDemand d = false := by
    unfold yieldDemand
    rw [hel, hurgent]
    cases d.scan.run with
    | none => rfl
    | some r => cases hp : r.policy <;> simp [hp]
  have hscan : scanClaim d = false := by
    unfold scanClaim
    cases d.scan.run <;> simp [hready]
  have hhold : holdPreempted d = false := by
    unfold holdPreempted
    cases d.retrieval.hold <;> simp [hurgent]
  have hhint : hintConditions d = false := by simp [hintConditions, hdatum]
  rw [reaction_none_iff, runReaction_none_iff, retrievalReaction_none_iff, grantReaction_none_iff]
  exact ⟨hinbox, hrelease, fun r hr => ⟨hending r hr, fun _ => hyield⟩, ⟨hhold, hlens, by simp [hel, hscan], by simp [hhint]⟩,
    fun _ => ⟨hurgent, hscan, by simp [retrievalClaim, hel], by simp [hintClaim, hhint]⟩⟩

/-! ### DECLARE_ROLL -/

theorem answerDeclareRoll_blocked {p : List Byte} {d : Dev} (hp : p.length = 8 ∨ 14 ≤ p.length)
    (h : d.roll.state ≠ .noRoll ∨ d.roll.filmPresent = false) : answerDeclareRoll p d = refuse .state d := by
  unfold answerDeclareRoll needBytes
  dsimp only
  rw [if_neg (by omega), if_neg (by omega), if_pos h]

theorem answerDeclareRoll_badValue {p : List Byte} {d : Dev} (hp : p.length = 8 ∨ 14 ≤ p.length) (hs : d.roll.state = .noRoll)
    (hf : d.roll.filmPresent = true)
    (h : polarityOf (natAt p 4 1) = none ∨ natAt p 0 4 = 0 ∨ natAt p 5 2 < 1000 ∨ 60000 < natAt p 5 2 ∨ natAt p 7 1 < 1
      ∨ 50 < natAt p 7 1) : answerDeclareRoll p d = refuse .badValue d := by
  unfold answerDeclareRoll needBytes
  dsimp only
  rw [if_neg (by omega), if_neg (by omega), if_neg (by simp [hs, hf])]
  cases hpol : polarityOf (natAt p 4 1) with
  | none => rfl
  | some pol =>
    rw [hpol] at h
    exact if_pos (h.resolve_left (Option.some_ne_none _))

/-- The record of a DECLARE_ROLL. -/
def declaredRecord (p : List Byte) (pol : Polarity) : RollRecord :=
  { ident := natAt p 0 4, polarity := pol, pitch := natAt p 5 2, tolerance := natAt p 7 1, base := declaredBase p }

theorem answerDeclareRoll_taken {p : List Byte} {d : Dev} {pol : Polarity} (hp : p.length = 8 ∨ 14 ≤ p.length)
    (hs : d.roll.state = .noRoll) (hf : d.roll.filmPresent = true) (hpol : polarityOf (natAt p 4 1) = some pol) (hid : natAt p 0 4 ≠ 0)
    (hlow : 1000 ≤ natAt p 5 2) (hhigh : natAt p 5 2 ≤ 60000) (htol : 1 ≤ natAt p 7 1) (htol' : natAt p 7 1 ≤ 50) :
    answerDeclareRoll p d = taken .ok [] (declareRoll (declaredRecord p pol) d) := by
  unfold answerDeclareRoll needBytes
  dsimp only
  rw [if_neg (by omega), if_neg (by omega), if_neg (by simp [hs, hf]), hpol]
  exact if_neg (by omega)

theorem declaredBase_eq {p : List Byte} (hp : p.length = 8 ∨ 14 ≤ p.length) :
    declaredBase p = if p.length = 8 then { batch := 0, doc := 0, page := 0 }
      else { batch := natAt p 8 2, doc := natAt p 10 2, page := natAt p 12 2 } := by
  unfold declaredBase
  rcases hp with hp | hp
  · rw [if_pos (by omega), if_pos hp]
  · rw [if_neg (by omega), if_neg (by omega)]

/-- A roll declared in NO_ROLL, written out. -/
theorem declareRoll_eq (r : RollRecord) {d : Dev} (hs : d.roll.state = .noRoll) :
    declareRoll r d = raise .service .roll (raise .request .roll
      ((d.setRoll { d.roll with
          record := some r, state := .threaded, datum := false, tail := none, splices := [], pendingCorrection := none
          lastCorrection := 0 }).setDetector { d.detector with cfg := { d.detector.cfg with maxFrame := 3 * r.pitch } })) :=
  setRollState_of_ne (st := .threaded) (d := (d.setRoll { d.roll with
    record := some r, tail := none, splices := [], pendingCorrection := none, lastCorrection := 0 }).setDetector
      { d.detector with cfg := { d.detector.cfg with maxFrame := 3 * r.pitch } }) (by simp [hs])

/-- A roll declared gives no reaction its turn. -/
theorem settled_declareRoll (r : RollRecord) {d : Dev} (hs : d.roll.state = .noRoll) (h : Settled d) : Settled (declareRoll r d) := by
  obtain ⟨hreaction, hpark⟩ := h
  obtain ⟨hinbox, hrelease, hrun, hretrieval, -⟩ := (reaction_none_iff d).1 hreaction
  obtain ⟨-, hlens, -⟩ := (retrievalReaction_none_iff d).1 hretrieval
  have htimer : d.transport.parkTimer = 0 := (stopParkTimer_eq_iff d).1 hpark (by simp [parkConditions, hs])
  rw [declareRoll_eq r hs, settled_raise, settled_raise, settled_setDetector]
  refine ⟨reaction_none_of_no_datum rfl (by simp) hinbox hrelease (fun r' hr' => ((runReaction_none_iff d).1 hrun r' hr').1) hlens,
    (stopParkTimer_eq_iff _).2 fun _ => htimer⟩

/-- Settles O13, by the order of the checks in the answer. -/
theorem declareRollMakesTheRoll : Obligations.DeclareRollMakesTheRoll := by
  intro s tag p x pol ht hp
  refine ⟨fun hs hf hset hpol hid hlow hhigh htol htol' => ?_, fun hs hf h => ?_, fun h => ?_⟩
  all_goals refine (takeFrame_takes .declareRoll .service tag p x answerDeclareRoll s ht rfl).trans ?_
  · have hset' := settled_declareRoll (declaredRecord p pol) (d := heard .service (requestFrame tag p x) s) hs
      ((settled_heard _ _ _).2 hset)
    rw [answerDeclareRoll_taken (d := heard .service (requestFrame tag p x) s) hp hs hf hpol hid hlow hhigh htol htol']
    unfold taken
    rw [settle_of_settled _ hset', declareRoll_eq (d := heard .service (requestFrame tag p x) s) _ hs, ← declaredBase_eq hp]
    rfl
  · rw [answerDeclareRoll_badValue (d := heard .service (requestFrame tag p x) s) hp hs hf h]
    rfl
  · rw [answerDeclareRoll_blocked (d := heard .service (requestFrame tag p x) s) hp h]
    rfl

/-! ### SET_DATUM -/

/-- A roll whose datum flag fits its state stays as it is when that state is set again. -/
theorem setRollState_same {d : Dev} (hd : d.roll.datum = (d.roll.state == .ready || d.roll.state == .runout)) :
    setRollState d.roll.state d = d := by
  unfold setRollState
  dsimp only
  rw [if_pos rfl, ← hd]
  rfl

/-- The payload carries the datum `v`, or carries none and `v` is 0. -/
def CarriesDatum (p : List Byte) (v : Int) : Prop := (p = [] ∧ v = 0) ∨ (4 ≤ p.length ∧ v = intAt p 0 4)

/-- SET_DATUM may be taken: a roll, the transport at rest in IDLE or PARKED, and the grant free. -/
def DatumAllowed (d : Dev) : Prop :=
  d.roll.state ≠ .noRoll ∧ (d.transport.motion = .idle ∨ d.transport.motion = .parked) ∧ d.transport.grant = .nobody

theorem datumValue_of_carries {p : List Byte} {v : Int} (h : CarriesDatum p v) : datumValue p = v := by
  unfold datumValue
  rcases h with ⟨rfl, rfl⟩ | ⟨hl, rfl⟩
  · rfl
  · exact if_neg (Nat.not_lt.2 hl)

theorem datumLength_of_carries {p : List Byte} {v : Int} (h : CarriesDatum p v) : ¬ (0 < p.length ∧ p.length < 4) := by
  rcases h with ⟨rfl, -⟩ | ⟨hl, -⟩
  · simp
  · omega

/-- The check of the state as the model writes it. -/
theorem not_datumAllowed_iff (d : Dev) :
    ¬ DatumAllowed d ↔ d.roll.state = .noRoll ∨ (d.transport.motion ≠ .idle ∧ d.transport.motion ≠ .parked)
      ∨ d.transport.grant ≠ .nobody := by
  unfold DatumAllowed
  tauto

section
variable {p : List Byte} {v : Int} {d : Dev}

theorem answerSetDatum_blocked (hp : CarriesDatum p v) (h : ¬ DatumAllowed d) : answerSetDatum p d = refuse .state d := by
  unfold answerSetDatum
  rw [if_neg (datumLength_of_carries hp), if_pos ((not_datumAllowed_iff d).1 h)]

theorem answerSetDatum_badValue (hp : CarriesDatum p v) (h : DatumAllowed d) (hv : v < -2000000 ∨ 80000000 < v) :
    answerSetDatum p d = refuse .badValue d := by
  unfold answerSetDatum
  rw [if_neg (datumLength_of_carries hp), if_neg (fun hn => (not_datumAllowed_iff d).2 hn h), datumValue_of_carries hp, if_pos hv]

theorem answerSetDatum_taken (hp : CarriesDatum p v) (h : DatumAllowed d) (hlow : -2000000 ≤ v) (hhigh : v ≤ 80000000) :
    answerSetDatum p d = taken .ok [] (setDatum v d) := by
  unfold answerSetDatum
  rw [if_neg (datumLength_of_carries hp), if_neg (fun hn => (not_datumAllowed_iff d).2 hn h), datumValue_of_carries hp,
    if_neg (by omega)]

/-- The first datum makes the roll READY. -/
theorem setDatum_first (hs : d.roll.state = .threaded) (hd : d.roll.datum = false) :
    setDatum v d = raise .service .roll (raise .request .roll
      ((d.setMetering { d.metering with counter := v }).setRoll { d.roll with state := .ready, datum := true })) := by
  unfold setDatum
  rw [hd]
  dsimp only
  rw [if_neg Bool.false_ne_true, Dev.setMetering_roll, if_pos hs, setRollState_of_ne (by simp [hs])]
  rfl

/-- A datum over another one moves what is held in counter terms. -/
theorem setDatum_again (hn : d.roll.state ≠ .noRoll) (hs : d.roll.state ≠ .threaded) (hd : d.roll.datum = true) :
    setDatum v d = (shiftDatum (v - d.metering.counter) d).setMetering { d.metering with counter := v } := by
  have hdatum : d.roll.datum = (d.roll.state == .ready || d.roll.state == .runout) := by
    rw [hd]
    cases hst : d.roll.state with
    | noRoll => exact absurd hst hn
    | threaded => exact absurd hst hs
    | ready => rfl
    | runout => rfl
  unfold setDatum
  rw [hd, if_pos rfl]
  exact (congrArg (fun st => setRollState st _) (if_neg hs)).trans (setRollState_same hdatum)

theorem settled_shiftDatum (by_ : Int) (d : Dev) (h : Settled d) : Settled (shiftDatum by_ d) := by
  unfold shiftDatum
  exact (settled_modifyRun (by exact fun _ => ⟨rfl, rfl, rfl⟩) _).2 ((settled_setRoll (by rfl) (by rfl)).2 h)

end

/-- Settles O15, by the order of the checks in the answer; over an existing datum nothing is left to do. -/
theorem setDatumSetsTheCounter : Obligations.SetDatumSetsTheCounter := by
  intro s tag p x v ht hp
  refine ⟨fun h => ?_, fun h hv => ?_, fun h hlow hhigh hs hd => ?_, fun h hlow hhigh hs hd hset => ?_⟩
  all_goals refine (takeFrame_takes .setDatum .service tag p x answerSetDatum s ht rfl).trans ?_
  · rw [answerSetDatum_blocked (d := heard .service (requestFrame tag p x) s) hp h]
    rfl
  · rw [answerSetDatum_badValue (d := heard .service (requestFrame tag p x) s) hp h hv]
    rfl
  · rw [answerSetDatum_taken (d := heard .service (requestFrame tag p x) s) hp h hlow hhigh,
      setDatum_first (d := heard .service (requestFrame tag p x) s) hs hd]
    rfl
  · rw [answerSetDatum_taken (d := heard .service (requestFrame tag p x) s) hp h hlow hhigh,
      setDatum_again (d := heard .service (requestFrame tag p x) s) h.1 hs hd]
    unfold taken
    rw [settle_of_settled _ ((settled_setMetering _ _).2 (settled_shiftDatum _ _ ((settled_heard _ _ _).2 hset)))]
    rfl

end Sys2Proof.Proofs

/-! The release of a roll: O14. -/

namespace Sys2Proof.Proofs

open Sys2Proof Sys2Proof.Machine

/-! ### What a disarm leaves alone -/

/-- The parts of the device that the line trigger generator and the frame detector do not own, and whether the run is ENDING. -/
def besideArm (d : Dev) : Transport × Retrieval × FrameIndex × RollState × List Report × Bool :=
  (d.transport, d.retrieval, d.index, d.roll.state, d.inbox, runIn d [.ending])

/-- The run record changed, but not the state of the run. -/
theorem besideArm_modifyRun {f : RunRecord → RunRecord} (hf : ∀ r, (f r).state = r.state) (d : Dev) :
    besideArm (modifyRun f d) = besideArm d := by
  have hrun : runIn (modifyRun f d) [.ending] = runIn d [.ending] := by
    unfold runIn
    rw [modifyRun_run]
    cases d.scan.run with
    | none => rfl
    | some r => simp [hf]
  unfold besideArm
  rw [hrun]
  rfl

theorem besideArm_pushNotice (n : Notice) (d : Dev) : besideArm (pushNotice n d) = besideArm d := by
  unfold pushNotice
  dsimp only
  split <;> rfl

theorem besideArm_truncateOpen (d : Dev) : besideArm (truncateOpen d) = besideArm d := by
  have hdrop : ∀ e, besideArm (dropRecentMarks e) = besideArm e := fun _ => rfl
  unfold truncateOpen
  rw [hdrop]
  split
  · exact besideArm_pushNotice _ _
  · rfl

theorem besideArm_applyPending (d : Dev) : besideArm (applyPending d) = besideArm d := by
  unfold applyPending
  split
  · rfl
  · exact besideArm_modifyRun (by exact fun _ => rfl) _

/-- The open frame handed on at a disarm, but for one in a frame close (R116). -/
def handOnFrame (atClose : Bool) (d : Dev) : Dev := if d.detector.activity = .run ∧ atClose = false then truncateOpen d else d

/-- The arm and all that goes with it discarded (R72, R109). -/
def discardArm (d : Dev) : Dev :=
  let d := setGate false (detectorIdle d)
  let d := d.setTrigger { d.trigger with arm := none }
  let d := d.setLines { d.lines with expected := none, last := none }
  d.setFocus { d.focus with search := d.focus.search.map fun s => { s with window := none } }

/-- The line counter kept for the next arm of the run (R71). -/
def saveLine (a : Arm) (d : Dev) : Dev :=
  if a.mode = .scan then modifyRun (fun r => { r with savedLine := d.trigger.lineCounter }) d else d

/-- The last boundary point discarded (Table 8-1). -/
def dropBoundary (d : Dev) : Dev := modifyRun (fun r => { r with boundary := none }) d

/-- A disarm before the pending correction is applied and the owner told. -/
def disarmSteps (a : Arm) (atClose : Bool) (d : Dev) : Dev := dropBoundary (saveLine a (discardArm (handOnFrame atClose d)))

/-- A disarm of an arm that is there, in its steps. -/
theorem disarm_armed (why : DisarmCause) (atClose : Bool) {a : Arm} {d : Dev} (h : d.trigger.arm = some a) :
    disarm why atClose d = report (.disarmed a.owner why) (applyPending (disarmSteps a atClose d)) := by
  unfold disarm
  rw [h]
  rfl

theorem besideArm_handOnFrame (atClose : Bool) (d : Dev) : besideArm (handOnFrame atClose d) = besideArm d := by
  unfold handOnFrame
  split
  · exact besideArm_truncateOpen d
  · rfl

theorem besideArm_discardArm (d : Dev) : besideArm (discardArm d) = besideArm d := rfl

theorem besideArm_saveLine (a : Arm) (d : Dev) : besideArm (saveLine a d) = besideArm d := by
  unfold saveLine
  split
  · exact besideArm_modifyRun (by exact fun _ => rfl) _
  · rfl

theorem besideArm_dropBoundary (d : Dev) : besideArm (dropBoundary d) = besideArm d := besideArm_modifyRun (by exact fun _ => rfl) _

theorem besideArm_disarmSteps (a : Arm) (atClose : Bool) (d : Dev) : besideArm (applyPending (disarmSteps a atClose d)) = besideArm d := by
  unfold disarmSteps
  rw [besideArm_applyPending, besideArm_dropBoundary, besideArm_saveLine, besideArm_discardArm, besideArm_handOnFrame]

/-- The grant dropped: the grant is free, and the owner of an arm may have the report of its disarm. -/
theorem dropGrant_cases (d : Dev) :
    ∃ e, besideArm e = besideArm (d.setTransport { d.transport with grant := .nobody, releasePending := false })
      ∧ (dropGrant d = e ∨ dropGrant d = report (.disarmed d.transport.grant .grantLost) e) := by
  unfold dropGrant
  dsimp only
  split
  next a ha =>
    by_cases ho : a.owner = d.transport.grant
    · rw [if_pos ho]
      exact ⟨_, besideArm_disarmSteps a false _, .inr (ho ▸ disarm_armed .grantLost false ha)⟩
    · rw [if_neg ho]
      exact ⟨_, rfl, .inl rfl⟩
  next => exact ⟨_, rfl, .inl rfl⟩

/-! ### The completion of every request -/

/-- The first request of the queue completes. -/
theorem completeRequest_head {r : RetrievalRequest} {rest : List RetrievalRequest} (result : CompletionResult) (flags : CompletionFlags)
    (correction : Int) {d : Dev} (h : d.retrieval.queue = r :: rest) :
    ∃ c ps, completeRequest r result flags correction d
        = (d.setRetrieval { d.retrieval with queue := rest, completions := d.retrieval.completions ++ [c] }).setPorts ps
      ∧ c.ticket = r.ticket ∧ c.result = result := by
  have hfound : requestOf d r.ticket = some r := by simp [requestOf, h]
  have hremoved : removeTicket r.ticket d.retrieval.queue = rest := by simp [removeTicket, h]
  unfold completeRequest
  rw [hfound, hremoved]
  dsimp only
  split
  · exact ⟨_, _, rfl, rfl, rfl⟩
  · exact ⟨_, d.ports, rfl, rfl, rfl⟩

/-- Every request of the queue completes ROLL_RELEASED, in order, and nothing but the ports changes besides. -/
theorem releaseRequests_all (q : List RetrievalRequest) : ∀ d : Dev, d.retrieval.queue = q →
    ∃ cs ps, releaseRequests q d
        = (d.setRetrieval { d.retrieval with queue := [], completions := d.retrieval.completions ++ cs }).setPorts ps
      ∧ cs.map (·.ticket) = q.map (·.ticket) ∧ ∀ c ∈ cs, c.result = .rollReleased := by
  induction q with
  | nil =>
    intro d hq
    refine ⟨[], d.ports, ?_, rfl, by simp⟩
    have hkeep : { d.retrieval with queue := [], completions := d.retrieval.completions ++ [] } = d.retrieval := by
      rw [List.append_nil, ← hq]
    rw [hkeep]
    rfl
  | cons r rest ih =>
    intro d hq
    obtain ⟨c, ps, hc, hticket, hresult⟩ := completeRequest_head .rollReleased (releaseFlags d r).1 (releaseFlags d r).2 hq
    obtain ⟨cs, ps', hcs, htickets, hresults⟩ := ih (completeRequest r .rollReleased (releaseFlags d r).1 (releaseFlags d r).2 d)
      (by rw [hc]; rfl)
    refine ⟨c :: cs, ps', ?_, by simp [hticket, htickets], by simpa [hresult] using hresults⟩
    have happend : d.retrieval.completions ++ c :: cs = (d.retrieval.completions ++ [c]) ++ cs := by simp
    rw [happend]
    refine hcs.trans ?_
    rw [hc]
    rfl

/-! ### RELEASE_ROLL -/

theorem releaseBlockedByMotion_iff (m : MotionState) :
    releaseBlockedByMotion m = true ↔ m = .jog ∨ m = .seek ∨ m = .creep ∨ m = .scan ∨ m = .stopping ∨ m = .retensioning := by
  cases m <;> simp [releaseBlockedByMotion]

/-- The end of a SUSPENDED run at the release of the roll (R8). -/
def endSuspended (d : Dev) : Dev := if runIn d [.suspended] then endRun (setRunCause .rollReleased d) else d

/-- An ended run is not ENDING. -/
theorem besideArm_endSuspended (d : Dev) : besideArm (endSuspended d) = besideArm d := by
  unfold endSuspended
  split
  next hsuspended =>
    unfold runIn at hsuspended
    cases hr : d.scan.run with
    | none => simp [hr] at hsuspended
    | some r =>
      have hs : r.state = .suspended := by simpa [hr] using hsuspended
      simp [besideArm, endRun, setRunCause, setRunState, modifyRun, runIn, raise, hr, hs]
  next => rfl

/-- The retrieval scheduler emptied. -/
def clearRetrieval (d : Dev) : Dev := d.setRetrieval { d.retrieval with hold := none, attempt := none, hints := [] }

/-- The index emptied, and then the roll. -/
def clearRoll (d : Dev) : Dev :=
  let d := setIndexState .empty none (d.setIndex { d.index with entries := [], session := none })
  setRollState .noRoll (d.setRoll { d.roll with splices := [], record := none, tail := none })

/-- The scheduler is empty, and neither a release of the grant nor the end of the run is due. -/
structure Drained (d : Dev) : Prop where
  queue : d.retrieval.queue = []
  hints : d.retrieval.hints = []
  hold : d.retrieval.hold = none
  attempt : d.retrieval.attempt = none
  ending : runIn d [.ending] = false
  release : (d.transport.releasePending && atRest d) = false

theorem atRest_of_transport {d e : Dev} (h : e.transport = d.transport) : atRest e = atRest d := by
  unfold atRest
  rw [h]

/-- A device with the scheduler of a drained one, and whose run and release are not due, is drained. -/
theorem Drained.of_retrieval {d e : Dev} (h : Drained d) (hr : e.retrieval = d.retrieval) (hending : runIn e [.ending] = false)
    (hrelease : (e.transport.releasePending && atRest e) = false) : Drained e := by
  obtain ⟨hqueue, hhints, hhold, hattempt, -, -⟩ := h
  rw [← hr] at hqueue hhints hhold hattempt
  exact ⟨hqueue, hhints, hhold, hattempt, hending, hrelease⟩

/-- RETRIEVAL releases the grant: the scheduler stays empty, and at most the report of its disarm waits. -/
theorem releaseGrant_drained {d : Dev} (h : Drained d) (hinbox : d.inbox = []) :
    Drained (releaseGrant .retrieval d) ∧ (releaseGrant .retrieval d).roll.state = d.roll.state
      ∧ ((releaseGrant .retrieval d).inbox = [] ∨ (releaseGrant .retrieval d).inbox = [.disarmed .retrieval .grantLost]) := by
  unfold releaseGrant
  split
  next => exact ⟨h, rfl, .inl hinbox⟩
  next hgrant =>
    have howner : d.transport.grant = .retrieval := by
      by_contra hne
      exact hgrant (.inl hne)
    split
    next hrest =>
      obtain ⟨e, hb, he⟩ := dropGrant_cases d
      simp only [besideArm, Prod.mk.injEq] at hb
      obtain ⟨htransport, hretrieval, -, hroll, hin, hending⟩ := hb
      have hempty : e.inbox = [] := hin.trans hinbox
      have hdrained : Drained e := h.of_retrieval hretrieval (hending.trans h.ending) (by rw [htransport]; rfl)
      rcases he with he | he <;> rw [he]
      · exact ⟨hdrained, hroll, .inl hempty⟩
      · rw [howner]
        exact ⟨h.of_retrieval hretrieval (hending.trans h.ending) hdrained.release, hroll, .inr (congrArg (· ++ _) hempty)⟩
    next hmoving =>
      have hrest : atRest d = false := by simpa using hmoving
      exact ⟨h.of_retrieval rfl h.ending ((congrArg (true && ·) hrest).trans rfl), rfl, .inl hinbox⟩

/-- What a roll released holds. -/
structure RollCleared (d : Dev) : Prop where
  record : d.roll.record = none
  state : d.roll.state = .noRoll
  datum : d.roll.datum = false
  splices : d.roll.splices = []
  tail : d.roll.tail = none
  entries : d.index.entries = []
  indexState : d.index.state = .empty
  session : d.index.session = none
  requestEvent : eventSet d .request .roll
  serviceEvent : eventSet d .service .roll

/-- The index state set, but for the events. -/
theorem setIndexState_eq (st : IndexState) (cause : Option CloseCause) (d : Dev) :
    ∃ ps, setIndexState st cause d = (d.setIndex { d.index with state := st, closeCause := cause }).setPorts ps := by
  unfold setIndexState
  dsimp only
  split
  · exact ⟨d.ports, rfl⟩
  · exact ⟨_, rfl⟩

/-- The index and the roll cleared, but for the events of the index. -/
theorem clearRoll_eq {d : Dev} (h : d.roll.state ≠ .noRoll) :
    ∃ ps, clearRoll d = raise .service .roll (raise .request .roll
      (((d.setRoll { d.roll with record := none, state := .noRoll, datum := false, splices := [], tail := none }).setIndex
        { d.index with entries := [], session := none, state := .empty, closeCause := none }).setPorts ps)) := by
  obtain ⟨ps, hps⟩ := setIndexState_eq .empty none (d.setIndex { d.index with entries := [], session := none })
  refine ⟨ps, ?_⟩
  unfold clearRoll
  rw [hps]
  exact setRollState_of_ne h

theorem rollCleared_clearRoll {d : Dev} (h : d.roll.state ≠ .noRoll) : RollCleared (clearRoll d) := by
  obtain ⟨ps, hps⟩ := clearRoll_eq h
  rw [hps]
  refine ⟨rfl, rfl, rfl, rfl, rfl, rfl, rfl, rfl, ?_, ?_⟩
  · exact raise_sets .request .roll _ (by decide)
  · exact raise_sets .service .roll _ (by decide)

theorem drained_clearRoll {d : Dev} (h : d.roll.state ≠ .noRoll) (hd : Drained d) : Drained (clearRoll d) := by
  obtain ⟨ps, hps⟩ := clearRoll_eq h
  rw [hps]
  exact ⟨hd.queue, hd.hints, hd.hold, hd.attempt, hd.ending, hd.release⟩

theorem clearRoll_inbox {d : Dev} (h : d.roll.state ≠ .noRoll) : (clearRoll d).inbox = d.inbox := by
  obtain ⟨ps, hps⟩ := clearRoll_eq h
  rw [hps]
  rfl

/-- The device before the grant is released. -/
def emptied (d : Dev) : Dev := clearRetrieval (releaseRequests (endSuspended d).retrieval.queue (endSuspended d))

/-- The device before the grant is released is drained, when no release and no end of a run was due. -/
theorem drained_emptied {d : Dev} (hending : runIn d [.ending] = false) (hrelease : (d.transport.releasePending && atRest d) = false) :
    Drained (emptied d) ∧ (emptied d).inbox = d.inbox ∧ (emptied d).roll.state = d.roll.state := by
  have hb := besideArm_endSuspended d
  simp only [besideArm, Prod.mk.injEq] at hb
  obtain ⟨htransport, -, -, hroll, hin, hend⟩ := hb
  obtain ⟨cs, ps, hall, -, -⟩ := releaseRequests_all _ (endSuspended d) rfl
  unfold emptied
  rw [hall]
  refine ⟨⟨rfl, rfl, rfl, rfl, hend.trans hending, ?_⟩, hin, hroll⟩
  show ((endSuspended d).transport.releasePending && atRest (endSuspended d)) = false
  rw [atRest_of_transport htransport, htransport]
  exact hrelease

/-- A drained device without a roll has nothing left to do. -/
theorem reaction_none_of_cleared {d : Dev} (hr : d.roll.state = .noRoll) (hd : d.roll.datum = false) (h : Drained d)
    (hinbox : d.inbox = []) : reaction d = none := by
  refine reaction_none_of_no_datum hd (by simp [hr]) hinbox h.release (fun r hrun hs => ?_) (by simp [lensArrived, h.attempt])
  have hending := h.ending
  simp [runIn, hrun, hs] at hending

/-- A report that changes nothing is taken, and nothing is left to do. -/
theorem settle_of_idle_report {d : Dev} {r : Report} (hinbox : d.inbox = [r]) (ht : takeReport r (d.setInbox []) = d.setInbox [])
    (h : reaction (d.setInbox []) = none) : settle d = stopParkTimer (d.setInbox []) := by
  have hreaction : reaction d = some (d.setInbox []) := by
    unfold reaction
    rw [hinbox]
    exact congrArg some ht
  show stopParkTimer (settleFor (4095 + 1) d) = _
  rw [settleFor_step _ _ _ hreaction, settleFor_of_none _ _ h]

/-- The stop of the park timer touches the transport alone. -/
theorem stopParkTimer_eq (d : Dev) : ∃ t, stopParkTimer d = d.setTransport t := by
  unfold stopParkTimer
  split
  · exact ⟨d.transport, rfl⟩
  · exact ⟨_, rfl⟩

/-- The clearing leaves nothing to do but to take the report of a disarm. -/
theorem settle_clearRoll {d : Dev} (hne : d.roll.state ≠ .noRoll) (hd : Drained d)
    (hinbox : d.inbox = [] ∨ d.inbox = [.disarmed .retrieval .grantLost]) :
    settle (clearRoll d) = stopParkTimer ((clearRoll d).setInbox []) := by
  have hcleared := rollCleared_clearRoll hne
  have hdrained := drained_clearRoll hne hd
  rw [← clearRoll_inbox hne] at hinbox
  generalize clearRoll d = e at hcleared hdrained hinbox
  have hnone : reaction (e.setInbox []) = none :=
    reaction_none_of_cleared hcleared.state hcleared.datum (hdrained.of_retrieval rfl hdrained.ending hdrained.release) rfl
  rcases hinbox with hempty | hone
  · have hsame : e.setInbox [] = e := by
      rw [← hempty]
      rfl
    rw [hsame] at hnone ⊢
    exact settle_of_none _ hnone
  · exact settle_of_idle_report hone rfl hnone

/-- The release of a roll, in its parts. -/
theorem releaseRoll_eq (d : Dev) : releaseRoll d = clearRoll (releaseGrant .retrieval (emptied d)) := rfl

/-- The device after a roll is released. -/
theorem settle_releaseRoll {d : Dev} (hs : d.roll.state ≠ .noRoll) (hinbox : d.inbox = []) (hending : runIn d [.ending] = false)
    (hrelease : (d.transport.releasePending && atRest d) = false) :
    ∃ e t, settle (releaseRoll d) = (e.setInbox []).setTransport t ∧ RollCleared e ∧ Drained e := by
  obtain ⟨hdrained, hin, hroll⟩ := drained_emptied hending hrelease
  obtain ⟨hdrained, hroll', hin'⟩ := releaseGrant_drained hdrained (hin.trans hinbox)
  have hne : (releaseGrant .retrieval (emptied d)).roll.state ≠ .noRoll := by rwa [hroll', hroll]
  obtain ⟨t, ht⟩ := stopParkTimer_eq ((clearRoll (releaseGrant .retrieval (emptied d))).setInbox [])
  rw [releaseRoll_eq, settle_clearRoll hne hdrained hin', ht]
  exact ⟨_, t, rfl, rollCleared_clearRoll hne, drained_clearRoll hne hdrained⟩

/-- A response at a port leaves its event flags. -/
theorem eventSet_respond (id port : PortId) (k : EventKind) (tag : Byte) (r : Result) (payload : List Byte) (d : Dev) :
    eventSet (respond id tag r payload d) port k ↔ eventSet d port k := by
  cases id <;> cases port <;> rfl

section
variable {p : List Byte} {d : Dev}

/-- The film moves, as RELEASE_ROLL asks. -/
def FilmMoves (d : Dev) : Prop :=
  d.transport.motion = .jog ∨ d.transport.motion = .seek ∨ d.transport.motion = .creep ∨ d.transport.motion = .scan
    ∨ d.transport.motion = .stopping ∨ d.transport.motion = .retensioning

/-- A run that a release would cut. -/
def RunActive (d : Dev) : Prop := runIn d [.queued, .preparing, .running, .suspending, .ending] = true

theorem answerReleaseRoll_blocked (h : FilmMoves d ∨ RunActive d) : answerReleaseRoll p d = refuse .state d :=
  if_pos (h.imp_left (releaseBlockedByMotion_iff _).2)

theorem not_blocked (hm : ¬ FilmMoves d) (ha : ¬ RunActive d) :
    ¬ (releaseBlockedByMotion d.transport.motion = true ∨ runIn d [.queued, .preparing, .running, .suspending, .ending] = true) :=
  fun h => h.elim (fun hb => hm ((releaseBlockedByMotion_iff _).1 hb)) ha

theorem answerReleaseRoll_noRoll (hm : ¬ FilmMoves d) (ha : ¬ RunActive d) (hs : d.roll.state = .noRoll) :
    answerReleaseRoll p d = answered [] d :=
  (if_neg (not_blocked hm ha)).trans (if_pos hs)

theorem answerReleaseRoll_taken (hm : ¬ FilmMoves d) (ha : ¬ RunActive d) (hs : d.roll.state ≠ .noRoll) :
    answerReleaseRoll p d = taken .ok [] (releaseRoll d) :=
  (if_neg (not_blocked hm ha)).trans (if_neg hs)

theorem not_ending_of_not_active (ha : ¬ RunActive d) : runIn d [.ending] = false := by
  unfold RunActive runIn at *
  cases hr : d.scan.run with
  | none => rfl
  | some r =>
    rw [hr] at ha
    refine Bool.eq_false_iff.2 fun h => ha ?_
    have hs : r.state = .ending := by simpa using h
    simp [hs]

end

/-- Settles O14: the clearing leaves nothing to do but to take the report of a disarm; and each completion takes the head of the queue. -/
theorem releaseRollClearsTheRoll : Obligations.ReleaseRollClearsTheRoll := by
  refine ⟨fun s tag p x ht => ⟨fun h => ?_, fun hm ha hs => ?_, fun hm ha hs hset => ?_⟩, fun d => ?_⟩
  · refine (takeFrame_takes .releaseRoll .service tag p x answerReleaseRoll s ht rfl).trans ?_
    rw [answerReleaseRoll_blocked (d := heard .service (requestFrame tag p x) s) h]
    rfl
  · refine (takeFrame_takes .releaseRoll .service tag p x answerReleaseRoll s ht rfl).trans ?_
    rw [answerReleaseRoll_noRoll (d := heard .service (requestFrame tag p x) s) hm ha hs]
    rfl
  · obtain ⟨hinbox, hrelease, -⟩ := (reaction_none_iff s.dev).1 hset.1
    obtain ⟨e, t, he, hcleared, hdrained⟩ := settle_releaseRoll (d := heard .service (requestFrame tag p x) s) hs hinbox
      (not_ending_of_not_active ha) hrelease
    refine ⟨_, takeFrame_takes .releaseRoll .service tag p x answerReleaseRoll s ht rfl, ?_⟩
    rw [answerReleaseRoll_taken (d := heard .service (requestFrame tag p x) s) hm ha hs]
    unfold taken
    rw [he]
    refine ⟨rfl, rfl, hcleared.record, hcleared.state, hcleared.datum, hcleared.splices, hcleared.tail, hcleared.entries,
      hcleared.indexState, hcleared.session, hdrained.queue, hdrained.hints, hdrained.hold, ?_, ?_⟩
    · exact (eventSet_respond _ _ _ _ _ _ _).2 hcleared.requestEvent
    · exact (eventSet_respond _ _ _ _ _ _ _).2 hcleared.serviceEvent
  · obtain ⟨cs, ps, hall, htickets, hresults⟩ := releaseRequests_all _ d rfl
    rw [hall]
    exact ⟨cs, rfl, htickets, hresults, rfl⟩

end Sys2Proof.Proofs

/-! The reactions of a transport that brakes for runout. -/

namespace Sys2Proof.Proofs

open Sys2Proof Sys2Proof.Machine

/-! ### Braking for runout: what the reactions leave alone while the transport is STOPPING -/

/-- The reports that can wait while the transport brakes for runout with no arm. -/
def Benign : Report → Prop
  | .orderEnded _ (.failed _) _ => True
  | .disarmed _ .command => True
  | .searchEnded => True
  | .searchSuperseded => True
  | _ => False

/-- The parts of the transport that stay while it brakes. -/
def brakeOf (t : Transport) : MotionState × Option StopReason × Int × Owner := (t.motion, t.stopReason, t.demand, t.grant)

/-- The device `e` comes of `d` by reactions while the transport brakes for runout with no arm. -/
structure Brakes (d e : Dev) : Prop where
  roll : e.roll = d.roll
  metering : e.metering = d.metering
  index : e.index = d.index
  scan : e.scan = d.scan
  arm : e.trigger.arm = none
  brake : brakeOf e.transport = (.stopping, some .runout, d.transport.demand, d.transport.grant)
  search : d.focus.search = none → e.focus.search = none
  events : ∀ port k, eventSet d port k → eventSet e port k
  inbox : ∀ r ∈ e.inbox, Benign r

/-- A device that brakes for runout with no arm and benign reports. -/
theorem Brakes.refl {d : Dev} (ha : d.trigger.arm = none) (hm : d.transport.motion = .stopping) (hs : d.transport.stopReason = some .runout)
    (hi : ∀ r ∈ d.inbox, Benign r) : Brakes d d :=
  ⟨rfl, rfl, rfl, rfl, ha, by rw [brakeOf, hm, hs], id, fun _ _ => id, hi⟩

/-- An event stays set when another is raised. -/
theorem eventSet_raise {d : Dev} {port : PortId} {k : EventKind} (id : PortId) (k' : EventKind) (h : eventSet d port k) :
    eventSet (raise id k' d) port k := by
  unfold eventSet raise at *
  by_cases hp : port = id
  · subst hp
    simp only [Dev.setPorts_ports, Ports.get_put, hasEvent, BitVec.getLsbD_or, Bool.or_eq_true]
    exact .inl h
  · simpa only [Dev.setPorts_ports, Ports.get_put_other _ _ hp] using h

section
variable {d e : Dev}

theorem Brakes.motion (h : Brakes d e) : e.transport.motion = .stopping := congrArg (·.1) h.brake
theorem Brakes.stopReason (h : Brakes d e) : e.transport.stopReason = some .runout := congrArg (·.2.1) h.brake
theorem Brakes.demand (h : Brakes d e) : e.transport.demand = d.transport.demand := congrArg (·.2.2.1) h.brake
theorem Brakes.grant (h : Brakes d e) : e.transport.grant = d.transport.grant := congrArg (·.2.2.2) h.brake

theorem Brakes.atRest (h : Brakes d e) : Machine.atRest e = false := by simp [Machine.atRest, h.motion]

theorem Brakes.ite {p : Prop} [Decidable p] {f : Dev} (he : Brakes d e) (hf : Brakes d f) : Brakes d (if p then e else f) := by
  split
  · exact he
  · exact hf

theorem Brakes.snd_ite {α : Type} {p : Prop} [Decidable p] {a b : α × Dev} (ha : Brakes d a.2) (hb : Brakes d b.2) :
    Brakes d (if p then a else b).2 := by
  split
  · exact ha
  · exact hb

/-! #### Updates of a block -/

theorem setRetrieval_brakes {x : Retrieval} (h : Brakes d e) : Brakes d (e.setRetrieval x) :=
  ⟨h.roll, h.metering, h.index, h.scan, h.arm, h.brake, h.search, h.events, h.inbox⟩

theorem setFocus_brakes {x : Focus} (hx : e.focus.search = none → x.search = none) (h : Brakes d e) : Brakes d (e.setFocus x) :=
  ⟨h.roll, h.metering, h.index, h.scan, h.arm, h.brake, fun hd => hx (h.search hd), h.events, h.inbox⟩

theorem setTransport_brakes {x : Transport} (hx : brakeOf x = brakeOf e.transport) (h : Brakes d e) : Brakes d (e.setTransport x) :=
  ⟨h.roll, h.metering, h.index, h.scan, h.arm, hx.trans h.brake, h.search, h.events, h.inbox⟩

theorem raise_brakes {id : PortId} {k : EventKind} (h : Brakes d e) : Brakes d (raise id k e) :=
  ⟨h.roll, h.metering, h.index, h.scan, h.arm, h.brake, h.search, fun port k' hk => eventSet_raise id k (h.events port k' hk), h.inbox⟩

theorem report_brakes {r : Report} (hr : Benign r) (h : Brakes d e) : Brakes d (report r e) := by
  refine ⟨h.roll, h.metering, h.index, h.scan, h.arm, h.brake, h.search, h.events, fun r' hr' => ?_⟩
  rcases List.mem_append.1 hr' with hold | hnew
  · exact h.inbox r' hold
  · exact List.mem_singleton.1 hnew ▸ hr

theorem setLens_brakes {l : Lens} (h : Brakes d e) : Brakes d (setLens l e) := setFocus_brakes id h

/-! #### Orders and the grant -/

theorem giveStop_brakes {o : Owner} (h : Brakes d e) : Brakes d (giveStop o e) := by
  unfold giveStop
  rw [h.motion, h.stopReason]
  exact .ite (report_brakes trivial h) (.ite h (setTransport_brakes rfl h))

theorem retrievalSeek_brakes {x : Int} (h : Brakes d e) : Brakes d (retrievalSeek x e) := by
  unfold retrievalSeek giveOrder
  rw [h.motion]
  exact .ite (report_brakes trivial h) (setTransport_brakes rfl h)

theorem releaseGrant_brakes {o : Owner} (h : Brakes d e) : Brakes d (releaseGrant o e) := by
  unfold releaseGrant
  rw [h.atRest]
  exact .ite h (setTransport_brakes rfl h)

/-! #### The lens -/

theorem lensRest_brakes (h : Brakes d e) : Brakes d (lensRest e) := .ite (raise_brakes (setLens_brakes h)) (setLens_brakes h)

theorem beginSettle_brakes {m : MoveRecord} (h : Brakes d e) : Brakes d (beginSettle m e) :=
  .ite (lensRest_brakes (setLens_brakes h)) (setLens_brakes h)

theorem noteLensMoved_brakes (h : Brakes d e) : Brakes d (noteLensMoved e) := setFocus_brakes id h

theorem moveRequest_brakes {n : Nat} {r : Requester} (h : Brakes d e) : Brakes d (moveRequest n r e).2 := by
  have hreported : ∀ b : Bool, Brakes d (if b then report .searchSuperseded e else e) := fun _ => .ite (report_brakes trivial h) h
  unfold moveRequest
  dsimp only
  split
  · exact h
  · exact h
  · exact h
  · exact .snd_ite h (noteLensMoved_brakes (setLens_brakes h))
  · exact .snd_ite (beginSettle_brakes (hreported _)) (setLens_brakes (hreported _))

/-! #### A search given up or ended -/

theorem closeSearchMotion_brakes {w : SearchOwner} (h : Brakes d e) : Brakes d (closeSearchMotion w e) := by
  unfold closeSearchMotion
  rw [h.arm]
  exact .ite (giveStop_brakes h) h

theorem recordOutcome_brakes {w : SearchOwner} {o : FocusOutcome} {b : Option (Nat × Nat)} (h : Brakes d e) :
    Brakes d (recordOutcome w o b e) := raise_brakes (setFocus_brakes (fun _ => rfl) h)

theorem leaveToRun_brakes {b : Bool} {x : Option (Nat × Nat)} {n : Nat} (h : Brakes d e) : Brakes d (leaveToRun b x n e) := by
  unfold leaveToRun
  split
  · exact h
  · split
    · exact .ite (setFocus_brakes id h) h
    · exact setFocus_brakes id h
    · exact h

theorem abandonSearch_brakes (h : Brakes d e) : Brakes d (abandonSearch e) := by
  unfold abandonSearch
  split
  · exact h
  · dsimp only
    split
    · exact recordOutcome_brakes (closeSearchMotion_brakes h)
    · exact releaseGrant_brakes (recordOutcome_brakes (closeSearchMotion_brakes h))

theorem endSearch_brakes {b : Bool} (h : Brakes d e) : Brakes d (endSearch b e) := by
  unfold endSearch
  split
  · exact h
  · have hclosed := fun w o x => recordOutcome_brakes (w := w) (o := o) (b := x) (closeSearchMotion_brakes (w := w) h)
    dsimp only
    split
    · exact report_brakes trivial (leaveToRun_brakes (.ite (hclosed _ _ _) (moveRequest_brakes (hclosed _ _ _))))
    · exact releaseGrant_brakes (.ite (hclosed _ _ _) (moveRequest_brakes (hclosed _ _ _)))

/-! #### The retrieval scheduler -/

theorem modifyRequest_brakes {t : Nat} {f : RetrievalRequest → RetrievalRequest} (h : Brakes d e) : Brakes d (modifyRequest t f e) :=
  setRetrieval_brakes h

theorem setAttempt_brakes {a : Option Attempt} (h : Brakes d e) : Brakes d (setAttempt a e) := setRetrieval_brakes h

theorem modifyAttempt_brakes {f : Attempt → Attempt} (h : Brakes d e) : Brakes d (modifyAttempt f e) := setRetrieval_brakes h

theorem completeRequest_brakes {r : RetrievalRequest} {x : CompletionResult} {f : CompletionFlags} {c : Int} (h : Brakes d e) :
    Brakes d (completeRequest r x f c e) := by
  unfold completeRequest
  split
  · exact h
  · exact .ite (raise_brakes (setRetrieval_brakes h)) (setRetrieval_brakes h)

theorem completeAll_brakes {x : CompletionResult} (rs : List RetrievalRequest) (h : Brakes d e) : Brakes d (completeAll x rs e) := by
  induction rs generalizing e with
  | nil => exact h
  | cons r rest ih => exact ih (completeRequest_brakes h)

theorem requestRecall_brakes {n : Option Nat} (h : Brakes d e) : Brakes d (requestRecall n e).2 := by
  unfold requestRecall
  split
  · exact h
  · exact .snd_ite (moveRequest_brakes h) h

theorem startAttempt_brakes {r : RetrievalRequest} (h : Brakes d e) : Brakes d (startAttempt r e) := by
  have hseek : ∀ x a, Brakes d (retrievalSeek x (setAttempt a (markChosen r e))) :=
    fun _ _ => retrievalSeek_brakes (setAttempt_brakes (setRetrieval_brakes h))
  refine .ite (modifyRequest_brakes (modifyAttempt_brakes (requestRecall_brakes ?_))) ?_ <;> split <;> exact hseek _ _

theorem selectNext_brakes (h : Brakes d e) : Brakes d (selectNext e) := by
  unfold selectNext
  split
  · exact startAttempt_brakes h
  · exact releaseGrant_brakes h

theorem keepDecision_brakes (h : Brakes d e) : Brakes d (keepDecision e) := .ite h (.ite (selectNext_brakes h) (releaseGrant_brakes h))

theorem completeActive_brakes {x : CompletionResult} (h : Brakes d e) : Brakes d (completeActive x e) := by
  unfold completeActive
  split
  · exact setAttempt_brakes h
  · exact setAttempt_brakes (completeRequest_brakes h)

theorem endHold_brakes (h : Brakes d e) : Brakes d (endHold e) := keepDecision_brakes (setRetrieval_brakes h)

theorem completeDone_brakes (h : Brakes d e) : Brakes d (completeDone e) := by
  unfold completeDone
  split
  · exact h
  · exact .ite (keepDecision_brakes (completeActive_brakes h)) (setRetrieval_brakes (completeActive_brakes h))

theorem disarmConfirm_brakes (h : Brakes d e) : Brakes d (disarmConfirm e) := by
  unfold disarmConfirm
  rw [h.arm]
  exact h

theorem failAttempt_brakes (h : Brakes d e) : Brakes d (failAttempt e) := by
  have hdisarmed := disarmConfirm_brakes h
  unfold failAttempt
  dsimp only
  split
  · exact hdisarmed
  · exact keepDecision_brakes (.ite (completeActive_brakes hdisarmed) (setAttempt_brakes (modifyRequest_brakes hdisarmed)))

theorem presentActive_brakes (h : Brakes d e) : Brakes d (presentActive e) := by
  unfold presentActive
  split
  · exact h
  · exact retrievalSeek_brakes (modifyAttempt_brakes h)

theorem giveUpConfirm_brakes (h : Brakes d e) : Brakes d (giveUpConfirm e) :=
  presentActive_brakes (modifyAttempt_brakes (disarmConfirm_brakes h))

theorem endHint_brakes (h : Brakes d e) : Brakes d (endHint e) := keepDecision_brakes (setAttempt_brakes h)

theorem abandonHint_brakes (h : Brakes d e) : Brakes d (abandonHint e) := giveStop_brakes (modifyAttempt_brakes h)

/-! #### Reports of failure -/

theorem retrievalReport_brakes {c : FailCause} {b : Bool} (h : Brakes d e) : Brakes d (retrievalReport (.failed c) b e) := by
  unfold retrievalReport
  split
  · exact h
  · split
    · exact h
    · exact endHint_brakes h
    · exact endHint_brakes h
    · exact endHint_brakes h
    · contradiction
    · exact failAttempt_brakes h
    · exact giveUpConfirm_brakes h
    · exact .ite (failAttempt_brakes h) (giveUpConfirm_brakes h)
    · exact failAttempt_brakes h
    · contradiction
    · exact failAttempt_brakes h
    · contradiction
    · exact h

theorem serviceReport_brakes {c : FailCause} (h : Brakes d e) : Brakes d (serviceReport (.failed c) e) := by
  have hraised : Brakes d (raise .service .fault
      (raise .service .motionEnd (e.setTransport { e.transport with serviceOutcome := some (.failed c) }))) :=
    raise_brakes (raise_brakes (setTransport_brakes rfl h))
  exact .ite (endSearch_brakes hraised) (.ite hraised (releaseGrant_brakes hraised))

/-- A run that no report of failure moves on. -/
def RunUnmoved (d : Dev) : Prop := ∀ r, d.scan.run = some r → r.state ≠ .preparing ∧ r.state ≠ .running ∧ r.state ≠ .suspending

theorem scanReport_unmoved {o : OrderOutcome} (hr : RunUnmoved e) : scanReport o e = e := by
  unfold scanReport
  cases hrun : e.scan.run with
  | none => rfl
  | some r =>
    obtain ⟨hp, hrunning, hs⟩ := hr r hrun
    cases hst : r.state with
    | preparing => exact absurd hst hp
    | running => exact absurd hst hrunning
    | suspending => exact absurd hst hs
    | queued | suspended | ending | ended => simp only [hst]

theorem searchHandedBack_unmoved (hr : RunUnmoved e) : searchHandedBack e = e := by
  unfold searchHandedBack
  cases hrun : e.scan.run with
  | none => rfl
  | some r => exact if_neg fun h => (hr r hrun).1 h.1

theorem Brakes.unmoved (h : Brakes d e) (hr : RunUnmoved d) : RunUnmoved e := by
  unfold RunUnmoved
  rw [h.scan]
  exact hr

theorem takeReport_brakes {r : Report} (hb : Benign r) (hr : RunUnmoved d) (h : Brakes d e) : Brakes d (takeReport r e) := by
  match r, hb with
  | .orderEnded .scan (.failed c) _, _ => exact (congrArg (Brakes d) (scanReport_unmoved (h.unmoved hr))).mpr h
  | .orderEnded .retrieval (.failed c) _, _ => exact retrievalReport_brakes h
  | .orderEnded .service (.failed c) _, _ => exact serviceReport_brakes h
  | .orderEnded .nobody (.failed c) _, _ => exact h
  | .disarmed o .command, _ => cases o <;> exact h
  | .searchEnded, _ => exact (congrArg (Brakes d) (searchHandedBack_unmoved (h.unmoved hr))).mpr h
  | .searchSuperseded, _ => exact abandonSearch_brakes h

/-! #### The chain of reactions -/

theorem runReaction_of_unmoved (hr : RunUnmoved e) (hrest : atRest e = false) : runReaction e = none := by
  rw [runReaction_none_iff]
  refine fun r hrun => ⟨fun _ => hrest, fun hs => ?_⟩
  obtain ⟨hp, hrunning, -⟩ := hr r hrun
  exact absurd hs (by simp [hp, hrunning])

theorem retrievalReaction_brakes {f : Dev} (h : Brakes d e) (hf : retrievalReaction e = some f) : Brakes d f := by
  unfold retrievalReaction at hf
  dsimp only at hf
  split_ifs at hf <;> obtain rfl := Option.some.inj hf
  · exact endHold_brakes h
  · exact completeDone_brakes h
  · exact abandonHint_brakes h
  · exact setRetrieval_brakes h

theorem grantReaction_of_brakes (h : Brakes d e) : grantReaction e = none := by
  rw [grantReaction_none_iff]
  intro hfree
  simp [grantFree, h.motion] at hfree

theorem reaction_brakes {f : Dev} (hr : RunUnmoved d) (h : Brakes d e) (hf : reaction e = some f) : Brakes d f := by
  unfold reaction at hf
  split at hf
  next r rest hinbox =>
    obtain rfl := Option.some.inj hf
    have hall := h.inbox
    rw [hinbox] at hall
    exact takeReport_brakes (hall r (by simp)) hr
      ⟨h.roll, h.metering, h.index, h.scan, h.arm, h.brake, h.search, h.events, fun r' hr' => hall r' (List.mem_cons_of_mem _ hr')⟩
  next =>
    rw [h.atRest, Bool.and_false, if_neg Bool.false_ne_true, runReaction_of_unmoved (h.unmoved hr) h.atRest,
      grantReaction_of_brakes h] at hf
    cases hret : retrievalReaction e with
    | none => simp [hret] at hf
    | some f' =>
      rw [hret] at hf
      exact Option.some.inj hf ▸ retrievalReaction_brakes h hret

theorem settleFor_brakes (n : Nat) (hr : RunUnmoved d) (h : Brakes d e) : Brakes d (settleFor n e) := by
  induction n generalizing e with
  | zero => exact h
  | succ n ih =>
    unfold settleFor
    split
    next hf => exact ih (reaction_brakes hr h hf)
    next => exact h

/-- Whatever follows in the step leaves a transport that brakes for runout, the run, the roll and the index as they are. -/
theorem settle_brakes (hr : RunUnmoved d) (h : Brakes d e) : Brakes d (settle e) := by
  have hsettled := settleFor_brakes Config.cascadeBound hr h
  exact .ite hsettled (setTransport_brakes rfl hsettled)

end
end Sys2Proof.Proofs

/-! Runout: O19. -/

namespace Sys2Proof.Proofs

open Sys2Proof Sys2Proof.Machine

/-! ### Runout, step by step -/

/-- The film gone and the tail recorded: the roll becomes RUNOUT (R4). -/
def tailRecorded (d : Dev) : Dev :=
  raise .service .roll (raise .request .roll (d.setRoll
    { d.roll with filmPresent := false, tail := some d.metering.counter, state := .runout, datum := true }))

theorem setRollState_tail {d : Dev} (h : d.roll.state = .ready) :
    setRollState .runout (d.setRoll { d.roll with filmPresent := false, tail := some d.metering.counter }) = tailRecorded d :=
  setRollState_of_ne (by simp [h])

/-- The failure of the order in progress, but for a STOP and for the run's own order. -/
def orderFailed (scanEnds : Bool) (d : Dev) : Dev :=
  match d.transport.current with
  | some c =>
    if c.order.kind = .stop ∨ (scanEnds ∧ c.order.owner = .scan) then d else report (.orderEnded c.order.owner (.failed .limit) true) d
  | none => d

/-- The transport brakes for runout. -/
def braked (scanEnds : Bool) (d : Dev) : Dev := enterStopping .runout none (orderFailed scanEnds d)

theorem stopForRunout_moving {d : Dev} (hm : movingState d.transport.motion = true) :
    stopForRunout d = if runIn d [.preparing, .running, .suspending] then endAtRunout (braked (runIn d [.preparing, .running, .suspending]) d)
      else braked (runIn d [.preparing, .running, .suspending]) d := by
  have hkept : ∀ b, (orderFailed b d).transport = d.transport := by
    intro b
    unfold orderFailed
    split
    · split <;> rfl
    · rfl
  have hmoving : movingState (orderFailed (runIn d [.preparing, .running, .suspending]) d).transport.motion = true := by rwa [hkept]
  exact congrArg (fun e => if runIn d [.preparing, .running, .suspending] then endAtRunout e else e) (if_pos hmoving)

/-- The failure reported is one that the reactions can take. -/
theorem orderFailed_eq (b : Bool) {d : Dev} (h : ∀ r ∈ d.inbox, Benign r) :
    ∃ i, orderFailed b d = d.setInbox i ∧ ∀ r ∈ i, Benign r := by
  have hsame : d = d.setInbox d.inbox := rfl
  unfold orderFailed
  split
  · split
    · exact ⟨d.inbox, hsame, h⟩
    · refine ⟨_, rfl, fun r hr => ?_⟩
      rcases List.mem_append.1 hr with hold | hnew
      · exact h r hold
      · exact List.mem_singleton.1 hnew ▸ trivial
  · exact ⟨d.inbox, hsame, h⟩

/-- The device that brakes for runout, written out. -/
theorem braked_eq (b : Bool) {d : Dev} (h : ∀ r ∈ d.inbox, Benign r) :
    ∃ i, braked b d
        = (d.setInbox i).setTransport { d.transport with motion := .stopping, stopReason := some .runout, current := none }
      ∧ ∀ r ∈ i, Benign r := by
  obtain ⟨i, hi, hb⟩ := orderFailed_eq b h
  refine ⟨i, ?_, hb⟩
  unfold braked
  rw [hi]
  rfl

/-- The index closed at runout, but for the requests that the close fails. -/
def indexEnded (d : Dev) : Dev :=
  if d.index.state = .open_ ∨ d.index.state = .imported then setIndexState .closed (some .rollEnd) d else d

theorem indexEnded_eq (d : Dev) : ∃ x ps, indexEnded d = (d.setIndex x).setPorts ps := by
  unfold indexEnded
  split
  · obtain ⟨ps, hps⟩ := setIndexState_eq .closed (some .rollEnd) d
    exact ⟨_, ps, hps⟩
  · exact ⟨d.index, d.ports, rfl⟩

/-- A change of the index state raises INDEX at every port. -/
theorem setIndexState_of_ne {st : IndexState} {cause : Option CloseCause} {d : Dev} (h : d.index.state ≠ st) :
    setIndexState st cause d = raiseAll .index (d.setIndex { d.index with state := st, closeCause := cause }) :=
  if_neg h

theorem eventSet_raiseAll_index (port : PortId) (d : Dev) : eventSet (raiseAll .index d) port .index := by
  cases port with
  | capture => exact eventSet_raise _ _ (eventSet_raise _ _ (raise_sets .capture .index d (by decide)))
  | request => exact eventSet_raise _ _ (raise_sets .request .index _ (by decide))
  | service => exact raise_sets .service .index _ (by decide)

theorem indexEnded_of_open {d : Dev} (h : d.index.state = .open_ ∨ d.index.state = .imported) :
    indexEnded d = raiseAll .index (d.setIndex { d.index with state := .closed, closeCause := some .rollEnd }) :=
  (if_pos h).trans (setIndexState_of_ne (by rcases h with h | h <;> simp [h]))

theorem indexEnded_of_closed {d : Dev} (h : d.index.state = .empty ∨ d.index.state = .closed) : indexEnded d = d :=
  if_neg (by rcases h with h | h <;> simp [h])

/-- The close of the index keeps the events already set. -/
theorem eventSet_indexEnded {d : Dev} {port : PortId} {k : EventKind} (h : eventSet d port k) : eventSet (indexEnded d) port k := by
  by_cases hs : d.index.state = .open_ ∨ d.index.state = .imported
  · rw [indexEnded_of_open hs]
    exact eventSet_raise _ _ (eventSet_raise _ _ (eventSet_raise _ _ h))
  · rw [show indexEnded d = d from if_neg hs]
    exact h

/-- The close of the index leaves a device that brakes for runout. -/
theorem brakes_indexEnded {d : Dev} (h : Brakes d d) : Brakes (indexEnded d) (indexEnded d) := by
  obtain ⟨x, ps, hx⟩ := indexEnded_eq d
  rw [hx]
  exact .refl h.arm h.motion h.stopReason h.inbox

/-- The requests that the close of the index fails are no part of what braking keeps. -/
theorem closeIndex_brakes {d : Dev} (h : Brakes d d) :
    Brakes (indexEnded d) (if d.index.state = .open_ ∨ d.index.state = .imported then closeIndex .rollEnd d else d) := by
  have hb := brakes_indexEnded h
  unfold indexEnded at hb ⊢
  split at hb
  next hs =>
    rw [if_pos hs, if_pos hs]
    exact completeAll_brakes _ hb
  next hs =>
    rw [if_neg hs, if_neg hs]
    exact h

/-- The last step of runout (R132). -/
def closeAtRunout (d : Dev) : Dev := if d.index.state = .open_ ∨ d.index.state = .imported then closeIndex .rollEnd d else d

theorem filmChange_runout {d : Dev} (hs : d.roll.state = .ready) (hd : 0 < d.transport.demand) :
    filmChange false d = closeAtRunout (stopForRunout (tailRecorded d)) := by
  have hroll : (d.setRoll { d.roll with filmPresent := false }).roll.state = .ready := hs
  have hdir : motionDirection (d.setRoll { d.roll with filmPresent := false }) = some .forward := (motionDirection_eq_forward_iff _).2 hd
  unfold filmChange
  dsimp only
  rw [hroll, hdir]
  exact congrArg (fun e => closeAtRunout (stopForRunout e)) (setRollState_tail hs)

/-- What runout leaves is fixed once the transport brakes, an ended run is ENDING and the index is closed. -/
theorem settle_runout_brakes {d e : Dev} (hs : d.roll.state = .ready) (hd : 0 < d.transport.demand)
    (he : stopForRunout (tailRecorded d) = e) (hb : Brakes e e) (hr : RunUnmoved e) :
    Brakes (indexEnded e) (settle (filmChange false d)) := by
  have hunmoved : RunUnmoved (indexEnded e) := by
    obtain ⟨x, ps, hx⟩ := indexEnded_eq e
    rw [hx]
    exact hr
  rw [filmChange_runout hs hd, he]
  exact settle_brakes hunmoved (closeIndex_brakes hb)

theorem eventSet_tailRecorded (d : Dev) : eventSet (tailRecorded d) .request .roll ∧ eventSet (tailRecorded d) .service .roll :=
  ⟨eventSet_raise _ _ (raise_sets .request .roll _ (by decide)), raise_sets .service .roll _ (by decide)⟩

theorem exec_filmLevelLost {s : State} (h : s.dev.roll.filmPresent = true) :
    exec (.filmPresentChange false false) s = .next (s.setDev (settle (filmChange false s.dev))) := by
  rw [exec_filmPresentChange, filmSamples_taken (by simpa using h)]

/-- The transport that brakes for runout. -/
def brakedTransport (t : Transport) : Transport := { t with motion := .stopping, stopReason := some .runout, current := none }

/-- Runout up to the braking of the transport, with the reports that then wait. -/
def stoppedFor (i : List Report) (d : Dev) : Dev := ((tailRecorded d).setInbox i).setTransport (brakedTransport d.transport)

theorem braked_tailRecorded (b : Bool) {d : Dev} (h : d.inbox = []) :
    ∃ i, braked b (tailRecorded d) = stoppedFor i d ∧ ∀ r ∈ i, Benign r := by
  refine braked_eq b (d := tailRecorded d) fun r hin => ?_
  rw [show (tailRecorded d).inbox = [] from h] at hin
  exact absurd hin List.not_mem_nil

/-! ### Runout without a run under way -/

theorem runIn_false_of_idle {d : Dev} (h : ∀ r, d.scan.run = some r → r.state = .queued ∨ r.state = .suspended ∨ r.state = .ended) :
    runIn d [.preparing, .running, .suspending] = false := by
  unfold runIn
  cases hr : d.scan.run with
  | none => rfl
  | some r => rcases h r hr with hs | hs | hs <;> simp [hs]

theorem unmoved_of_idle {d : Dev} (h : ∀ r, d.scan.run = some r → r.state = .queued ∨ r.state = .suspended ∨ r.state = .ended) :
    RunUnmoved d := fun r hr => by rcases h r hr with hs | hs | hs <;> simp [hs]

/-- Runout with a run that is absent, QUEUED, SUSPENDED or ENDED. -/
theorem runout_without_run {d : Dev} (hs : d.roll.state = .ready) (hd : 0 < d.transport.demand)
    (hm : d.transport.motion = .jog ∨ d.transport.motion = .seek ∨ d.transport.motion = .creep) (ha : d.trigger.arm = none)
    (hr : ∀ r, d.scan.run = some r → r.state = .queued ∨ r.state = .suspended ∨ r.state = .ended) (hi : d.inbox = []) :
    ∃ i, Brakes (indexEnded (stoppedFor i d)) (settle (filmChange false d)) := by
  have hmoving : movingState (tailRecorded d).transport.motion = true := by
    rcases hm with hm | hm | hm <;> exact (congrArg movingState hm).trans rfl
  have hidle : runIn (tailRecorded d) [.preparing, .running, .suspending] = false := runIn_false_of_idle hr
  obtain ⟨i, hbraked, hbenign⟩ := braked_tailRecorded false hi
  refine ⟨i, settle_runout_brakes hs hd ?_ (.refl ha rfl rfl hbenign) (unmoved_of_idle hr)⟩
  rw [stopForRunout_moving hmoving, hidle, if_neg Bool.false_ne_true, hbraked]

/-! ### Runout of a run under way -/

/-- What a disarm by command leaves of a run and of its records. -/
structure DisarmedRun (d e : Dev) (r r' : RunRecord) : Prop where
  run : e.scan.run = some r'
  state : r'.state = r.state
  transport : e.transport = d.transport
  rollState : e.roll.state = d.roll.state
  arm : e.trigger.arm = none
  inbox : (∀ x ∈ d.inbox, Benign x) → ∀ x ∈ e.inbox, Benign x
  position : d.roll.pendingCorrection = none → e.roll = d.roll ∧ e.metering = d.metering
  armed : ∀ a, d.trigger.arm = some a →
    r'.boundary = none ∧ e.scan.gate = false ∧ (a.mode = .scan → r'.savedLine = d.trigger.lineCounter)
  truncated : ∀ a f, d.trigger.arm = some a → d.detector.activity = .run → d.detector.openFrame = some f →
    ∃ n, e.scan.notices = d.scan.notices ++ [n] ∧ n.kind = .truncated ∧ n.run = r.number ∧ n.start = f.start
  untouched : d.detector.openFrame = none → e.scan.notices = d.scan.notices

theorem pushNotice_eq (n : Notice) (d : Dev) :
    ∃ b ps, pushNotice n d = (d.setScan { d.scan with notices := d.scan.notices ++ [n], backlog := b }).setPorts ps := by
  unfold pushNotice
  dsimp only
  split
  · exact ⟨_, _, rfl⟩
  · exact ⟨_, d.ports, rfl⟩

/-- The notices after an open frame is handed on, with the run as it was. -/
structure FrameHandedOn (d : Dev) (r : RunRecord) (x : ScanControl) : Prop where
  run : x.run = some r
  truncated : ∀ f, d.detector.activity = .run → d.detector.openFrame = some f →
    ∃ n, x.notices = d.scan.notices ++ [n] ∧ n.kind = .truncated ∧ n.run = r.number ∧ n.start = f.start
  untouched : d.detector.openFrame = none → x.notices = d.scan.notices

theorem handOnFrame_eq {d : Dev} {r : RunRecord} (hr : d.scan.run = some r) :
    ∃ x y ps, handOnFrame false d = ((d.setScan x).setDetector y).setPorts ps ∧ FrameHandedOn d r x := by
  unfold handOnFrame
  by_cases hrun : d.detector.activity = .run
  · rw [if_pos ⟨hrun, rfl⟩]
    unfold truncateOpen
    rw [hr]
    cases hf : d.detector.openFrame with
    | none => exact ⟨d.scan, (dropRecentMarks d).detector, d.ports, rfl, hr, by simp [hf], fun _ => rfl⟩
    | some f =>
      obtain ⟨b, ps, hn⟩ := pushNotice_eq (truncatedNotice r.number f d) (setGate false d)
      dsimp only
      rw [hn]
      refine ⟨_, _, ps, rfl, hr, fun f' _ hf' => ?_, by simp [hf]⟩
      obtain rfl := Option.some.inj (hf.symm.trans hf')
      exact ⟨_, rfl, rfl, rfl, rfl⟩
  · rw [if_neg fun h => hrun h.1]
    exact ⟨d.scan, d.detector, d.ports, rfl, hr, fun _ h => absurd h hrun, fun _ => rfl⟩

theorem saveLine_eq (a : Arm) {d : Dev} {r : RunRecord} (hr : d.scan.run = some r) :
    ∃ r', saveLine a d = d.setScan { d.scan with run := some r' } ∧ r'.state = r.state
      ∧ (a.mode = .scan → r'.savedLine = d.trigger.lineCounter) := by
  unfold saveLine modifyRun
  rw [hr]
  split
  next => exact ⟨_, rfl, rfl, fun _ => rfl⟩
  next h => exact ⟨r, by rw [← hr]; rfl, rfl, fun hm => absurd hm h⟩

/-- A pending correction applied moves no more of the run than its resume point. -/
theorem applyPending_run {d : Dev} {r : RunRecord} (hr : d.scan.run = some r) :
    ∃ p, (applyPending d).scan = { d.scan with run := some { r with resume := p } } := by
  unfold applyPending
  split
  · refine ⟨r.resume, ?_⟩
    rw [← hr]
  · refine ⟨_, congrArg (fun x => { d.scan with run := x }) ((congrArg (Option.map _) hr).trans rfl)⟩

theorem applyPending_trigger (d : Dev) : (applyPending d).trigger = d.trigger := by
  unfold applyPending
  split <;> rfl

theorem applyPending_none {d : Dev} (h : d.roll.pendingCorrection = none) : applyPending d = d := by
  unfold applyPending
  rw [h]

/-- What the steps of a disarm leave of a run and of its records, before the pending correction is applied. -/
structure StepsTaken (d : Dev) (r : RunRecord) (a : Arm) (e : Dev) (r' : RunRecord) : Prop where
  run : e.scan.run = some r'
  state : r'.state = r.state
  boundary : r'.boundary = none
  line : a.mode = .scan → r'.savedLine = d.trigger.lineCounter
  gate : e.scan.gate = false
  arm : e.trigger.arm = none
  roll : e.roll = d.roll
  metering : e.metering = d.metering
  truncated : ∀ f, d.detector.activity = .run → d.detector.openFrame = some f →
    ∃ n, e.scan.notices = d.scan.notices ++ [n] ∧ n.kind = .truncated ∧ n.run = r.number ∧ n.start = f.start
  untouched : d.detector.openFrame = none → e.scan.notices = d.scan.notices

theorem discardArm_parts (d : Dev) :
    (discardArm d).scan = { d.scan with gate := false } ∧ (discardArm d).trigger = { d.trigger with arm := none }
      ∧ (discardArm d).roll = d.roll ∧ (discardArm d).metering = d.metering :=
  ⟨rfl, rfl, rfl, rfl⟩

theorem disarmSteps_run (a : Arm) {d : Dev} {r : RunRecord} (hr : d.scan.run = some r) :
    ∃ r', StepsTaken d r a (disarmSteps a false d) r' := by
  obtain ⟨x, y, ps, hhand, hframe⟩ := handOnFrame_eq hr
  obtain ⟨hscan, htrigger, hroll, hmeter⟩ := discardArm_parts (((d.setScan x).setDetector y).setPorts ps)
  unfold disarmSteps
  rw [hhand]
  generalize discardArm (((d.setScan x).setDetector y).setPorts ps) = e at hscan htrigger hroll hmeter
  obtain ⟨r', hsave, hstate, hline⟩ := saveLine_eq a (d := e) (r := r) (by rw [hscan]; exact hframe.run)
  have hnotices : e.scan.notices = x.notices := by rw [hscan]; rfl
  rw [hsave]
  refine ⟨{ r' with boundary := none }, rfl, hstate, rfl, fun hm => (hline hm).trans (by rw [htrigger]; rfl), ?_, ?_, hroll, hmeter,
    fun f hactive hf => ?_, fun hf => hnotices.trans (hframe.untouched hf)⟩
  · exact (congrArg (·.gate) hscan).trans rfl
  · exact (congrArg (·.arm) htrigger).trans rfl
  · obtain ⟨n, hn, hfacts⟩ := hframe.truncated f hactive hf
    exact ⟨n, hnotices.trans hn, hfacts⟩

/-- A disarm by command of a run's device. -/
theorem disarm_run {d : Dev} {r : RunRecord} (hr : d.scan.run = some r) : ∃ r', DisarmedRun d (disarm .command false d) r r' := by
  cases ha : d.trigger.arm with
  | none =>
    have hsame : disarm .command false d = d := by
      unfold disarm
      rw [ha]
    rw [hsame]
    exact ⟨r, hr, rfl, rfl, rfl, ha, id, fun _ => ⟨rfl, rfl⟩, by simp [ha], by simp [ha], fun _ => rfl⟩
  | some a =>
    obtain ⟨r', h⟩ := disarmSteps_run a hr
    obtain ⟨p, hscan⟩ := applyPending_run h.run
    have hb := besideArm_disarmSteps a false d
    simp only [besideArm, Prod.mk.injEq] at hb
    obtain ⟨htransport, -, -, hrollState, hinbox, -⟩ := hb
    rw [disarm_armed .command false ha]
    refine ⟨{ r' with resume := p }, congrArg (·.run) hscan, h.state, htransport, hrollState, ?arm, ?inbox, ?position, ?armed, ?truncated,
      ?untouched⟩
    case arm => exact (congrArg (·.arm) (applyPending_trigger _)).trans h.arm
    case inbox =>
      intro hall x hx
      rcases List.mem_append.1 hx with hold | hnew
      · exact hall x (hinbox ▸ hold)
      · exact List.mem_singleton.1 hnew ▸ trivial
    case position =>
      intro hpending
      rw [applyPending_none (by rwa [h.roll])]
      exact ⟨h.roll, h.metering⟩
    case armed =>
      intro a' ha'
      obtain rfl := Option.some.inj (ha.symm.trans ha')
      exact ⟨h.boundary, (congrArg (·.gate) hscan).trans h.gate, h.line⟩
    case truncated =>
      intro a' f _ hrun hf
      obtain ⟨n, hn, hfacts⟩ := h.truncated f hrun hf
      exact ⟨n, (congrArg (·.notices) hscan).trans hn, hfacts⟩
    case untouched => exact fun hf => (congrArg (·.notices) hscan).trans (h.untouched hf)

/-- Where the grant cannot be dropped at once, its release is noted. -/
theorem releaseGrant_moving (o : Owner) {d : Dev} (h : atRest d = false) : ∃ t, releaseGrant o d = d.setTransport t := by
  unfold releaseGrant
  rw [h]
  split
  · exact ⟨d.transport, rfl⟩
  · exact ⟨_, rfl⟩

theorem abandonSearch_search {d : Dev} (h : Brakes d d) : (abandonSearch d).focus.search = none := by
  unfold abandonSearch
  split
  next hs => exact hs
  next s hs =>
    dsimp only
    split
    · rfl
    · obtain ⟨t, ht⟩ := releaseGrant_moving .service
        (recordOutcome_brakes (w := s.requester) (o := .abandoned) (b := s.best) (closeSearchMotion_brakes (w := s.requester) h)).atRest
      rw [ht]
      rfl

/-- The run of a device becomes ENDING, with the RUN event. -/
theorem beginEnding_eq (c : RunCause) {d : Dev} {r : RunRecord} (hr : d.scan.run = some r) (hs : r.state ≠ .ending) :
    beginEnding c d = raise .capture .run (d.setScan { d.scan with run := some { r with cause := some c, state := .ending } }) := by
  unfold beginEnding setRunState setRunCause modifyRun
  rw [hr]
  exact if_neg hs

/-- What runout makes of a run under way. -/
structure RunEnded (d e : Dev) (r r' : RunRecord) : Prop where
  run : e.scan.run = some r'
  state : r'.state = .ending
  cause : r'.cause = some .rollEnd
  arm : e.trigger.arm = none
  search : e.focus.search = none
  event : eventSet e .capture .run
  transport : brakeOf e.transport = brakeOf d.transport
  rollState : e.roll.state = d.roll.state
  inbox : ∀ x ∈ e.inbox, Benign x
  position : d.roll.pendingCorrection = none → e.roll = d.roll ∧ e.metering = d.metering
  armed : ∀ a, d.trigger.arm = some a →
    r'.boundary = none ∧ e.scan.gate = false ∧ (a.mode = .scan → r'.savedLine = d.trigger.lineCounter)
  truncated : ∀ a f, d.trigger.arm = some a → d.detector.activity = .run → d.detector.openFrame = some f →
    ∃ n, e.scan.notices = d.scan.notices ++ [n] ∧ n.kind = .truncated ∧ n.run = r.number ∧ n.start = f.start
  untouched : d.detector.openFrame = none → e.scan.notices = d.scan.notices

/-- A run under way ends at runout, in a device that brakes. -/
theorem endAtRunout_run {d : Dev} {r : RunRecord} (hr : d.scan.run = some r) (hs : r.state ≠ .ending)
    (hm : d.transport.motion = .stopping) (hreason : d.transport.stopReason = some .runout) (hi : ∀ x ∈ d.inbox, Benign x) :
    ∃ r', RunEnded d (endAtRunout d) r r' := by
  obtain ⟨r', h⟩ := disarm_run hr
  have hb : Brakes (disarm .command false d) (disarm .command false d) :=
    .refl h.arm (h.transport ▸ hm) (h.transport ▸ hreason) (h.inbox hi)
  have hsearch := abandonSearch_search hb
  have hab := abandonSearch_brakes hb
  have hrun : (abandonSearch (disarm .command false d)).scan.run = some r' := (congrArg (·.run) hab.scan).trans h.run
  unfold endAtRunout
  rw [beginEnding_eq .rollEnd hrun (h.state.symm ▸ hs)]
  refine ⟨{ r' with cause := some .rollEnd, state := .ending }, rfl, rfl, rfl, hab.arm, hsearch, raise_sets .capture .run _ (by decide), ?_,
    (congrArg (·.state) hab.roll).trans h.rollState, hab.inbox, fun hp => ?_, fun a ha => ?_, fun a f ha hactive hf => ?_, fun hf => ?_⟩
  · refine hab.brake.trans ?_
    rw [h.transport, brakeOf, hm, hreason]
  · obtain ⟨hroll, hmeter⟩ := h.position hp
    exact ⟨hab.roll.trans hroll, hab.metering.trans hmeter⟩
  · obtain ⟨hboundary, hgate, hline⟩ := h.armed a ha
    exact ⟨hboundary, (congrArg (·.gate) hab.scan).trans hgate, hline⟩
  · obtain ⟨n, hn, hfacts⟩ := h.truncated a f ha hactive hf
    exact ⟨n, (congrArg (·.notices) hab.scan).trans hn, hfacts⟩
  · exact (congrArg (·.notices) hab.scan).trans (h.untouched hf)

theorem runIn_true_of_underWay {d : Dev} {r : RunRecord} (hr : d.scan.run = some r)
    (h : r.state = .preparing ∨ r.state = .running ∨ r.state = .suspending) : runIn d [.preparing, .running, .suspending] = true := by
  unfold runIn
  rw [hr]
  rcases h with h | h | h <;> simp [h]

/-- Runout with a run that is PREPARING, RUNNING or SUSPENDING. -/
theorem runout_with_run {d : Dev} {r : RunRecord} (hs : d.roll.state = .ready) (hd : 0 < d.transport.demand)
    (hm : d.transport.motion = .seek ∨ d.transport.motion = .creep ∨ d.transport.motion = .scan) (hr : d.scan.run = some r)
    (hstate : r.state = .preparing ∨ r.state = .running ∨ r.state = .suspending) (hi : d.inbox = []) :
    ∃ i e r', RunEnded (stoppedFor i d) e r r' ∧ Brakes (indexEnded e) (settle (filmChange false d)) := by
  have hmoving : movingState (tailRecorded d).transport.motion = true := by
    rcases hm with hm | hm | hm <;> exact (congrArg movingState hm).trans rfl
  have hunder : runIn (tailRecorded d) [.preparing, .running, .suspending] = true := runIn_true_of_underWay hr hstate
  obtain ⟨i, hbraked, hbenign⟩ := braked_tailRecorded true hi
  have hne : r.state ≠ .ending := by rcases hstate with h | h | h <;> simp [h]
  obtain ⟨r', h⟩ := endAtRunout_run (d := stoppedFor i d) hr hne rfl rfl hbenign
  have hb : Brakes (endAtRunout (stoppedFor i d)) (endAtRunout (stoppedFor i d)) :=
    .refl h.arm (congrArg (·.1) h.transport) (congrArg (·.2.1) h.transport) h.inbox
  have hunmoved : RunUnmoved (endAtRunout (stoppedFor i d)) := fun x hx => by
    obtain rfl := Option.some.inj (h.run.symm.trans hx)
    simp [h.state]
  refine ⟨i, _, r', h, settle_runout_brakes hs hd ?_ hb hunmoved⟩
  rw [stopForRunout_moving hmoving, hunder, if_pos rfl, hbraked]

/-! ### O19 -/

/-- Settles O19: what runout does at once, and that the reactions of a transport that brakes leave it. -/
theorem runoutRecordsTheTail : Obligations.RunoutRecordsTheTail := by
  refine ⟨fun s hf hs hd hm ha hr hset => ?_, fun s r hf hs hd hm hg hr hstate hset => ?_⟩
  · obtain ⟨hinbox, -⟩ := (reaction_none_iff s.dev).1 hset.1
    obtain ⟨i, h⟩ := runout_without_run hs hd hm ha hr hinbox
    obtain ⟨x, ps, hx⟩ := indexEnded_eq (stoppedFor i s.dev)
    have hroll : (settle (filmChange false s.dev)).roll = (tailRecorded s.dev).roll := h.roll.trans (congrArg (·.roll) hx)
    have hindex := h.index
    obtain ⟨hrequest, hservice⟩ := eventSet_tailRecorded s.dev
    refine ⟨_, exec_filmLevelLost hf, rfl, ?_, ?_, ?_, ?_, h.metering.trans (congrArg (·.metering) hx), h.motion, h.stopReason,
      h.demand.trans (congrArg (·.transport.demand) hx), fun hopen => ?_, fun hclosed => ?_, ?_, h.events _ _ (eventSet_indexEnded hrequest),
      h.events _ _ (eventSet_indexEnded hservice)⟩
    · exact congrArg (·.filmPresent) hroll
    · exact congrArg (·.state) hroll
    · exact congrArg (·.datum) hroll
    · exact congrArg (·.tail) hroll
    · have hended := indexEnded_of_open (d := stoppedFor i s.dev) hopen
      rw [hended] at hindex
      exact ⟨congrArg (·.state) hindex, congrArg (·.closeCause) hindex,
        fun port => h.events port .index (hended ▸ eventSet_raiseAll_index port _)⟩
    · rw [indexEnded_of_closed (d := stoppedFor i s.dev) hclosed] at hindex
      exact hindex
    · exact congrArg (·.run) (h.scan.trans (congrArg (·.scan) hx))
  · obtain ⟨hinbox, -⟩ := (reaction_none_iff s.dev).1 hset.1
    obtain ⟨i, e, r', hended, h⟩ := runout_with_run hs hd hm hr hstate hinbox
    obtain ⟨x, ps, hx⟩ := indexEnded_eq e
    have hscan : (settle (filmChange false s.dev)).scan = e.scan := h.scan.trans (congrArg (·.scan) hx)
    have hroll : (settle (filmChange false s.dev)).roll = e.roll := h.roll.trans (congrArg (·.roll) hx)
    have hmeter : (settle (filmChange false s.dev)).metering = e.metering := h.metering.trans (congrArg (·.metering) hx)
    have hbrake : brakeOf (indexEnded e).transport = brakeOf (brakedTransport s.dev.transport) :=
      (congrArg (fun f : Dev => brakeOf f.transport) hx).trans hended.transport
    refine ⟨_, r', exec_filmLevelLost hf, rfl, (congrArg (·.run) hscan).trans hended.run, hended.state, hended.cause, h.arm,
      h.search ((congrArg (·.focus.search) hx).trans hended.search), h.events _ _ (eventSet_indexEnded hended.event),
      (congrArg (·.state) hroll).trans hended.rollState, h.motion, h.stopReason,
      (h.grant.trans (congrArg (·.2.2.2) hbrake)).trans hg, h.demand.trans (congrArg (·.2.2.1) hbrake), fun hp => ?_, fun a ha => ?_,
      fun a f ha hactive hopen => ?_, fun hopen => ?_⟩
    · obtain ⟨hroll', hmeter'⟩ := hended.position hp
      exact ⟨congrArg (·.tail) (hroll.trans hroll'), hmeter.trans hmeter'⟩
    · obtain ⟨hboundary, hgate, hline⟩ := hended.armed a ha
      exact ⟨hboundary, (congrArg (·.gate) hscan).trans hgate, hline⟩
    · obtain ⟨n, hn, hfacts⟩ := hended.truncated a f ha hactive hopen
      exact ⟨n, (congrArg (·.notices) hscan).trans hn, hfacts⟩
    · exact (congrArg (·.notices) hscan).trans (hended.untouched hopen)

end Sys2Proof.Proofs

/-! What a step leaves of the inputs, the film, the event flags and a halted transport: one rule per operation of the chain of reactions
and of the motion profile. -/

namespace Sys2Proof.Proofs

open Sys2Proof Sys2Proof.Machine

/-- The parts of a halted transport that stay until CLEAR_FAULT (R41, R44). -/
def haltedPart (t : Transport) :
    MotionState × Option HaltCause × Tension × Bool × Int × Option CurrentOrder × Option Order :=
  (t.motion, t.haltCause, t.tension, t.driveEnable, t.demand, t.current, t.held)

/-- The state of the roll, its datum flag and the sensed film-present level. -/
def filmState (r : RollContext) : RollState × Bool × Bool := (r.state, r.datum, r.filmPresent)

/-- The device `e` comes of `d` inside a step: the inputs and the film are those of `d`, an event flag set stays set, a halted transport
stays halted, and while it is halted a grant that nobody owns stays so and the generator is not armed. -/
structure Follows (d e : Dev) : Prop where
  inputs : e.inputs = d.inputs
  film : filmState e.roll = filmState d.roll
  events : ∀ port k, eventSet d port k → eventSet e port k
  halted : d.transport.motion = .halted → haltedPart e.transport = haltedPart d.transport
  free : d.transport.motion = .halted → d.transport.grant = .nobody →
    e.transport.grant = .nobody ∧ (d.trigger.arm = none → e.trigger.arm = none)

section
variable {d e f : Dev}

theorem Follows.refl (d : Dev) : Follows d d := ⟨rfl, rfl, fun _ _ => id, fun _ => rfl, fun _ hg => ⟨hg, id⟩⟩

theorem Follows.motion (h : Follows d e) (hd : d.transport.motion = .halted) : e.transport.motion = .halted :=
  (congrArg (·.1) (h.halted hd)).trans hd

theorem Follows.not_halted (h : Follows d e) (he : e.transport.motion ≠ .halted) : d.transport.motion ≠ .halted :=
  fun hd => he (h.motion hd)

theorem Follows.trans (h : Follows d e) (h' : Follows e f) : Follows d f where
  inputs := h'.inputs.trans h.inputs
  film := h'.film.trans h.film
  events port k hk := h'.events port k (h.events port k hk)
  halted hd := (h'.halted (h.motion hd)).trans (h.halted hd)
  free hd hg := by
    obtain ⟨hge, hae⟩ := h.free hd hg
    obtain ⟨hgf, haf⟩ := h'.free (h.motion hd) hge
    exact ⟨hgf, fun ha => haf (hae ha)⟩

theorem Follows.ite {p : Prop} [Decidable p] (he : Follows d e) (hf : Follows d f) : Follows d (if p then e else f) := by
  split
  · exact he
  · exact hf

/-- An operation that is done under a condition only. -/
theorem Follows.step_if {p : Prop} [Decidable p] (hf : Follows e f) (he : Follows d e) : Follows d (if p then f else e) :=
  .ite (he.trans hf) he

theorem Follows.snd_ite {α : Type} {p : Prop} [Decidable p] {x y : α × Dev} (hx : Follows d x.2) (hy : Follows d y.2) :
    Follows d (if p then x else y).2 := by
  split
  · exact hx
  · exact hy

theorem Follows.of_ite_some {p : Prop} [Decidable p] {g : Dev} (hr : (if p then some g else none) = some f) (h : Follows d g) :
    Follows d f := by
  split at hr
  · exact Option.some.inj hr ▸ h
  · contradiction

/-! ### Updates of one block -/

theorem setInbox_follows {x : List Report} (h : Follows d e) : Follows d (e.setInbox x) := ⟨h.1, h.2, h.3, h.4, h.5⟩
theorem setIndex_follows {x : FrameIndex} (h : Follows d e) : Follows d (e.setIndex x) := ⟨h.1, h.2, h.3, h.4, h.5⟩
theorem setFocus_follows {x : Focus} (h : Follows d e) : Follows d (e.setFocus x) := ⟨h.1, h.2, h.3, h.4, h.5⟩
theorem setLines_follows {x : Lines} (h : Follows d e) : Follows d (e.setLines x) := ⟨h.1, h.2, h.3, h.4, h.5⟩
theorem setMetering_follows {x : Metering} (h : Follows d e) : Follows d (e.setMetering x) := ⟨h.1, h.2, h.3, h.4, h.5⟩
theorem setDetector_follows {x : Detector} (h : Follows d e) : Follows d (e.setDetector x) := ⟨h.1, h.2, h.3, h.4, h.5⟩
theorem setScan_follows {x : ScanControl} (h : Follows d e) : Follows d (e.setScan x) := ⟨h.1, h.2, h.3, h.4, h.5⟩
theorem setRetrieval_follows {x : Retrieval} (h : Follows d e) : Follows d (e.setRetrieval x) := ⟨h.1, h.2, h.3, h.4, h.5⟩

theorem setRoll_follows {x : RollContext} (hx : filmState x = filmState e.roll) (h : Follows d e) : Follows d (e.setRoll x) :=
  ⟨h.1, hx.trans h.2, h.3, h.4, h.5⟩

/-- A change of the transport that leaves the halted parts and gives the grant to nobody new. -/
theorem setTransport_follows {x : Transport} (hx : haltedPart x = haltedPart e.transport)
    (hg : x.grant = e.transport.grant ∨ x.grant = .nobody) (h : Follows d e) : Follows d (e.setTransport x) := by
  refine ⟨h.inputs, h.film, h.events, fun hd => hx.trans (h.halted hd), fun hd hgrant => ?_⟩
  obtain ⟨hge, harm⟩ := h.free hd hgrant
  exact ⟨hg.elim (·.trans hge) id, harm⟩

/-- Any change of a transport that is not HALTED. -/
theorem setTransport_moves {x : Transport} (he : e.transport.motion ≠ .halted) (h : Follows d e) : Follows d (e.setTransport x) :=
  ⟨h.inputs, h.film, h.events, fun hd => absurd hd (h.not_halted he), fun hd => absurd hd (h.not_halted he)⟩

/-- A halted transport of which nobody owns the grant has no new arm. -/
theorem setTrigger_follows {x : Trigger} (hx : x.arm = none ∨ (e.transport.motion = .halted → e.transport.grant ≠ .nobody))
    (h : Follows d e) : Follows d (e.setTrigger x) := by
  refine ⟨h.inputs, h.film, h.events, h.halted, fun hd hgrant => ?_⟩
  obtain ⟨hge, -⟩ := h.free hd hgrant
  exact ⟨hge, fun _ => hx.resolve_right fun hbusy => hbusy (h.motion hd) hge⟩

theorem raise_follows {id : PortId} {k : EventKind} (h : Follows d e) : Follows d (raise id k e) :=
  ⟨h.1, h.2, fun port k' hk => eventSet_raise id k (h.events port k' hk), h.4, h.5⟩

theorem raiseAll_follows {k : EventKind} (h : Follows d e) : Follows d (raiseAll k e) := raise_follows (raise_follows (raise_follows h))
theorem report_follows {r : Report} (h : Follows d e) : Follows d (report r e) := setInbox_follows h
theorem modifyRun_follows {g : RunRecord → RunRecord} (h : Follows d e) : Follows d (modifyRun g e) := setScan_follows h
theorem setRunCause_follows {c : RunCause} (h : Follows d e) : Follows d (setRunCause c e) := modifyRun_follows h

theorem setRunState_follows {st : RunState} (h : Follows d e) : Follows d (setRunState st e) := by
  unfold setRunState
  split
  · exact h
  · exact .ite h (raise_follows (modifyRun_follows h))

/-! ### The roll and the lens -/

theorem applyPending_follows (h : Follows d e) : Follows d (applyPending e) := by
  unfold applyPending
  split
  · exact h
  · exact modifyRun_follows (setDetector_follows (setRoll_follows rfl (setMetering_follows h)))

theorem driftReport_follows {n : Nat} {delta : Int} (h : Follows d e) : Follows d (driftReport n delta e).2 := by
  unfold driftReport
  split
  · have hmarked : Follows d (markEntry n true (e.setRoll { e.roll with pendingCorrection := some delta })) :=
      setIndex_follows (setRoll_follows rfl h)
    exact .ite (applyPending_follows hmarked) hmarked
  · exact raise_follows (setIndex_follows h)

theorem setLens_follows {l : Lens} (h : Follows d e) : Follows d (setLens l e) := setFocus_follows h
theorem noteLensMoved_follows (h : Follows d e) : Follows d (noteLensMoved e) := setFocus_follows h

theorem lensRest_follows (h : Follows d e) : Follows d (lensRest e) := .ite (raise_follows (setLens_follows h)) (setLens_follows h)

theorem beginSettle_follows {m : MoveRecord} (h : Follows d e) : Follows d (beginSettle m e) :=
  .ite (lensRest_follows (setLens_follows h)) (setLens_follows h)

theorem moveRequest_follows {target : Nat} {req : Requester} (h : Follows d e) : Follows d (moveRequest target req e).2 := by
  have hreported : ∀ b : Bool, Follows d (if b then report .searchSuperseded e else e) := fun _ => .ite (report_follows h) h
  unfold moveRequest
  dsimp only
  split
  · exact h
  · exact h
  · exact h
  · exact .snd_ite h (noteLensMoved_follows (setLens_follows h))
  · exact .snd_ite (beginSettle_follows (hreported _)) (setLens_follows (hreported _))

theorem moveRequest_eq_follows {target : Nat} {req : Requester} {a : MoveAnswer} (hm : moveRequest target req e = (a, f))
    (h : Follows d e) : Follows d f := by
  have hmoved := moveRequest_follows (target := target) (req := req) h
  rwa [hm] at hmoved

/-! ### The line trigger generator -/

theorem pushNotice_follows {n : Notice} (h : Follows d e) : Follows d (pushNotice n e) :=
  .ite (raise_follows (setScan_follows h)) (setScan_follows h)

theorem truncateOpen_follows (h : Follows d e) : Follows d (truncateOpen e) := by
  refine setDetector_follows ?_
  split
  · exact pushNotice_follows (setScan_follows h)
  · exact h

theorem detectorIdle_follows (h : Follows d e) : Follows d (detectorIdle e) := setFocus_follows (setDetector_follows h)

theorem discardArm_follows (h : Follows d e) : Follows d (discardArm e) :=
  setFocus_follows (setLines_follows (setTrigger_follows (.inl rfl) (setScan_follows (detectorIdle_follows h))))

theorem disarm_follows {why : DisarmCause} {atClose : Bool} (h : Follows d e) : Follows d (disarm why atClose e) := by
  cases ha : e.trigger.arm with
  | none => exact (disarm_of_unarmed why atClose e ha).symm ▸ h
  | some a =>
    have hsteps : Follows d (disarmSteps a atClose e) :=
      modifyRun_follows (.step_if (modifyRun_follows (.refl _)) (discardArm_follows (.step_if (truncateOpen_follows (.refl _)) h)))
    rw [disarm_armed why atClose ha]
    exact report_follows (applyPending_follows hsteps)

theorem triggerDue_follows {a : Arm} (hbusy : e.transport.motion = .halted → e.transport.grant ≠ .nobody) (h : Follows d e) :
    Follows d (triggerDue a e) :=
  .ite (disarm_follows h) (setLines_follows (setTrigger_follows (.inr hbusy) h))

theorem disarm_transport (why : DisarmCause) (atClose : Bool) (d : Dev) : (disarm why atClose d).transport = d.transport := by
  cases ha : d.trigger.arm with
  | none => rw [disarm_of_unarmed why atClose d ha]
  | some a =>
    rw [disarm_armed why atClose ha]
    exact congrArg (·.1) (besideArm_disarmSteps a atClose d)

theorem armTrigger_follows {o : Owner} {m : ArmMode} {base : Int} {pitch : Nat} {stopAt : Option Int} {line : Nat}
    (ho : e.transport.motion = .halted → o ≠ .nobody) (h : Follows d e) : Follows d (armTrigger o m base pitch stopAt line e) := by
  by_cases hg : e.transport.grant = o
  · have hbusy : (disarm .command false e).transport.motion = .halted → (disarm .command false e).transport.grant ≠ .nobody := by
      rw [disarm_transport, hg]
      exact ho
    have harmed : ∀ (x : Trigger) (r : Report), Follows d (report r ((disarm .command false e).setTrigger x)) :=
      fun _ _ => report_follows (setTrigger_follows (.inr hbusy) (disarm_follows h))
    unfold armTrigger
    rw [if_neg (not_not.2 hg)]
    exact .ite (disarm_follows (harmed _ _)) (.ite (triggerDue_follows hbusy (harmed _ _)) (harmed _ _))
  · rw [armTrigger_notOwner o m base pitch stopAt line e hg]
    exact report_follows h

/-! ### The grant and the orders -/

theorem dropGrant_follows (h : Follows d e) : Follows d (dropGrant e) := by
  have hset : Follows d (e.setTransport { e.transport with grant := .nobody, releasePending := false }) :=
    setTransport_follows rfl (.inr rfl) h
  unfold dropGrant
  dsimp only
  split
  · exact .ite (disarm_follows hset) hset
  · exact hset

theorem releaseGrant_follows {o : Owner} (h : Follows d e) : Follows d (releaseGrant o e) :=
  .ite h (.ite (dropGrant_follows h) (setTransport_follows rfl (.inl rfl) h))

theorem giveGrant_follows {o : Owner} (he : e.transport.motion ≠ .halted) (h : Follows d e) : Follows d (giveGrant o e) :=
  .ite (setTransport_moves he (setTransport_moves he h)) (setTransport_moves he h)

theorem startOrder_follows {o : Order} (he : e.transport.motion ≠ .halted) (h : Follows d e) : Follows d (startOrder o e) := by
  unfold startOrder
  split
  · exact report_follows h
  · split
    · exact setTransport_moves he h
    · exact report_follows (setTransport_moves he h)
    · exact setTransport_moves he h
    · exact setTransport_moves he h
    · exact h

theorem giveStop_follows {o : Owner} (h : Follows d e) : Follows d (giveStop o e) := by
  unfold giveStop
  cases hm : e.transport.motion with
  | halted => exact .ite (report_follows h) h
  | jog | seek | creep | scan => exact .ite (report_follows h) (setTransport_moves (by simp [hm]) h)
  | idle | parked => exact .ite (report_follows h) (report_follows h)
  | retensioning => exact .ite (report_follows h) (report_follows (setTransport_moves (by simp [hm]) h))
  | stopping => exact .ite (report_follows h) (.ite h (setTransport_moves (by simp [hm]) h))

theorem stopIfRunning_follows {o : Owner} (h : Follows d e) : Follows d (stopIfRunning o e) := .ite (giveStop_follows h) h

theorem giveOrder_follows {o : Order} (h : Follows d e) : Follows d (giveOrder o e) := by
  refine .ite (report_follows h) ?_
  split
  · exact giveStop_follows h
  · split
    next hm => exact setTransport_moves (by simp [hm]) h
    next hm => exact setTransport_moves (by simp [hm]) h
    next => exact report_follows h
    next hm => exact startOrder_follows hm h

theorem becomeIdle_follows (he : e.transport.motion ≠ .halted) (h : Follows d e) : Follows d (becomeIdle e) :=
  setTransport_moves (by exact fun hm => nomatch hm) (setTransport_moves he h)

theorem startHeld_follows (he : e.transport.motion ≠ .halted) (h : Follows d e) : Follows d (startHeld e) := by
  unfold startHeld
  split
  · exact h
  · exact startOrder_follows he (setTransport_moves he h)

theorem endOrder_follows {o : OrderOutcome} (he : e.transport.motion ≠ .halted) (h : Follows d e) : Follows d (endOrder o e) := by
  unfold endOrder
  split
  · exact becomeIdle_follows he h
  · exact report_follows (becomeIdle_follows he h)

theorem failSeek_follows {c : FailCause} (he : e.transport.motion ≠ .halted) (h : Follows d e) : Follows d (failSeek c e) := by
  unfold failSeek
  split
  · exact h
  · exact report_follows (setTransport_moves he h)

/-! ### The focus search -/

theorem closeSearchMotion_follows {who : SearchOwner} (h : Follows d e) : Follows d (closeSearchMotion who e) := by
  refine .step_if (giveStop_follows (.refl _)) ?_
  split
  · exact .ite (disarm_follows h) h
  · exact h

theorem recordOutcome_follows {who : SearchOwner} {o : FocusOutcome} {b : Option (Nat × Nat)} (h : Follows d e) :
    Follows d (recordOutcome who o b e) :=
  raise_follows (setFocus_follows h)

theorem leaveToRun_follows {b : Bool} {best : Option (Nat × Nat)} {n : Nat} (h : Follows d e) : Follows d (leaveToRun b best n e) := by
  unfold leaveToRun
  split
  · exact h
  · split
    · exact .ite (setFocus_follows h) h
    · exact setFocus_follows h
    · exact h

theorem endSearch_follows {lost : Bool} (h : Follows d e) : Follows d (endSearch lost e) := by
  unfold endSearch
  split
  · exact h
  · have hclosed := fun w o b => recordOutcome_follows (who := w) (o := o) (b := b) (closeSearchMotion_follows (who := w) h)
    dsimp only
    split
    · exact report_follows (leaveToRun_follows (.ite (hclosed _ _ _) (moveRequest_follows (hclosed _ _ _))))
    · exact releaseGrant_follows (.ite (hclosed _ _ _) (moveRequest_follows (hclosed _ _ _)))

theorem abandonSearch_follows (h : Follows d e) : Follows d (abandonSearch e) := by
  unfold abandonSearch
  split
  · exact h
  · dsimp only
    split
    · exact recordOutcome_follows (closeSearchMotion_follows h)
    · exact releaseGrant_follows (recordOutcome_follows (closeSearchMotion_follows h))

theorem probeAt_follows {c : Nat} (h : Follows d e) : Follows d (probeAt c e) := by
  unfold probeAt
  dsimp only
  split
  next hm => exact endSearch_follows (moveRequest_eq_follows hm (setFocus_follows h))
  next hm => exact setFocus_follows (moveRequest_eq_follows hm (setFocus_follows h))
  next hm => exact moveRequest_eq_follows hm (setFocus_follows h)

theorem searchGrant_ne_nobody (who : SearchOwner) : searchGrant who ≠ .nobody := by
  cases who <;> exact fun h => nomatch h

theorem beginSearch_follows {who : SearchOwner} (h : Follows d e) : Follows d (beginSearch who e) := by
  unfold beginSearch
  dsimp only
  split
  · exact endSearch_follows (setFocus_follows h)
  · exact endSearch_follows (setFocus_follows h)
  · exact endSearch_follows (setFocus_follows h)
  · exact .ite (endSearch_follows (giveOrder_follows (setFocus_follows h)))
      (probeAt_follows (armTrigger_follows (fun _ => searchGrant_ne_nobody who) (giveOrder_follows (setFocus_follows h))))

/-! ### The scan run controller -/

theorem endRun_follows (h : Follows d e) : Follows d (endRun e) :=
  setDetector_follows (setFocus_follows (setRunState_follows (modifyRun_follows h)))

theorem beginEnding_follows {c : RunCause} (h : Follows d e) : Follows d (beginEnding c e) :=
  setRunState_follows (setRunCause_follows h)

theorem endAtDisarm_follows {c : RunCause} (h : Follows d e) : Follows d (endAtDisarm c e) :=
  .ite (beginEnding_follows (giveStop_follows h)) h

theorem endAtLimit_follows (h : Follows d e) : Follows d (endAtLimit e) :=
  endRun_follows (setRunCause_follows (releaseGrant_follows (disarm_follows h)))

theorem finishEnding_follows (h : Follows d e) : Follows d (finishEnding e) := endRun_follows (releaseGrant_follows h)

theorem pauseTrack_follows (h : Follows d e) : Follows d (pauseTrack e) := by
  unfold pauseTrack
  split
  · exact h
  · exact setFocus_follows (.ite (raise_follows (setFocus_follows h)) h)

theorem suspendRun_follows {c : RunCause} {b : Bool} (h : Follows d e) : Follows d (suspendRun c b e) :=
  setRunState_follows (modifyRun_follows h)

theorem beginSuspending_follows {c : RunCause} (h : Follows d e) : Follows d (beginSuspending c e) :=
  setRunState_follows (setRunCause_follows h)

theorem failPreparation_follows (h : Follows d e) : Follows d (failPreparation e) :=
  suspendRun_follows (modifyRun_follows (releaseGrant_follows (disarm_follows h)))

theorem cutPreparation_follows {c : RunCause} {b : Bool} (h : Follows d e) : Follows d (cutPreparation c b e) :=
  suspendRun_follows (modifyRun_follows (releaseGrant_follows (stopIfRunning_follows (disarm_follows (abandonSearch_follows h)))))

theorem giveScanOrder_follows (h : Follows d e) : Follows d (giveScanOrder e) := by
  unfold giveScanOrder
  split
  · exact h
  · exact giveOrder_follows (modifyRun_follows h)

theorem startPreparation_follows (h : Follows d e) : Follows d (startPreparation e) := by
  have hprepared := setRunState_follows (st := .preparing) (modifyRun_follows (g := fun r => { r with resumePermitted := true }) h)
  unfold startPreparation
  dsimp only
  split
  · exact hprepared
  · exact .ite (giveOrder_follows (modifyRun_follows hprepared)) (giveScanOrder_follows hprepared)

theorem restoreLens_follows (h : Follows d e) : Follows d (restoreLens e) := by
  unfold restoreLens
  split
  · exact h
  · split
    · exact h
    · split
      · exact moveRequest_follows h
      · exact h
    · split
      · exact .ite (moveRequest_follows h) (raise_follows (modifyRun_follows (setFocus_follows h)))
      · exact h
    · split
      · exact moveRequest_follows (setFocus_follows h)
      · exact h

theorem runReachesBase_follows (h : Follows d e) : Follows d (runReachesBase e) := by
  unfold runReachesBase
  split
  · exact h
  · exact .ite (modifyRun_follows (.step_if (detectorIdle_follows (truncateOpen_follows (.refl _)))
      (setDetector_follows (setRunState_follows h)))) h

theorem scanReport_follows {o : OrderOutcome} (h : Follows d e) : Follows d (scanReport o e) := by
  unfold scanReport
  split
  · exact h
  · split
    · exact h
    · exact beginSearch_follows (modifyRun_follows h)
    · exact failPreparation_follows h
    · exact endSearch_follows h
    · exact endSearch_follows h
    · exact endAtLimit_follows h
    · exact failPreparation_follows h
    · exact endAtLimit_follows h
    · exact endAtLimit_follows h
    · exact h

theorem searchHandedBack_follows (h : Follows d e) : Follows d (searchHandedBack e) := by
  unfold searchHandedBack
  split
  · exact h
  · exact .ite (giveScanOrder_follows h) h

theorem scanOnHalt_follows (h : Follows d e) : Follows d (scanOnHalt e) := by
  unfold scanOnHalt
  split
  · exact h
  · split
    · exact suspendRun_follows (modifyRun_follows h)
    · exact pauseTrack_follows (suspendRun_follows (modifyRun_follows h))
    · exact pauseTrack_follows (suspendRun_follows (modifyRun_follows h))
    · exact endRun_follows h
    · exact h

/-! ### The retrieval scheduler -/

theorem modifyRequest_follows {t : Nat} {g : RetrievalRequest → RetrievalRequest} (h : Follows d e) : Follows d (modifyRequest t g e) :=
  setRetrieval_follows h

theorem completeRequest_follows {r : RetrievalRequest} {result : CompletionResult} {flags : CompletionFlags} {c : Int}
    (h : Follows d e) : Follows d (completeRequest r result flags c e) := by
  unfold completeRequest
  split
  · exact h
  · exact .ite (raise_follows (setRetrieval_follows h)) (setRetrieval_follows h)

theorem requestRecall_follows {n : Option Nat} (h : Follows d e) : Follows d (requestRecall n e).2 := by
  unfold requestRecall
  split
  · exact h
  · exact .snd_ite (moveRequest_follows h) h

theorem setAttempt_follows {a : Option Attempt} (h : Follows d e) : Follows d (setAttempt a e) := setRetrieval_follows h
theorem modifyAttempt_follows {g : Attempt → Attempt} (h : Follows d e) : Follows d (modifyAttempt g e) := setAttempt_follows h
theorem retrievalSeek_follows {x : Int} (h : Follows d e) : Follows d (retrievalSeek x e) := giveOrder_follows h

theorem startAttempt_follows {r : RetrievalRequest} (h : Follows d e) : Follows d (startAttempt r e) := by
  have hseek : ∀ x a, Follows d (retrievalSeek x (setAttempt a (markChosen r e))) :=
    fun _ _ => retrievalSeek_follows (setAttempt_follows (setRetrieval_follows h))
  refine .step_if (modifyRequest_follows (modifyAttempt_follows (requestRecall_follows (.refl _)))) ?_
  split
  · exact hseek _ _
  · exact hseek _ _

theorem selectNext_follows (h : Follows d e) : Follows d (selectNext e) := by
  unfold selectNext
  split
  · exact startAttempt_follows h
  · exact releaseGrant_follows h

theorem keepDecision_follows (h : Follows d e) : Follows d (keepDecision e) :=
  .ite h (.ite (selectNext_follows h) (releaseGrant_follows h))

theorem completeActive_follows {r : CompletionResult} (h : Follows d e) : Follows d (completeActive r e) := by
  unfold completeActive
  split
  · exact setAttempt_follows h
  · exact setAttempt_follows (completeRequest_follows h)

theorem endHold_follows (h : Follows d e) : Follows d (endHold e) := keepDecision_follows (setRetrieval_follows h)

theorem completeDone_follows (h : Follows d e) : Follows d (completeDone e) := by
  unfold completeDone
  split
  · exact h
  · exact .ite (keepDecision_follows (completeActive_follows h)) (setRetrieval_follows (completeActive_follows h))

theorem disarmConfirm_follows (h : Follows d e) : Follows d (disarmConfirm e) := by
  unfold disarmConfirm
  split
  · exact .ite (disarm_follows h) h
  · exact h

theorem failAttempt_follows (h : Follows d e) : Follows d (failAttempt e) := by
  have hdisarmed := disarmConfirm_follows h
  unfold failAttempt
  dsimp only
  split
  · exact hdisarmed
  · exact keepDecision_follows (.ite (completeActive_follows hdisarmed) (setAttempt_follows (modifyRequest_follows hdisarmed)))

theorem presentActive_follows (h : Follows d e) : Follows d (presentActive e) := by
  unfold presentActive
  split
  · exact h
  · exact retrievalSeek_follows (modifyAttempt_follows h)

theorem presentArrived_follows (h : Follows d e) : Follows d (presentArrived e) :=
  .ite (modifyAttempt_follows h) (completeDone_follows h)

theorem beginConfirm_follows (h : Follows d e) : Follows d (beginConfirm e) :=
  giveOrder_follows (setDetector_follows (armTrigger_follows (fun _ ho => nomatch ho) (modifyAttempt_follows h)))

theorem giveUpConfirm_follows (h : Follows d e) : Follows d (giveUpConfirm e) :=
  presentActive_follows (modifyAttempt_follows (disarmConfirm_follows h))

theorem takeMeasuredStart_follows {m : Int} (h : Follows d e) : Follows d (takeMeasuredStart m e) := by
  have hdisarmed := disarmConfirm_follows h
  unfold takeMeasuredStart
  split
  · exact h
  · refine .ite h ?_
    split
    · exact h
    · exact presentActive_follows (.ite (modifyAttempt_follows (driftReport_follows hdisarmed)) (modifyAttempt_follows hdisarmed))

theorem takeConfirmLine_follows {x : Int} (h : Follows d e) : Follows d (takeConfirmLine x e) := by
  unfold takeConfirmLine
  split
  · exact h
  · refine .ite h ?_
    split
    · exact h
    · exact .ite (giveUpConfirm_follows h) h

theorem endHint_follows (h : Follows d e) : Follows d (endHint e) := keepDecision_follows (setAttempt_follows h)

theorem serveHint_follows (h : Follows d e) : Follows d (serveHint e) := by
  unfold serveHint
  split
  · exact releaseGrant_follows h
  · exact requestRecall_follows (retrievalSeek_follows (setRetrieval_follows h))

theorem abandonHint_follows (h : Follows d e) : Follows d (abandonHint e) := giveStop_follows (modifyAttempt_follows h)

theorem retrievalReport_follows {o : OrderOutcome} {b : Bool} (h : Follows d e) : Follows d (retrievalReport o b e) := by
  unfold retrievalReport
  split
  · exact h
  · split
    · exact h
    · exact endHint_follows h
    · exact endHint_follows h
    · exact endHint_follows h
    · exact beginConfirm_follows h
    · exact failAttempt_follows h
    · exact giveUpConfirm_follows h
    · exact .ite (failAttempt_follows h) (giveUpConfirm_follows h)
    · exact failAttempt_follows h
    · exact presentArrived_follows h
    · exact failAttempt_follows h
    · exact keepDecision_follows (completeActive_follows h)
    · exact h

theorem retrievalOnHalt_follows (h : Follows d e) : Follows d (retrievalOnHalt e) := by
  unfold retrievalOnHalt
  dsimp only
  split
  · exact setRetrieval_follows h
  · split
    · exact setAttempt_follows (setRetrieval_follows h)
    · exact setAttempt_follows (setRetrieval_follows h)
    · exact completeActive_follows (setRetrieval_follows h)
    · exact failAttempt_follows (setRetrieval_follows h)

/-! ### The chain of reactions -/

theorem serviceReport_follows {o : OrderOutcome} (h : Follows d e) : Follows d (serviceReport o e) := by
  have hended : Follows d (raise .service .motionEnd (e.setTransport { e.transport with serviceOutcome := some o })) :=
    raise_follows (setTransport_follows rfl (.inl rfl) h)
  cases o with
  | failed c =>
    have hraised : Follows d (raise .service .fault _) := raise_follows hended
    exact .ite (endSearch_follows hraised) (.ite hraised (releaseGrant_follows hraised))
  | arrived | stopped | atLimit => exact .ite (endSearch_follows hended) (.ite hended (releaseGrant_follows hended))

theorem takeDisarm_follows {o : Owner} {c : DisarmCause} (h : Follows d e) : Follows d (takeDisarm o c e) := by
  unfold takeDisarm
  split
  · exact endAtDisarm_follows h
  · exact endAtDisarm_follows h
  · exact h

theorem takeReport_follows {r : Report} (h : Follows d e) : Follows d (takeReport r e) := by
  unfold takeReport
  split
  · exact scanReport_follows h
  · exact retrievalReport_follows h
  · exact serviceReport_follows h
  · exact h
  · exact .ite (restoreLens_follows h) h
  · exact h
  · exact runReachesBase_follows h
  · exact h
  · exact h
  · exact takeDisarm_follows h
  · exact searchHandedBack_follows h
  · exact abandonSearch_follows h
  · exact takeMeasuredStart_follows h
  · exact takeConfirmLine_follows h

theorem runReaction_follows (hr : runReaction e = some f) : Follows e f := by
  unfold runReaction at hr
  split at hr
  · contradiction
  · split at hr
    · exact .of_ite_some hr (finishEnding_follows (.refl _))
    · exact .of_ite_some hr (cutPreparation_follows (.refl _))
    · exact .of_ite_some hr (beginSuspending_follows (.refl _))
    · contradiction

theorem retrievalReaction_follows (hr : retrievalReaction e = some f) : Follows e f := by
  unfold retrievalReaction at hr
  dsimp only at hr
  split_ifs at hr <;> obtain rfl := Option.some.inj hr
  · exact endHold_follows (.refl _)
  · exact completeDone_follows (.refl _)
  · exact abandonHint_follows (.refl _)
  · exact setRetrieval_follows (.refl _)

/-- The grant is given only outside HALTED. -/
theorem not_halted_of_grantFree (h : grantFree e = true) : e.transport.motion ≠ .halted := by
  intro hm
  simp [grantFree, hm] at h

theorem grantReaction_follows (hr : grantReaction e = some f) : Follows e f := by
  unfold grantReaction at hr
  split_ifs at hr with hfree <;> obtain rfl := Option.some.inj hr
  all_goals have hgiven := fun o => giveGrant_follows (o := o) (not_halted_of_grantFree (by simpa using hfree)) (.refl e)
  · exact selectNext_follows (hgiven _)
  · exact startPreparation_follows (hgiven _)
  · exact selectNext_follows (hgiven _)
  · exact serveHint_follows (hgiven _)

theorem reaction_follows (hr : reaction e = some f) : Follows e f := by
  unfold reaction at hr
  split at hr
  · obtain rfl := Option.some.inj hr
    exact takeReport_follows (setInbox_follows (.refl _))
  · split_ifs at hr
    · obtain rfl := Option.some.inj hr
      exact dropGrant_follows (.refl _)
    · split at hr
      next hrun => exact Option.some.inj hr ▸ runReaction_follows hrun
      · split at hr
        next hret => exact Option.some.inj hr ▸ retrievalReaction_follows hret
        · exact grantReaction_follows hr

theorem settleFor_follows (n : Nat) (h : Follows d e) : Follows d (settleFor n e) := by
  induction n generalizing e with
  | zero => exact h
  | succ n ih =>
    unfold settleFor
    split
    next hr => exact ih (h.trans (reaction_follows hr))
    · exact h

theorem stopParkTimer_follows (h : Follows d e) : Follows d (stopParkTimer e) := .ite h (setTransport_follows rfl (.inl rfl) h)

/-- Whatever an event brings about in its step leaves the inputs and the film, clears no event flag and leaves a halt as it is. -/
theorem settle_follows (h : Follows d e) : Follows d (settle e) := stopParkTimer_follows (settleFor_follows Config.cascadeBound h)

/-! ### Halts and the motion profile -/

theorem reportHalted_follows {o : Option Order} (h : Follows d e) : Follows d (reportHalted o e) := by
  unfold reportHalted
  split
  · exact report_follows h
  · exact h

/-- A halt once the transport's own part is done, up to its disarm (R41). -/
def haltDisarmed (cause : HaltCause) (d : Dev) : Dev :=
  disarm .halted false (haltRecordsBoundary (reportHalted d.transport.held (reportHalted (d.transport.current.map (·.order))
    (d.setTransport (transportHalted cause d.transport)))))

/-- The rest of a halt: the search ended, FAULT raised, and the run and the scheduler told. -/
def haltFinished (d : Dev) : Dev := retrievalOnHalt (scanOnHalt (raiseAll .fault (homingLosesGrant (endSearch false d))))

theorem halt_eq {cause : HaltCause} (hd : d.transport.motion ≠ .halted) : halt cause d = haltFinished (haltDisarmed cause d) := if_neg hd

theorem haltDisarmed_follows {cause : HaltCause} (h : Follows e (d.setTransport (transportHalted cause d.transport))) :
    Follows e (haltDisarmed cause d) :=
  disarm_follows (.step_if (modifyRun_follows (.refl _)) (reportHalted_follows (reportHalted_follows h)))

theorem haltFinished_follows (h : Follows d e) : Follows d (haltFinished e) :=
  retrievalOnHalt_follows (scanOnHalt_follows (raiseAll_follows (setLens_follows (endSearch_follows h))))

theorem halt_follows {cause : HaltCause} (h : Follows d e) : Follows d (halt cause e) := by
  by_cases he : e.transport.motion = .halted
  · exact (halt_of_halted cause e he).symm ▸ h
  · rw [halt_eq he]
    exact haltFinished_follows (haltDisarmed_follows (setTransport_moves he h))

theorem checkBase_follows (he : e.transport.motion ≠ .halted) (h : Follows d e) : Follows d (checkBase e) := by
  unfold checkBase
  split
  · exact h
  · split
    · exact .ite (report_follows (setTransport_moves he h)) h
    · exact h

end
end Sys2Proof.Proofs

/-! Halts and CLEAR_FAULT: O20 and O21. -/

namespace Sys2Proof.Proofs

open Sys2Proof Sys2Proof.Machine

/-! ### A halt taken -/

theorem inHalt_iff (cause : HaltCause) (d : Dev) :
    InHalt cause d ↔ haltedPart d.transport = (.halted, some cause, .release, false, 0, none, none) ∧ d.transport.grant = .nobody
      ∧ d.trigger.arm = none := by
  simp only [InHalt, haltedPart, Prod.mk.injEq]
  tauto

/-- What follows in a step does not leave a halt. -/
theorem Follows.inHalt {d e : Dev} {cause : HaltCause} (h : Follows d e) (hd : InHalt cause d) : InHalt cause e := by
  rw [inHalt_iff] at hd ⊢
  obtain ⟨hpart, hgrant, harm⟩ := hd
  have hm : d.transport.motion = .halted := congrArg (·.1) hpart
  obtain ⟨hg, ha⟩ := h.free hm hgrant
  exact ⟨(h.halted hm).trans hpart, hg, ha harm⟩

/-- The halt and its disarm done, the transport is HALTED with the cause (R41). -/
theorem inHalt_haltDisarmed (cause : HaltCause) (d : Dev) : InHalt cause (haltDisarmed cause d) := by
  have h := haltDisarmed_follows (cause := cause) (.refl (d.setTransport (transportHalted cause d.transport)))
  exact (inHalt_iff _ _).2 ⟨h.halted rfl, (h.free rfl rfl).1, disarm_unarms _ _ _⟩

theorem eventSet_raiseAll_fault (port : PortId) (d : Dev) : eventSet (raiseAll .fault d) port .fault := by
  cases port with
  | capture => exact eventSet_raise .service .fault (eventSet_raise .request .fault (raise_sets .capture .fault d (by decide)))
  | request => exact eventSet_raise .service .fault (raise_sets .request .fault _ (by decide))
  | service => exact raise_sets .service .fault _ (by decide)

/-- A transport in HALTED with a cause, and FAULT raised at every port. -/
def HaltRaised (cause : HaltCause) (d : Dev) : Prop := InHalt cause d ∧ ∀ port, eventSet d port .fault

theorem Follows.haltRaised {d e : Dev} {cause : HaltCause} (h : Follows d e) (hd : HaltRaised cause d) : HaltRaised cause e :=
  ⟨h.inHalt hd.1, fun port => h.events port .fault (hd.2 port)⟩

/-- A halt outside HALTED enters it with its cause and raises FAULT (R41). -/
theorem haltRaised_halt (cause : HaltCause) {d : Dev} (hd : d.transport.motion ≠ .halted) : HaltRaised cause (halt cause d) := by
  rw [halt_eq hd]
  have hrest : Follows (raiseAll .fault (homingLosesGrant (endSearch false (haltDisarmed cause d)))) (haltFinished (haltDisarmed cause d)) :=
    retrievalOnHalt_follows (scanOnHalt_follows (.refl _))
  refine ⟨(haltFinished_follows (.refl _)).inHalt (inHalt_haltDisarmed cause d), fun port => ?_⟩
  exact hrest.events port .fault (eventSet_raiseAll_fault port _)

/-- The roll becomes THREADED, and the halt stays. -/
theorem HaltRaised.setRollState {d : Dev} {cause : HaltCause} (st : RollState) (h : HaltRaised cause d) :
    HaltRaised cause (setRollState st d) := by
  unfold Machine.setRollState
  dsimp only
  split
  · exact h
  · exact ⟨h.1, fun port => eventSet_raise _ _ (eventSet_raise _ _ (h.2 port))⟩

/-- An answer leaves a halt as it is. -/
theorem HaltRaised.respond {d : Dev} {cause : HaltCause} (port : PortId) (tag : Byte) (r : Result) (payload : List Byte)
    (h : HaltRaised cause d) : HaltRaised cause (respond port tag r payload d) :=
  ⟨h.1, fun q => (eventSet_respond port q .fault tag r payload d).2 (h.2 q)⟩

/-! ### Film state at a halt -/

theorem setRollState_filmState (st : RollState) (d : Dev) :
    filmState (setRollState st d).roll = (st, st == .ready || st == .runout, d.roll.filmPresent) := by
  unfold setRollState
  dsimp only
  split <;> rfl

theorem filmState_eq {r : RollContext} {st : RollState} {datum film : Bool} (h : filmState r = (st, datum, film)) :
    r.state = st ∧ r.datum = datum ∧ r.filmPresent = film := by
  simpa only [filmState, Prod.mk.injEq] using h

/-! ### The commands that halt -/

theorem exec_halt (s : State) (tag : Byte) (p x : List Byte) (ht : takes s .service p) :
    exec (.halt .service (requestFrame tag p x)) s
      = .next (answers s .service tag .ok [] (settle (halt .halt (heard .service (requestFrame tag p x) s)))) :=
  takeFrame_takes .halt .service tag p x answerHalt s ht rfl

theorem exec_driveFault (s : State) : exec .driveFault s = .next (s.setDev (driveFaultSample s.dev)) := rfl

/-- Film lost at rest in a READY roll, or in a THREADED one, halts (R5). -/
theorem filmChange_lost {d : Dev} (h : (d.roll.state = .ready ∧ d.transport.demand ≤ 0) ∨ d.roll.state = .threaded) :
    filmChange false d = filmLost (d.setRoll { d.roll with filmPresent := false }) := by
  have hdir : motionDirection (d.setRoll { d.roll with filmPresent := false }) = motionDirection d := rfl
  unfold filmChange
  dsimp only
  rw [hdir, Dev.setRoll_roll]
  rcases h with ⟨hs, hd⟩ | hs
  · rw [hs]
    cases hm : motionDirection d with
    | none => rfl
    | some dir =>
      cases dir with
      | forward => exact absurd ((motionDirection_eq_forward_iff d).1 hm) (not_lt.2 hd)
      | reverse => rfl
  · rw [hs]

/-- An encoder fault outside HALTED halts, whatever the roll state (R10). -/
theorem haltRaised_encoderHalted {d : Dev} (hd : d.transport.motion ≠ .halted) : HaltRaised .encoder (encoderHalted d) := by
  have h := haltRaised_halt .encoder hd
  unfold encoderHalted
  dsimp only
  split
  · exact h.setRollState .threaded
  · exact h

/-- An encoder fault with a datum leaves the roll THREADED without one (R10). -/
theorem encoderHalted_film {d : Dev} (h : d.roll.state = .ready ∨ d.roll.state = .runout) :
    filmState (encoderHalted d).roll = (.threaded, false, d.roll.filmPresent) := by
  have hf := filmState_eq (halt_follows (cause := .encoder) (.refl d)).film
  unfold encoderHalted
  rw [if_pos (by rw [hf.1]; exact h), setRollState_filmState, hf.2.2]
  rfl

/-- The film lost leaves the roll THREADED without a datum or film (R5). -/
theorem filmLost_film (d : Dev) : filmState (filmLost d).roll = (.threaded, false, d.roll.filmPresent) := by
  obtain ⟨-, -, hf⟩ := filmState_eq (halt_follows (cause := .filmLost) (.refl d)).film
  exact (setRollState_filmState .threaded _).trans (by rw [hf]; rfl)

/-! ### An encoder fault in HALTED -/

/-- In HALTED an encoder fault is no halt. -/
theorem encoderHalted_of_halted {d : Dev} (hm : d.transport.motion = .halted) :
    encoderHalted d = if d.roll.state = .ready ∨ d.roll.state = .runout then setRollState .threaded d else d := by
  unfold encoderHalted
  rw [halt_of_halted _ _ hm]

theorem encoderFault_eq (d : Dev) :
    encoderFault d = (encoderHalted d).setMetering
      { (encoderHalted d).metering with unsettled := true, settledAt := (encoderHalted d).time + 100 } := rfl

/-- A halted device with nothing left to do has nothing left to do once its roll has lost the datum. -/
theorem settled_of_datum_lost {d e : Dev} (h : Settled d) (hm : d.transport.motion = .halted) (hinbox : e.inbox = d.inbox)
    (ht : e.transport = d.transport) (hscan : e.scan = d.scan) (hret : e.retrieval = d.retrieval) (hfocus : e.focus = d.focus)
    (hs : e.roll.state ≠ .ready) (hdatum : e.roll.datum = false) : Settled e := by
  obtain ⟨hreaction, hpark⟩ := h
  obtain ⟨hin, hrelease, hrun, hretrieval, -⟩ := (reaction_none_iff d).1 hreaction
  obtain ⟨-, hlens, -⟩ := (retrievalReaction_none_iff d).1 hretrieval
  have hrest := atRest_of_transport ht
  refine ⟨reaction_none_of_no_datum hdatum hs (hinbox.trans hin) (by rw [ht, hrest]; exact hrelease) (fun r hr => ?_) ?_,
    (stopParkTimer_eq_iff e).2 fun _ => ?_⟩
  · rw [hrest]
    exact ((runReaction_none_iff d).1 hrun r (hscan ▸ hr)).1
  · unfold lensArrived at hlens ⊢
    rwa [hret, hfocus]
  · rw [ht]
    exact (stopParkTimer_eq_iff d).1 hpark (by simp [parkConditions, hm])

/-- An encoder fault in HALTED leaves a roll without a datum, and everything but the metering (R10, R41). -/
theorem settle_encoderFault_halted {d : Dev} (hm : d.transport.motion = .halted) (h : Settled d)
    (hs : d.roll.state = .noRoll ∨ d.roll.state = .threaded) :
    settle (encoderFault d) = d.setMetering { d.metering with unsettled := true, settledAt := d.time + 100 } := by
  have hhalted : encoderHalted d = d := by
    rw [encoderHalted_of_halted hm, if_neg (by rcases hs with hs | hs <;> simp [hs])]
  rw [encoderFault_eq, hhalted, settle_of_settled _ ((settled_setMetering _ _).2 h)]

/-- An encoder fault in HALTED takes the datum from a roll that has one (R10, R41). -/
theorem settle_encoderFault_datum {d : Dev} (hm : d.transport.motion = .halted) (h : Settled d)
    (hs : d.roll.state = .ready ∨ d.roll.state = .runout) :
    settle (encoderFault d) = (raiseRoll (d.setRoll { d.roll with state := .threaded, datum := false })).setMetering
      { d.metering with unsettled := true, settledAt := d.time + 100 } := by
  have hhalted : encoderHalted d = raiseRoll (d.setRoll { d.roll with state := .threaded, datum := false }) := by
    rw [encoderHalted_of_halted hm, if_pos hs, setRollState_of_ne (by rcases hs with hs | hs <;> simp [hs])]
    rfl
  rw [encoderFault_eq, hhalted, settle_of_settled]
  · rfl
  · exact settled_of_datum_lost h hm rfl rfl rfl rfl rfl (by exact fun he => nomatch he) rfl

/-! ### O20 -/

/-- Settles O20: a halt enters HALTED and whatever follows in the step leaves it. -/
theorem haltsEnterHalted : Obligations.HaltsEnterHalted := by
  refine ⟨fun s hm => ⟨fun tag p x ht => ?_, ?_, fun a b ha hb => ?_, fun hfilm hroll => ?_⟩, fun s tag p x ht hm hset => ?_,
    fun s a b hm hset ha hb => ⟨fun hs => ?_, fun hs => ?_⟩⟩
  · obtain ⟨hin, hfault⟩ := ((settle_follows (.refl _)).haltRaised
      (haltRaised_halt .halt (d := heard .service (requestFrame tag p x) s) hm)).respond .service tag .ok []
    exact ⟨_, exec_halt s tag p x ht, rfl, hin, hfault, by rw [answers, State.setDev_dev, respond_get]⟩
  · have h := (settle_follows (.refl _)).haltRaised
      (haltRaised_halt .drive (d := s.dev.setInputs { s.dev.inputs with driveFault := true }) hm)
    exact ⟨_, exec_driveFault s, rfl, h.1, h.2⟩
  · have h := (settle_follows (.refl (encoderFault (samplePhase a b s.dev)))).haltRaised
      (haltRaised_encoderHalted (d := samplePhase a b s.dev) hm)
    obtain ⟨htime, hmeter⟩ := settle_encoderFault_metering (samplePhase a b s.dev)
    have hfollows := settle_follows (.refl (encoderFault (samplePhase a b s.dev)))
    refine ⟨_, exec_encoderPhaseChange a b s, rfl, ?_⟩
    rw [State.setDev_dev, phaseChange_illegal ha hb]
    refine ⟨h.1, h.2, congrArg (·.phaseA) hmeter, congrArg (·.phaseB) hmeter, congrArg (·.unsettled) hmeter,
      congrArg (·.settledAt) hmeter, htime, fun hs => ?_⟩
    obtain ⟨hstate, hdatum, -⟩ := filmState_eq (hfollows.film.trans (encoderHalted_film (d := samplePhase a b s.dev) hs))
    exact ⟨hstate, hdatum⟩
  · have hlost := (haltRaised_halt .filmLost (d := s.dev.setRoll { s.dev.roll with filmPresent := false }) hm).setRollState .threaded
    have hfollows := settle_follows (.refl (filmLost (s.dev.setRoll { s.dev.roll with filmPresent := false })))
    have h := hfollows.haltRaised hlost
    refine ⟨_, exec_filmPresentChange s false false, rfl, ?_⟩
    rw [State.setDev_dev, filmSamples_taken hfilm, filmChange_lost hroll]
    exact ⟨h.1, h.2, filmState_eq (hfollows.film.trans (filmLost_film _))⟩
  · rw [exec_halt s tag p x ht, halt_of_halted .halt (heard .service (requestFrame tag p x) s) hm,
      settle_of_settled _ ((settled_heard _ _ _).2 hset)]
  · rw [exec_encoderPhaseChange, phaseChange_illegal ha hb,
      settle_encoderFault_halted (d := samplePhase a b s.dev) hm ((settled_setMetering _ _).2 hset) hs]
    rfl
  · have h := settle_encoderFault_datum (d := samplePhase a b s.dev) hm ((settled_setMetering _ _).2 hset) hs
    refine ⟨_, exec_encoderPhaseChange a b s, rfl, ?_⟩
    rw [State.setDev_dev, phaseChange_illegal ha hb, h]
    exact ⟨rfl, hm, rfl, rfl, raise_sets .service .roll _ (by decide)⟩

/-! ### CLEAR_FAULT -/

theorem faultRemains_iff (d : Dev) :
    faultRemains d = true ↔ d.inputs.driveFault = true ∨ d.guard.stopCondition = true
      ∨ (d.roll.filmPresent = false ∧ (d.transport.haltCause = some .filmLost ∨ d.roll.state = .threaded))
      ∨ d.metering.unsettled = true := by
  simp [faultRemains, or_assoc]

theorem answerClearFault_elsewhere {p : List Byte} {d : Dev} (hm : d.transport.motion ≠ .halted) :
    answerClearFault p d = answered [] d := if_pos hm

theorem answerClearFault_remains {p : List Byte} {d : Dev} (hm : d.transport.motion = .halted) (hf : faultRemains d = true) :
    answerClearFault p d = refuse .state d := (if_neg (not_not.2 hm)).trans (if_pos hf)

theorem answerClearFault_clears {p : List Byte} {d : Dev} (hm : d.transport.motion = .halted) (hf : ¬ faultRemains d = true) :
    answerClearFault p d = taken .ok [] (leaveHalted d) := (if_neg (not_not.2 hm)).trans (if_neg hf)

/-- Settles O21, by the cases of the answer. -/
theorem clearFaultLeavesHalted : Obligations.ClearFaultLeavesHalted := by
  intro s tag p x ht
  refine ⟨fun hm => ?_, fun hm hr => ?_, fun hm hr => ?_⟩
  all_goals refine (takeFrame_takes .clearFault .service tag p x answerClearFault s ht rfl).trans ?_
  · rw [answerClearFault_elsewhere (d := heard .service (requestFrame tag p x) s) hm]
    rfl
  · rw [answerClearFault_remains (d := heard .service (requestFrame tag p x) s) hm ((faultRemains_iff _).2 hr)]
    rfl
  · rw [answerClearFault_clears (d := heard .service (requestFrame tag p x) s) hm (fun hf => hr ((faultRemains_iff _).1 hf))]
    rfl

end Sys2Proof.Proofs

/-! The grant and the orders of the Service port: O22 to O26. -/

namespace Sys2Proof.Proofs

open Sys2Proof Sys2Proof.Machine

/-! ### Requests refused for the grant or the motion state -/

/-- The refusal that a Service request meets: OWNED before STATE (R28). -/
def RefusedAs (d : Dev) (r : Result) : Prop :=
  (d.transport.grant ≠ .nobody ∧ r = .owned)
    ∨ (d.transport.grant = .nobody ∧ d.transport.motion ≠ .idle ∧ d.transport.motion ≠ .parked ∧ r = .state)

section
variable {d : Dev} {r : Result} {p : List Byte}

theorem serviceRefusal_refused (h : RefusedAs d r) : serviceRefusal d = some r := by
  unfold serviceRefusal
  obtain ⟨hg, rfl⟩ | ⟨hg, hidle, hparked, rfl⟩ := h
  · rw [if_pos hg]
  · rw [if_neg (not_not.2 hg), if_pos ⟨hidle, hparked⟩]

theorem serviceRefusal_none (hg : d.transport.grant = .nobody) (hm : d.transport.motion = .idle ∨ d.transport.motion = .parked) :
    serviceRefusal d = none := by
  unfold serviceRefusal
  rw [if_neg (not_not.2 hg), if_neg (by rcases hm with hm | hm <;> simp [hm])]

theorem answerJog_refused (h : RefusedAs d r) (hp : 1 ≤ p.length) : answerJog p d = refuse r d := by
  unfold answerJog needBytes
  rw [if_neg (by omega)]
  dsimp only
  rw [serviceRefusal_refused h]

theorem answerServiceSeek_refused (h : RefusedAs d r) (hp : 4 ≤ p.length) (hp' : p.length ≠ 5) : answerServiceSeek p d = refuse r d := by
  unfold answerServiceSeek needBytes
  dsimp only
  rw [if_neg (by omega), if_neg hp', serviceRefusal_refused h]

theorem answerLensHome_refused (h : RefusedAs d r) : answerLensHome p d = refuse r d := by
  unfold answerLensHome
  rw [serviceRefusal_refused h]

theorem answerFocusSearch_refused (h : RefusedAs d r) : answerFocusSearch p d = refuse r d := by
  unfold answerFocusSearch
  rw [serviceRefusal_refused h]

end

/-- Settles O22, by the one check that the four requests share. -/
theorem serviceRequestsNeedTheGrant : Obligations.ServiceRequestsNeedTheGrant := by
  intro s tag p x r ht hr
  have h : RefusedAs (heard .service (requestFrame tag p x) s) r := hr
  refine ⟨fun hp => ?_, fun hp hp' => ?_, ?_, ?_⟩
  · refine (takeFrame_takes .jog .service tag p x answerJog s ht rfl).trans ?_
    rw [answerJog_refused h hp]
    rfl
  · refine (takeFrame_takes .serviceSeek .service tag p x answerServiceSeek s ht rfl).trans ?_
    rw [answerServiceSeek_refused h hp hp']
    rfl
  · refine (takeFrame_takes .lensHome .service tag p x answerLensHome s ht rfl).trans ?_
    rw [answerLensHome_refused h]
    rfl
  · refine (takeFrame_takes .focusSearch .service tag p x answerFocusSearch s ht rfl).trans ?_
    rw [answerFocusSearch_refused h]
    rfl

/-! ### A transport that is owned and not at rest -/

section
variable {d : Dev}

theorem parkTimer_of_settled (h : Settled d) (hp : parkConditions d = false) : d.transport.parkTimer = 0 :=
  (stopParkTimer_eq_iff d).1 h.2 hp

/-- An owner's order in progress gives no reaction its turn that had none before. -/
theorem settled_setTransport {t : Transport} (h : Settled d) (hrest : atRest (d.setTransport t) = false) (hg : t.grant ≠ .nobody)
    (hp : t.parkTimer = 0) : Settled (d.setTransport t) := by
  obtain ⟨hinbox, -, hrun, hretrieval, -⟩ := (reaction_none_iff d).1 h.1
  obtain ⟨hhold, hlens, hhint, -⟩ := (retrievalReaction_none_iff d).1 hretrieval
  have hfree : grantFree (d.setTransport t) = false := by simp [grantFree, hg]
  have hconditions : hintConditions (d.setTransport t) = false := by simp [hintConditions, hg]
  refine ⟨(reaction_none_iff _).2 ⟨hinbox, by rw [hrest, Bool.and_false], ?_, ?_, ?_⟩, (stopParkTimer_eq_iff _).2 fun _ => hp⟩
  · exact (runReaction_none_iff _).2 fun r hr => ⟨fun _ => hrest, ((runReaction_none_iff d).1 hrun r hr).2⟩
  · exact (retrievalReaction_none_iff _).2 ⟨hhold, hlens, hhint, by rw [hconditions, Bool.false_and]⟩
  · exact (grantReaction_none_iff _).2 fun hf => absurd hf (by simp [hfree])

/-- A step that leaves one report, after which nothing is left to do. -/
theorem settle_of_report {r : Report} (hinbox : d.inbox = [r]) (h : Settled (takeReport r (d.setInbox []))) :
    settle d = takeReport r (d.setInbox []) := by
  have hreaction : reaction d = some (takeReport r (d.setInbox [])) := by
    unfold reaction
    rw [hinbox]
  have hfor : settleFor Config.cascadeBound d = takeReport r (d.setInbox []) :=
    (settleFor_step 4095 d _ hreaction).trans (settleFor_of_none _ _ h.1)
  unfold settle
  rw [hfor, h.2]

end

/-! ### The grant given -/

theorem giveGrant_hold {owner : Owner} {d : Dev} (ht : d.transport.tension = .hold) :
    giveGrant owner d = d.setTransport { d.transport with grant := owner, releasePending := false, parkTimer := 0 } :=
  if_neg (by simp [ht])

theorem giveGrant_release {owner : Owner} {d : Dev} (ht : d.transport.tension = .release) :
    giveGrant owner d = d.setTransport
      { d.transport with
        grant := owner, releasePending := false, parkTimer := 0, motion := .retensioning, tension := .hold, driveEnable := true
        demand := 0, tensionedAt := some (d.time + d.transport.cfg.tensionSettle) } :=
  if_pos ht

/-! ### Orders given -/

section
variable {d : Dev} {o : Order}

/-- The owner's order starts in IDLE, PARKED and a moving state (R30). -/
theorem giveOrder_starts (hg : d.transport.grant = o.owner)
    (hm : d.transport.motion ∈ [MotionState.idle, .parked, .jog, .seek, .creep, .scan]) (hk : o.kind ≠ .stop) :
    giveOrder o d = startOrder o d := by
  unfold giveOrder
  rw [if_neg (not_not.2 hg)]
  split
  next h => exact absurd h hk
  next =>
    split
    next h => simp [h] at hm
    next h => simp [h] at hm
    next h => simp [h] at hm
    next => rfl

/-- The owner's order is held in RETENSIONING (R30). -/
theorem giveOrder_held (hg : d.transport.grant = o.owner) (hm : d.transport.motion = .retensioning) (hk : o.kind ≠ .stop) :
    giveOrder o d = d.setTransport { d.transport with held := some o } := by
  unfold giveOrder
  rw [if_neg (not_not.2 hg), hm]
  split
  next h => exact absurd h hk
  next => rfl

theorem startOrder_fails {c : FailCause} (h : startFailure d o.kind = some c) :
    startOrder o d = d.setInbox (d.inbox ++ [.orderEnded o.owner (.failed c) false]) := by
  unfold startOrder
  rw [h]
  rfl

theorem startFailure_notReady (kind : OrderKind) (h : d.inputs.driveReady = false) : startFailure d kind = some .driveNotReady := if_pos h

theorem startFailure_seek {target : Int} {cap : Option Nat} (h : d.inputs.driveReady = true) :
    startFailure d (.seek target cap) = none := if_neg (by simp [h])

theorem startFailure_scan {start : Int} {v pitch line : Nat} {stopAt : Option Int} (h : d.inputs.driveReady = true) :
    startFailure d (.scan start v pitch line stopAt) = none := if_neg (by simp [h])

theorem startFailure_creep {which : CreepSpeed} (h : d.inputs.driveReady = true) :
    startFailure d (.creep which) = if upperLimit d ≤ d.metering.counter then some .limit else none := if_neg (by simp [h])

theorem startFailure_jog {dir : Direction} (h : d.inputs.driveReady = true) :
    startFailure d (.jog dir) = if jogBeyond d dir then some .limit else none := if_neg (by simp [h])

/-- A jog starts at or beyond the soft limit in its direction (R37). -/
theorem jogBeyond_iff (dir : Direction) :
    jogBeyond d dir = true ↔ if dir = .forward then upperLimit d ≤ d.metering.counter else d.metering.counter ≤ -2000000 := by
  cases dir with
  | forward =>
    rw [if_pos rfl]
    exact decide_eq_true_iff
  | reverse =>
    rw [if_neg (by simp)]
    exact decide_eq_true_iff

theorem jogBeyond_false {dir : Direction} (hf : dir = .forward → d.metering.counter < upperLimit d)
    (hr : dir = .reverse → -2000000 < d.metering.counter) : ¬ jogBeyond d dir = true := by
  rw [jogBeyond_iff]
  cases dir with
  | forward => simpa using hf rfl
  | reverse => simpa using hr rfl

theorem startOrder_jog {dir : Direction} (hk : o.kind = .jog dir) (h : d.inputs.driveReady = true) (hb : ¬ jogBeyond d dir = true) :
    startOrder o d = beginOrder o .jog none d.transport.cfg.jogSpeed d := by
  unfold startOrder
  rw [hk, startFailure_jog h, if_neg hb]

theorem startOrder_seek {target : Int} {cap : Option Nat} (hk : o.kind = .seek target cap) (h : d.inputs.driveReady = true) :
    startOrder o d = beginOrder o .seek (some (seekRun d target cap)) 0 d := by
  unfold startOrder
  rw [hk, startFailure_seek h]

theorem startOrder_scan {start : Int} {v pitch line : Nat} {stopAt : Option Int} (hk : o.kind = .scan start v pitch line stopAt)
    (h : d.inputs.driveReady = true) :
    startOrder o d = report .positioningBegan (beginOrder o .seek (some (seekRun d (start - runUp d v) none)) v d) := by
  unfold startOrder
  rw [hk, startFailure_scan h]

theorem startOrder_creep {which : CreepSpeed} (hk : o.kind = .creep which) (h : d.inputs.driveReady = true)
    (hb : ¬ upperLimit d ≤ d.metering.counter) : startOrder o d = beginOrder o .creep none (creepSpeedOf d which) d := by
  unfold startOrder
  rw [hk, startFailure_creep h, if_neg hb]

/-- A target within the limits is the target of its seek (R13). -/
theorem clampLimits_within {target : Int} (hlow : -2000000 ≤ target) (hhigh : target ≤ upperLimit d) : clampLimits d target = target := by
  have hlow' : ¬ target < lowerLimit d := not_lt.2 hlow
  unfold clampLimits
  rw [if_neg hlow', if_neg (not_lt.2 hhigh)]

end

/-! ### JOG and SERVICE_SEEK taken -/

section
variable {p : List Byte} {d : Dev}

theorem answerJog_taken {dir : Direction} (hp : 1 ≤ p.length) (hdir : directionOf (natAt p 0 1) = some dir)
    (hg : d.transport.grant = .nobody) (hm : d.transport.motion = .idle ∨ d.transport.motion = .parked) :
    answerJog p d = taken .accepted [] (serviceOrder (.jog dir) d) := by
  unfold answerJog needBytes
  rw [if_neg (by omega)]
  dsimp only
  rw [serviceRefusal_none hg hm, hdir]

/-- The jog of SERVICE under tension HOLD starts at once. -/
def jogStarted (dir : Direction) (t : Transport) : Transport :=
  { t with
    motion := .jog, grant := .service, releasePending := false, parkTimer := 0, stopReason := none
    current := some
      { order := { owner := .service, kind := .jog dir }, seek := none, speed := t.cfg.jogSpeed, runPhase := false
        baseReported := false } }

theorem serviceOrder_jog_starts {dir : Direction} (hm : d.transport.motion = .idle) (ht : d.transport.tension = .hold)
    (hready : d.inputs.driveReady = true) (hb : ¬ jogBeyond d dir = true) :
    serviceOrder (.jog dir) d = d.setTransport (jogStarted dir d.transport) := by
  unfold serviceOrder
  rw [giveGrant_hold ht, giveOrder_starts rfl (by simp [hm]) (by simp)]
  exact startOrder_jog rfl (by exact hready) (by exact hb)

/-- The jog of SERVICE with tension RELEASE is held through re-tensioning (R39). -/
def jogHeld (dir : Direction) (due : Nat) (t : Transport) : Transport :=
  { t with
    motion := .retensioning, grant := .service, releasePending := false, parkTimer := 0, tension := .hold
    driveEnable := true, demand := 0, held := some { owner := .service, kind := .jog dir }, tensionedAt := some due }

theorem serviceOrder_jog_held {dir : Direction} (ht : d.transport.tension = .release) :
    serviceOrder (.jog dir) d = d.setTransport (jogHeld dir (d.time + d.transport.cfg.tensionSettle) d.transport) := by
  unfold serviceOrder
  rw [giveGrant_release ht, giveOrder_held rfl rfl (by simp)]
  rfl

theorem settled_jogStarted {dir : Direction} (h : Settled d) : Settled (d.setTransport (jogStarted dir d.transport)) :=
  settled_setTransport h rfl (by exact fun hg => nomatch hg) rfl

theorem settled_jogHeld {dir : Direction} {due : Nat} (h : Settled d) : Settled (d.setTransport (jogHeld dir due d.transport)) :=
  settled_setTransport h (by simp [atRest, jogHeld]) (by exact fun hg => nomatch hg) rfl

/-- The cap that a SERVICE_SEEK carries, by its length. -/
def CarriesCap (p : List Byte) (cap : Option Nat) : Prop :=
  (p.length = 4 ∧ cap = none) ∨ (6 ≤ p.length ∧ cap = some (natAt p 4 2))

theorem seekCap_of_carries {cap : Option Nat} (h : CarriesCap p cap) : seekCap p = cap := by
  unfold seekCap
  obtain ⟨hp, rfl⟩ | ⟨hp, rfl⟩ := h
  · rw [if_pos (by omega)]
  · rw [if_neg (by omega)]

theorem capOutOfRange_false {cap : Option Nat} (h : ∀ k ∈ cap, 1 ≤ k ∧ k ≤ 5000) : capOutOfRange cap = false := by
  cases cap with
  | none => rfl
  | some k =>
    obtain ⟨hlow, hhigh⟩ := h k rfl
    simp only [capOutOfRange, Bool.or_eq_false_iff, beq_eq_false_iff_ne, decide_eq_false_iff_not]
    omega

theorem answerServiceSeek_taken {cap : Option Nat} (hp : CarriesCap p cap) (hlow : -2000000 ≤ intAt p 0 4)
    (hhigh : intAt p 0 4 ≤ upperLimit d) (hcap : ∀ k ∈ cap, 1 ≤ k ∧ k ≤ 5000) (hg : d.transport.grant = .nobody)
    (hm : d.transport.motion = .idle) :
    answerServiceSeek p d = taken .accepted [] (serviceOrder (.seek (intAt p 0 4) cap) d) := by
  have hlength : ¬ p.length < 4 ∧ p.length ≠ 5 := by
    rcases hp with ⟨hp, -⟩ | ⟨hp, -⟩ <;> omega
  have hwithin : withinLimits d (intAt p 0 4) = true := decide_eq_true ⟨hlow, hhigh⟩
  unfold answerServiceSeek needBytes
  dsimp only
  rw [if_neg hlength.1, if_neg hlength.2, serviceRefusal_none hg (.inl hm), seekCap_of_carries hp, capOutOfRange_false hcap, hwithin]
  rfl

/-- What a seek fixes at its start, for a target within the limits (R31). -/
def seekFixed (d : Dev) (target : Int) (cap : Option Nat) : SeekRun :=
  let c := min (cap.getD d.transport.cfg.seekMaximum) d.transport.cfg.seekMaximum
  let d0 := target - d.metering.counter
  { target := target, distance := d0, cap := c
    limit := ceilDiv d0.natAbs c + ceilDiv (2 * c) d.transport.cfg.acceleration + d.transport.cfg.seekMargin
    elapsed := 0, reversals := 0 }

theorem seekRun_within {target : Int} {cap : Option Nat} (hlow : -2000000 ≤ target) (hhigh : target ≤ upperLimit d) :
    seekRun d target cap = seekFixed d target cap := by
  unfold seekRun seekFixed
  rw [clampLimits_within hlow hhigh]
  cases cap <;> simp

/-- The seek of SERVICE under tension HOLD starts at once. -/
def seekStarted (target : Int) (cap : Option Nat) (k : SeekRun) (t : Transport) : Transport :=
  { t with
    motion := .seek, grant := .service, releasePending := false, parkTimer := 0, stopReason := none
    current := some
      { order := { owner := .service, kind := .seek target cap }, seek := some k, speed := 0, runPhase := false
        baseReported := false } }

theorem serviceOrder_seek_starts {target : Int} {cap : Option Nat} (hlow : -2000000 ≤ target) (hhigh : target ≤ upperLimit d)
    (hm : d.transport.motion = .idle) (ht : d.transport.tension = .hold) (hready : d.inputs.driveReady = true) :
    serviceOrder (.seek target cap) d = d.setTransport (seekStarted target cap (seekFixed d target cap) d.transport) := by
  unfold serviceOrder
  rw [giveGrant_hold ht, giveOrder_starts rfl (by simp [hm]) (by simp), startOrder_seek rfl (by exact hready),
    seekRun_within hlow (by exact hhigh)]
  rfl

end

/-! ### An order of the grant owner -/

section
variable {d : Dev} {o : Order}

/-- An order of the grant owner fails at its start, leaving the motion as it was (R25, R36, R37). -/
theorem giveOrder_fails {c : FailCause} (hg : d.transport.grant = o.owner)
    (hm : d.transport.motion ∈ [MotionState.idle, .parked, .jog, .seek, .creep, .scan]) (hk : o.kind ≠ .stop)
    (h : startFailure d o.kind = some c) :
    giveOrder o d = d.setInbox (d.inbox ++ [.orderEnded o.owner (.failed c) false]) := by
  rw [giveOrder_starts hg hm hk, startOrder_fails h]

theorem creepSpeedOf_eq (d : Dev) (which : CreepSpeed) :
    creepSpeedOf d which = if which = .probe then d.transport.cfg.probeSpeed else d.transport.cfg.creepSpeed := by
  cases which <;> rfl

end

/-- Settles O23, by the start of an order. -/
theorem serviceOrdersStart : Obligations.ServiceOrdersStart := by
  refine ⟨fun s tag p x dir ht hp hdir hg hset => ⟨fun hm hten hready hf hr => ?_, fun hm hten => ?_⟩,
    fun s tag p x target cap ht hp htarget hlow hhigh hcap hg hm hten hready hset => ?_, fun d o hg hm => ⟨?_, ?_, ?_, ?_⟩⟩
  · refine (takeFrame_takes .jog .service tag p x answerJog s ht rfl).trans ?_
    rw [answerJog_taken (d := heard .service (requestFrame tag p x) s) hp hdir hg (.inl hm),
      serviceOrder_jog_starts (d := heard .service (requestFrame tag p x) s) hm hten hready (jogBeyond_false hf hr)]
    unfold taken
    rw [settle_of_settled _ (settled_jogStarted ((settled_heard _ _ _).2 hset))]
    rfl
  · refine (takeFrame_takes .jog .service tag p x answerJog s ht rfl).trans ?_
    rw [answerJog_taken (d := heard .service (requestFrame tag p x) s) hp hdir hg hm,
      serviceOrder_jog_held (d := heard .service (requestFrame tag p x) s) hten]
    unfold taken
    rw [settle_of_settled _ (settled_jogHeld ((settled_heard _ _ _).2 hset))]
    rfl
  · subst htarget
    refine (takeFrame_takes .serviceSeek .service tag p x answerServiceSeek s ht rfl).trans ?_
    rw [answerServiceSeek_taken (d := heard .service (requestFrame tag p x) s) hp hlow hhigh hcap hg hm,
      serviceOrder_seek_starts (d := heard .service (requestFrame tag p x) s) hlow hhigh hm hten hready]
    unfold taken
    rw [settle_of_settled _ (settled_setTransport ((settled_heard _ _ _).2 hset) rfl (by exact fun hg => nomatch hg) rfl)]
    rfl
  · refine fun start v pitch line stopAt hk => ⟨fun hready => ?_, fun hready => ?_⟩
    · exact giveOrder_fails hg hm (by simp [hk]) (startFailure_notReady _ hready)
    · rw [giveOrder_starts hg hm (by simp [hk]), startOrder_scan hk hready]
      rfl
  · refine fun which hk => ⟨fun hready _ => ?_, fun hready hb => ?_, fun hready hb => ?_⟩
    · exact giveOrder_fails hg hm (by simp [hk]) (startFailure_notReady _ hready)
    · exact giveOrder_fails hg hm (by simp [hk]) (by rw [hk, startFailure_creep hready]; exact if_pos hb)
    · rw [giveOrder_starts hg hm (by simp [hk]), startOrder_creep hk hready hb, creepSpeedOf_eq]
      dsimp only
      rw [List.append_nil]
      rfl
  · refine fun dir hk => ⟨fun hready _ => ?_, fun hready hb => ?_⟩
    · exact giveOrder_fails hg hm (by simp [hk]) (startFailure_notReady _ hready)
    · exact giveOrder_fails hg hm (by simp [hk]) (by rw [hk, startFailure_jog hready]; exact if_pos ((jogBeyond_iff dir).2 hb))
  · exact fun target cap hk hready => giveOrder_fails hg hm (by simp [hk]) (startFailure_notReady _ hready)

/-! ### STOP -/

section
variable {p : List Byte} {d : Dev}

theorem answerStop_nobody (hg : d.transport.grant = .nobody) : answerStop p d = answered [] d := by
  unfold answerStop
  rw [hg]

theorem answerStop_owned (hg : d.transport.grant = .scan ∨ d.transport.grant = .retrieval) : answerStop p d = refuse .owned d := by
  unfold answerStop
  rcases hg with hg | hg <;> rw [hg]

/-- A STOP of the owner in a moving state puts the transport into STOPPING (R38). -/
theorem giveStop_moving {owner : Owner} (hg : d.transport.grant = owner) (hm : movingState d.transport.motion = true) :
    giveStop owner d = enterStopping .order (some (stopOrder owner)) d := by
  unfold giveStop
  rw [if_neg (not_not.2 hg)]
  cases hmotion : d.transport.motion with
  | jog | seek | creep | scan => rfl
  | idle | parked | retensioning | stopping | halted => simp [hmotion, movingState] at hm

theorem answerStop_service (hg : d.transport.grant = .service) (hs : d.focus.search = none)
    (hm : movingState d.transport.motion = true) :
    answerStop p d = taken .ok [] (enterStopping .order (some (stopOrder .service)) d) := by
  unfold answerStop serviceStop
  rw [hg, hs, giveStop_moving hg hm]
  rfl

/-- An owned transport has no park timer running. -/
theorem parkConditions_of_owned (hg : d.transport.grant ≠ .nobody) : parkConditions d = false := by
  simp [parkConditions, hg]

theorem settled_enterStopping {reason : StopReason} {cur : Option CurrentOrder} (h : Settled d) (hg : d.transport.grant ≠ .nobody) :
    Settled (enterStopping reason cur d) :=
  settled_setTransport h rfl hg (parkTimer_of_settled h (parkConditions_of_owned hg))

end

/-- Settles O24, by the owner of the grant. -/
theorem stopByGrantOwner : Obligations.StopByGrantOwner := by
  intro s tag p x ht
  refine ⟨fun hg => ?_, fun hg => ?_, fun hg hs hset hm => ?_⟩
  all_goals refine (takeFrame_takes .stop .service tag p x answerStop s ht rfl).trans ?_
  · rw [answerStop_nobody (d := heard .service (requestFrame tag p x) s) hg]
    rfl
  · rw [answerStop_owned (d := heard .service (requestFrame tag p x) s) hg]
    rfl
  · have hmoving : movingState s.dev.transport.motion = true := by rcases hm with hm | hm | hm <;> rw [hm] <;> rfl
    have hgrant : s.dev.transport.grant ≠ .nobody := by simp [hg]
    rw [answerStop_service (d := heard .service (requestFrame tag p x) s) hg hs hmoving]
    unfold taken
    rw [settle_of_settled _ (settled_enterStopping ((settled_heard _ _ _).2 hset) hgrant)]
    rfl

/-! ### Seeks that fail -/

section
variable {d : Dev}

/-- A failed order of SERVICE: its outcome and its events (R28). -/
def serviceTold (c : FailCause) (d : Dev) : Dev :=
  raise .service .fault (raise .service .motionEnd (d.setTransport { d.transport with serviceOutcome := some (.failed c) }))

/-- Without a search or a homing SERVICE releases the grant with the report of a failed order (R28). -/
theorem serviceReport_failed {c : FailCause} (hs : d.focus.search = none)
    (hh : ∀ h, d.focus.lens.homing = some h → h.holdsGrant = false) :
    serviceReport (.failed c) d = releaseGrant .service (serviceTold c d) := by
  have hfocus : (raise .service .fault (raise .service .motionEnd
    (d.setTransport { d.transport with serviceOutcome := some (.failed c) }))).focus = d.focus := rfl
  unfold serviceReport
  dsimp only
  rw [hfocus, hs]
  cases hl : d.focus.lens.homing with
  | none => rfl
  | some h => exact (if_neg Bool.false_ne_true).trans (if_neg (by simp [hh h hl]))

/-- An owner that is not at rest releases the grant at the end of its stop (R26). -/
theorem releaseGrant_pending {owner : Owner} (hg : d.transport.grant = owner) (ho : owner ≠ .nobody) (hrest : atRest d = false) :
    releaseGrant owner d = d.setTransport { d.transport with releasePending := true } := by
  unfold releaseGrant
  rw [if_neg (by simp [hg, ho]), hrest, if_neg Bool.false_ne_true]

theorem failSeek_eq {cause : FailCause} {c : CurrentOrder} (hc : d.transport.current = some c) :
    failSeek cause d = report (.orderEnded c.order.owner (.failed cause) true) (enterStopping .failure none d) := by
  unfold failSeek
  rw [hc]

/-- The transport brakes after a failed seek of SERVICE, and the grant is released after the stop (R34, R28). -/
def seekFailed (cause : FailCause) (d : Dev) : Dev :=
  (serviceTold cause (enterStopping .failure none d)).setTransport
    { d.transport with
      motion := .stopping, stopReason := some .failure, current := none, serviceOutcome := some (.failed cause), releasePending := true }

/-- A seek of SERVICE fails, and that is all that the step brings about (R34). -/
theorem settle_failSeek {cause : FailCause} {c : CurrentOrder} (hc : d.transport.current = some c) (ho : c.order.owner = .service)
    (hg : d.transport.grant = .service) (hs : d.focus.search = none) (hh : ∀ h, d.focus.lens.homing = some h → h.holdsGrant = false)
    (h : Settled d) : settle (failSeek cause d) = seekFailed cause d := by
  have hinbox : d.inbox = [] := ((reaction_none_iff d).1 h.1).1
  have hgrant : d.transport.grant ≠ .nobody := by simp [hg]
  have htaken : takeReport (.orderEnded c.order.owner (.failed cause) true) ((failSeek cause d).setInbox []) = seekFailed cause d := by
    have hstopped : (failSeek cause d).setInbox [] = enterStopping .failure none d := by
      rw [failSeek_eq hc, ← hinbox]
      rfl
    rw [hstopped, ho]
    refine (serviceReport_failed (d := enterStopping .failure none d) hs hh).trans ?_
    rw [releaseGrant_pending (by exact hg) (by simp) rfl]
    rfl
  have hpark : d.transport.parkTimer = 0 := parkTimer_of_settled h (parkConditions_of_owned hgrant)
  have hsettled : Settled (seekFailed cause d) := by
    refine settled_setTransport ?_ rfl hgrant hpark
    refine (settled_raise _ _ _).2 ((settled_raise _ _ _).2 ?_)
    exact settled_setTransport (d := d) h rfl hgrant hpark
  rw [← htaken] at hsettled ⊢
  exact settle_of_report (by rw [failSeek_eq hc]; exact congrArg (· ++ _) hinbox) hsettled

theorem runningSeek_eq {c : CurrentOrder} {k : SeekRun} (hm : d.transport.motion = .seek) (hc : d.transport.current = some c)
    (hk : c.seek = some k) : runningSeek d = some k := by
  unfold runningSeek
  rw [if_pos hm, hc]
  exact hk

theorem exec_seekTimeout {s : State} {k : SeekRun} (h : runningSeek s.dev = some k) :
    exec .seekTimeout s = .next (s.setDev (if k.limit ≤ k.elapsed then settle (failSeek .timeout s.dev) else s.dev)) := by
  show Host.Outcome.next (s.setDev (seekTimeout s.dev)) = _
  unfold seekTimeout
  rw [h]

theorem exec_hunting {s : State} {k : SeekRun} (h : runningSeek s.dev = some k) :
    exec .hunting s = .next (s.setDev (if 4 ≤ k.reversals then settle (failSeek .hunting s.dev) else s.dev)) := by
  show Host.Outcome.next (s.setDev (huntingSeek s.dev)) = _
  unfold huntingSeek
  rw [h]

end

/-- Settles O25: the report of the failed seek is all that the step takes. -/
theorem seeksFailByTimeAndReversals : Obligations.SeeksFailByTimeAndReversals := by
  intro s c k hm hc hk ho hg hs hh hset
  have hrun := runningSeek_eq hm hc hk
  have hevents : ∀ cause, eventSet (seekFailed cause s.dev) .service .motionEnd ∧ eventSet (seekFailed cause s.dev) .service .fault :=
    fun cause => ⟨eventSet_raise .service .fault (raise_sets .service .motionEnd _ (by decide)), raise_sets .service .fault _ (by decide)⟩
  refine ⟨fun h => ?_, fun h => ?_, fun h => ?_, fun h => ?_⟩
  · refine ⟨_, exec_seekTimeout hrun, rfl, ?_⟩
    rw [State.setDev_dev, if_pos h, settle_failSeek hc ho hg hs hh hset]
    exact ⟨rfl, rfl, rfl, rfl, rfl, hg, rfl, hevents .timeout⟩
  · rw [exec_seekTimeout hrun, if_neg (not_le.2 h)]
    rfl
  · refine ⟨_, exec_hunting hrun, rfl, ?_⟩
    rw [State.setDev_dev, if_pos h, settle_failSeek hc ho hg hs hh hset]
    exact ⟨rfl, rfl, rfl, rfl, rfl, hg, rfl, hevents .hunting⟩
  · rw [exec_hunting hrun, if_neg (not_le.2 h)]
    rfl

/-! ### Re-tensioning and parking -/

section
variable {d : Dev}

theorem exec_retensioningEnd {s : State} {due : Nat} (hm : s.dev.transport.motion = .retensioning)
    (ht : s.dev.transport.tensionedAt = some due) :
    exec .retensioningEnd s = .next (s.setDev (if due ≤ s.dev.time then settle (endRetensioning s.dev) else s.dev)) := by
  show Host.Outcome.next (s.setDev (retensioned s.dev)) = _
  unfold retensioned
  rw [hm, ht]

theorem startHeld_none (h : d.transport.held = none) : startHeld d = d := by
  unfold startHeld
  rw [h]

theorem startHeld_some {o : Order} (h : d.transport.held = some o) :
    startHeld d = startOrder o (d.setTransport { d.transport with held := none }) := by
  unfold startHeld
  rw [h]

theorem parkDue_iff (d : Dev) :
    parkDue d = true ↔ d.transport.motion = .idle ∧ d.transport.grant = .nobody ∧ d.roll.state ≠ .noRoll
      ∧ d.transport.cfg.parkTimeout ≠ 0 ∧ d.transport.cfg.parkTimeout * 1000 ≤ d.transport.parkTimer := by
  simp [parkDue, parkConditions, and_assoc]

end

/-- Settles O26, by the time of re-tensioning and the condition of the park timer. -/
theorem retensioningAndParking : Obligations.RetensioningAndParking := by
  refine ⟨fun s due hm ht => ⟨fun h => ?_, fun h hheld => ?_, fun owner dir h hheld hg hrelease hready hf hr hset => ?_⟩,
    fun s => ⟨fun h => ?_, fun h => ?_⟩⟩
  · rw [exec_retensioningEnd hm ht, if_neg (not_le.2 h)]
    rfl
  · rw [exec_retensioningEnd hm ht, if_pos h]
    unfold endRetensioning
    rw [startHeld_none (by exact hheld)]
  · have hpark : s.dev.transport.parkTimer = 0 := parkTimer_of_settled hset (by simp [parkConditions, hm])
    rw [exec_retensioningEnd hm ht, if_pos h]
    unfold endRetensioning
    rw [startHeld_some (by exact hheld), startOrder_jog rfl (by exact hready) (by exact jogBeyond_false hf hr)]
    exact congrArg (fun e => Host.Outcome.next (s.setDev e)) (settle_of_settled _ (settled_setTransport (d := s.dev) hset rfl hg hpark))
  · exact congrArg (fun e => Host.Outcome.next (s.setDev e)) (if_pos ((parkDue_iff s.dev).2 h))
  · exact congrArg (fun e => Host.Outcome.next (s.setDev e)) (if_neg fun hd => h ((parkDue_iff s.dev).1 hd))

end Sys2Proof.Proofs

/-! The motion profile of one millisecond: O28. -/

namespace Sys2Proof.Proofs

open Sys2Proof Sys2Proof.Machine

/-! ### Speeds and directions -/

/-- A direction as a sign. -/
def signOf (dir : Direction) : Int := if dir = .forward then 1 else -1

theorem exists_signOf {sign : Int} (h : sign = 1 ∨ sign = -1) : ∃ dir, sign = signOf dir := by
  rcases h with h | h
  · exact ⟨.forward, h⟩
  · exact ⟨.reverse, h⟩

theorem signedSpeed_eq (dir : Direction) (u : Nat) : signedSpeed dir u = signOf dir * u := by
  cases dir <;> simp [signedSpeed, signOf]

/-- A speed that is not 0 sets the last travel direction (R22). -/
theorem setDemand_signedSpeed (dir : Direction) {u : Nat} (hu : 0 < u) (d : Dev) :
    setDemand (signedSpeed dir u) d = d.setTransport { d.transport with demand := signedSpeed dir u, lastDirection := dir } := by
  have hdir : (if 0 < signedSpeed dir u then Direction.forward
      else if signedSpeed dir u < 0 then Direction.reverse else d.transport.lastDirection) = dir := by
    cases dir with
    | forward => exact if_pos (Int.natCast_pos.2 hu)
    | reverse =>
      have hneg : -(u : Int) < 0 := by omega
      exact (if_neg hneg.le.not_gt).trans (if_pos hneg)
  unfold setDemand
  rw [hdir]

theorem setDemand_demand (v : Int) (d : Dev) : (setDemand v d).transport.demand = v := rfl

/-- Speed `u` brought toward `v` by at most `a` in one millisecond. -/
def toward (a u v : Nat) : Nat := if u < v then min (u + a) v else max (u - a) v

/-! ### Splice zones -/

section
variable {d : Dev} {dir : Direction} {v : Nat}

theorem insideZone_iff (d : Dev) :
    insideZone d = true ↔ d.transport.cfg.spliceZone ≠ 0
      ∧ ∃ x ∈ d.roll.splices, (d.metering.counter - x).natAbs ≤ d.transport.cfg.spliceZone := by
  simp [insideZone]

/-- The distance to the near edge of the zone of a splice, negative once it has been reached (R33). -/
def edgeAhead (d : Dev) (dir : Direction) (x : Int) : Int := signOf dir * (x - d.metering.counter) - d.transport.cfg.spliceZone

theorem zoneAhead_eq (d : Dev) (dir : Direction) (x : Int) :
    zoneAhead d dir x = if 0 < edgeAhead d dir x then some (edgeAhead d dir x).toNat else none := by
  have hedge : edgeAhead d dir x = match dir with
      | .forward => x - d.transport.cfg.spliceZone - d.metering.counter
      | .reverse => d.metering.counter - (x + d.transport.cfg.spliceZone) := by
    cases dir <;> simp only [edgeAhead, signOf, reduceIte, reduceCtorEq] <;> omega
  rw [hedge]
  rfl

theorem leastOf_eq_min? (xs : List Nat) : leastOf xs = xs.min? := by
  induction xs with
  | nil => rfl
  | cons x rest ih =>
    unfold leastOf
    rw [ih, List.min?_cons]
    cases rest.min? <;> rfl

/-- The nearest zone ahead is that of the nearest splice whose edge has not been reached. -/
theorem nearestZone_eq {y : Int} (hy : y ∈ d.roll.splices) (hpos : 0 < edgeAhead d dir y)
    (hle : ∀ x ∈ d.roll.splices, 0 < edgeAhead d dir x → edgeAhead d dir y ≤ edgeAhead d dir x) :
    leastOf (d.roll.splices.filterMap (zoneAhead d dir)) = some (edgeAhead d dir y).toNat := by
  rw [leastOf_eq_min?, List.min?_eq_some_iff]
  constructor
  · exact List.mem_filterMap.2 ⟨y, hy, by rw [zoneAhead_eq, if_pos hpos]⟩
  · intro z hz
    obtain ⟨x, hx, hxz⟩ := List.mem_filterMap.1 hz
    rw [zoneAhead_eq] at hxz
    split at hxz
    next hx' =>
      obtain rfl := Option.some.inj hxz
      exact Int.toNat_le_toNat (hle x hx hx')
    next => contradiction

/-- No zone lies ahead. -/
theorem nearestZone_none (h : ∀ x ∈ d.roll.splices, edgeAhead d dir x ≤ 0) :
    leastOf (d.roll.splices.filterMap (zoneAhead d dir)) = none := by
  have hnone : d.roll.splices.filterMap (zoneAhead d dir) = [] := by
    rw [List.filterMap_eq_nil_iff]
    intro x hx
    rw [zoneAhead_eq, if_neg (not_lt.2 (h x hx))]
  rw [hnone]
  rfl

/-- The deceleration before the zone at a distance is due (R33). -/
def ZoneDue (d : Dev) (edge : Int) : Prop :=
  d.transport.cfg.spliceSpeed < speedOf d
    ∧ edge - speedOf d ≤ (brakingDistance d.transport.cfg.acceleration (speedOf d) : Int)
      - brakingDistance d.transport.cfg.acceleration d.transport.cfg.spliceSpeed

theorem slowForZone_nearest {y : Int} (hz : d.transport.cfg.spliceZone ≠ 0) (hy : y ∈ d.roll.splices) (hpos : 0 < edgeAhead d dir y)
    (hle : ∀ x ∈ d.roll.splices, 0 < edgeAhead d dir x → edgeAhead d dir y ≤ edgeAhead d dir x) :
    slowForZone d dir = true ↔ ZoneDue d (edgeAhead d dir y) := by
  unfold slowForZone ZoneDue
  dsimp only
  rw [nearestZone_eq hy hpos hle]
  simp [hz, Int.toNat_of_nonneg hpos.le]

theorem slowForZone_none (h : d.transport.cfg.spliceZone = 0 ∨ ∀ x ∈ d.roll.splices, edgeAhead d dir x ≤ 0) :
    slowForZone d dir = false := by
  unfold slowForZone
  dsimp only
  rcases h with hz | hx
  · simp [hz]
  · rw [nearestZone_none hx, Bool.and_false]

theorem not_slowForZone_of_slow (h : speedOf d ≤ d.transport.cfg.spliceSpeed) : slowForZone d dir = false := by
  unfold slowForZone
  simp [h]

/-! ### Cruising -/

/-- Away from a zone and from its deceleration the speed goes toward the cap (R32 case 4). -/
theorem cruise_free (hin : ¬ insideZone d = true) (hslow : slowForZone d dir = false) :
    cruise d dir v = toward d.transport.cfg.acceleration (speedOf d) v := by
  unfold cruise toward
  dsimp only
  rw [if_neg fun h => hin h.1, hslow, if_neg hin, if_neg Bool.false_ne_true]
  split_ifs <;> omega

/-- Before a zone the speed falls toward the splice speed (R33). -/
theorem cruise_slows (hin : ¬ insideZone d = true) (hslow : slowForZone d dir = true) :
    cruise d dir v = max (speedOf d - d.transport.cfg.acceleration) d.transport.cfg.spliceSpeed := by
  unfold cruise
  dsimp only
  rw [if_neg fun h => hin h.1, if_pos hslow]

/-- Inside a zone the cap is at most the splice speed (R33). -/
theorem cruise_inside (hin : insideZone d = true) :
    cruise d dir v = toward d.transport.cfg.acceleration (speedOf d) (min v d.transport.cfg.spliceSpeed) := by
  unfold cruise toward
  dsimp only
  rw [if_pos hin]
  by_cases hover : min v d.transport.cfg.spliceSpeed < speedOf d
  · rw [if_pos ⟨hin, hover⟩, if_neg (by omega)]
  · rw [if_neg fun h => hover h.2, not_slowForZone_of_slow (by omega), if_neg Bool.false_ne_true]
    split_ifs <;> omega

end

/-- The counter lies inside a zone (R33). -/
def Inside (d : Dev) : Prop :=
  d.transport.cfg.spliceZone ≠ 0 ∧ ∃ x ∈ d.roll.splices, (d.metering.counter - x).natAbs ≤ d.transport.cfg.spliceZone

/-- What cruising makes of the speed by the place of the splice zones (R33). -/
structure CruiseCases (d : Dev) (dir : Direction) (v : Nat) : Prop where
  inside : Inside d →
    cruise d dir v = toward d.transport.cfg.acceleration (speedOf d) (min v d.transport.cfg.spliceSpeed)
  slows : ¬ Inside d → ∀ y ∈ d.roll.splices, d.transport.cfg.spliceZone ≠ 0 → 0 < edgeAhead d dir y →
    (∀ x ∈ d.roll.splices, 0 < edgeAhead d dir x → edgeAhead d dir y ≤ edgeAhead d dir x) → ZoneDue d (edgeAhead d dir y) →
    cruise d dir v = max (speedOf d - d.transport.cfg.acceleration) d.transport.cfg.spliceSpeed
  early : ¬ Inside d → ∀ y ∈ d.roll.splices, d.transport.cfg.spliceZone ≠ 0 → 0 < edgeAhead d dir y →
    (∀ x ∈ d.roll.splices, 0 < edgeAhead d dir x → edgeAhead d dir y ≤ edgeAhead d dir x) → ¬ ZoneDue d (edgeAhead d dir y) →
    cruise d dir v = toward d.transport.cfg.acceleration (speedOf d) v
  clear : ¬ Inside d → d.transport.cfg.spliceZone = 0 ∨ (∀ x ∈ d.roll.splices, edgeAhead d dir x ≤ 0) →
    cruise d dir v = toward d.transport.cfg.acceleration (speedOf d) v

theorem cruise_cases (d : Dev) (dir : Direction) (v : Nat) : CruiseCases d dir v where
  inside hin := cruise_inside ((insideZone_iff d).2 hin)
  slows hout _ hy hz hpos hle hdue :=
    cruise_slows (fun hin => hout ((insideZone_iff d).1 hin)) ((slowForZone_nearest hz hy hpos hle).2 hdue)
  early hout _ hy hz hpos hle hdue :=
    cruise_free (fun hin => hout ((insideZone_iff d).1 hin))
      (Bool.eq_false_iff.2 fun hslow => hdue ((slowForZone_nearest hz hy hpos hle).1 hslow))
  clear hout hnone := cruise_free (fun hin => hout ((insideZone_iff d).1 hin)) (slowForZone_none hnone)

/-! ### A seek -/

/-- The signed distance of a seek's target in a direction. -/
def seekGap (d : Dev) (k : SeekRun) (dir : Direction) : Int := signOf dir * (k.target - d.metering.counter)

/-- A seek in progress that moves in a direction, or at rest has its target there. -/
structure Seeking (d : Dev) (c : CurrentOrder) (k : SeekRun) (dir : Direction) : Prop where
  motion : d.transport.motion = .seek
  current : d.transport.current = some c
  seek : c.seek = some k
  forth : 0 ≤ signOf dir * d.transport.demand
  rest : speedOf d = 0 → 0 ≤ seekGap d k dir

/-- The arrival window at crawl speed (R34). -/
def SeekArrives (d : Dev) (k : SeekRun) (dir : Direction) : Prop :=
  0 ≤ seekGap d k dir ∧ seekGap d k dir ≤ d.transport.cfg.arrivalWindow ∧ speedOf d ≤ crawlSpeed d

/-- The counter lies beyond the soft limit in a direction (R34). -/
def Beyond (d : Dev) (dir : Direction) : Prop :=
  if signOf dir = 1 then upperLimit d < d.metering.counter else d.metering.counter < -2000000

theorem beyondLimit_iff (d : Dev) (dir : Direction) : beyondLimit d dir = true ↔ Beyond d dir := by
  cases dir <;> exact decide_eq_true_iff

/-- A seek that has counted one millisecond more. -/
def counted (k : SeekRun) : SeekRun := { k with elapsed := k.elapsed + 1 }

theorem profile_seek {d : Dev} {c : CurrentOrder} {k : SeekRun} (hm : d.transport.motion = .seek) (hc : d.transport.current = some c)
    (hk : c.seek = some k) : profile d = seekStep c k d := by
  unfold profile
  rw [hm, hc]
  dsimp only
  rw [hk]

namespace Seeking

variable {d : Dev} {c : CurrentOrder} {k : SeekRun} {dir : Direction}

/-- The film moves away from the target exactly when the target lies behind. -/
theorem movingAway_iff (h : Seeking d c k dir) : movingAway d (k.target - d.metering.counter) = true ↔ seekGap d k dir < 0 := by
  obtain ⟨-, -, -, hforth, hrest⟩ := h
  simp only [movingAway, decide_eq_true_eq, seekGap, speedOf, Int.natAbs_eq_zero] at *
  cases dir <;> simp only [signOf, reduceIte, reduceCtorEq] at * <;> omega

/-- The travel direction of the seek, unless it rests at its target. -/
theorem direction (h : Seeking d c k dir) (hne : ¬ (speedOf d = 0 ∧ seekGap d k dir = 0)) :
    seekDirection d (k.target - d.metering.counter) = dir := by
  obtain ⟨-, -, -, hforth, hrest⟩ := h
  simp only [speedOf, Int.natAbs_eq_zero, seekGap] at hne hrest
  unfold seekDirection motionDirection
  cases dir <;> simp only [signOf, reduceIte, reduceCtorEq] at * <;> split_ifs <;> first | rfl | omega

theorem arrives_iff (h : Seeking d c k dir) :
    (!movingAway d (k.target - d.metering.counter)
      && decide ((k.target - d.metering.counter).natAbs ≤ d.transport.cfg.arrivalWindow ∧ speedOf d ≤ crawlSpeed d)) = true
      ↔ SeekArrives d k dir := by
  rw [Bool.and_eq_true, Bool.not_eq_true', ← Bool.not_eq_true, h.movingAway_iff, decide_eq_true_eq, not_lt, SeekArrives]
  have habs : (k.target - d.metering.counter).natAbs = (seekGap d k dir).natAbs := by
    cases dir <;> simp only [seekGap, signOf, reduceIte, reduceCtorEq] <;> omega
  rw [habs]
  constructor <;> rintro ⟨hgap, hw, hu⟩ <;> exact ⟨hgap, by omega, hu⟩

/-- A seek that rests at its target has arrived. -/
theorem not_at_target (hna : ¬ SeekArrives d k dir) : ¬ (speedOf d = 0 ∧ seekGap d k dir = 0) := by
  rintro ⟨hu, hgap⟩
  exact hna ⟨hgap.ge, by omega, by omega⟩

theorem profile_arrives (h : Seeking d c k dir) (ha : SeekArrives d k dir) : profile d = seekArrived c (setSeek (counted k) d) := by
  rw [profile_seek h.motion h.current h.seek]
  exact if_pos (h.arrives_iff.2 ha)

theorem profile_fails (h : Seeking d c k dir) (hna : ¬ SeekArrives d k dir) (hb : Beyond d dir) :
    profile d = failSeek .limit (setSeek (counted k) d) := by
  rw [profile_seek h.motion h.current h.seek]
  refine (if_neg fun ha => hna (h.arrives_iff.1 ha)).trans (if_pos ?_)
  rw [h.direction (not_at_target hna)]
  exact (beyondLimit_iff d dir).2 hb

theorem profile_within (h : Seeking d c k dir) (hna : ¬ SeekArrives d k dir) (hb : ¬ Beyond d dir) :
    profile d = if movingAway d (k.target - d.metering.counter) then
        setDemand (signedSpeed dir (Machine.braked d))
          (setSeek (if Machine.braked d = 0 then { counted k with reversals := k.reversals + 1 } else counted k) d)
      else if ((k.target - d.metering.counter).natAbs : Int) - speedOf d ≤ brakingDistance d.transport.cfg.acceleration (speedOf d) then
        setDemand (signedSpeed dir (max (speedOf d - d.transport.cfg.acceleration) (crawlSpeed d))) (setSeek (counted k) d)
      else setDemand (signedSpeed dir (cruise d dir k.cap)) (setSeek (counted k) d) := by
  have hdir := h.direction (not_at_target hna)
  rw [profile_seek h.motion h.current h.seek]
  refine (if_neg fun ha => hna (h.arrives_iff.1 ha)).trans ((if_neg ?_).trans ?_)
  · rw [hdir]
    exact fun hl => hb ((beyondLimit_iff d dir).1 hl)
  · rw [hdir]
    rfl

/-- Moving away it brakes (R32 case 1). -/
theorem demand_away (h : Seeking d c k dir) (hb : ¬ Beyond d dir) (hgap : seekGap d k dir < 0) :
    (profile d).transport.demand = signOf dir * (Machine.braked d : Nat) := by
  rw [h.profile_within (fun ha => absurd ha.1 (not_le.2 hgap)) hb, if_pos (h.movingAway_iff.2 hgap), setDemand_demand, signedSpeed_eq]

theorem profile_forth (h : Seeking d c k dir) (hna : ¬ SeekArrives d k dir) (hb : ¬ Beyond d dir) (hgap : 0 ≤ seekGap d k dir) :
    (profile d).transport.demand = signOf dir * (if seekGap d k dir - speedOf d ≤ brakingDistance d.transport.cfg.acceleration (speedOf d)
      then max (speedOf d - d.transport.cfg.acceleration) (crawlSpeed d) else cruise d dir k.cap : Nat) := by
  have habs : ((k.target - d.metering.counter).natAbs : Int) = seekGap d k dir := by
    unfold seekGap at *
    cases dir <;> simp only [signOf, reduceIte, reduceCtorEq] at * <;> omega
  rw [h.profile_within hna hb, if_neg fun ha => absurd (h.movingAway_iff.1 ha) (not_lt.2 hgap), habs]
  split <;> rw [setDemand_demand, signedSpeed_eq]

/-- Within the braking distance it brakes to the crawl speed (R32 case 3). -/
theorem demand_slows (h : Seeking d c k dir) (hna : ¬ SeekArrives d k dir) (hb : ¬ Beyond d dir) (hgap : 0 ≤ seekGap d k dir)
    (hnear : seekGap d k dir - speedOf d ≤ brakingDistance d.transport.cfg.acceleration (speedOf d)) :
    (profile d).transport.demand = signOf dir * (max (speedOf d - d.transport.cfg.acceleration) (crawlSpeed d) : Nat) := by
  rw [h.profile_forth hna hb hgap, if_pos hnear]

/-- Beyond the braking distance it cruises (R32 case 4). -/
theorem demand_cruises (h : Seeking d c k dir) (hna : ¬ SeekArrives d k dir) (hb : ¬ Beyond d dir)
    (hfar : brakingDistance d.transport.cfg.acceleration (speedOf d) < seekGap d k dir - speedOf d) :
    (profile d).transport.demand = signOf dir * (cruise d dir k.cap : Nat) := by
  rw [h.profile_forth hna hb (by omega), if_neg (not_le.2 hfar)]

end Seeking

/-! ### The ends of a seek -/

section
variable {d : Dev} {c : CurrentOrder}

theorem endOrder_current {o : OrderOutcome} (hc : d.transport.current = some c) :
    endOrder o d = report (.orderEnded c.order.owner o true) (becomeIdle d) := by
  unfold endOrder
  rw [hc]

theorem setSeek_current {k : SeekRun} (hc : d.transport.current = some c) :
    (setSeek k d).transport.current = some { c with seek := some k } := by
  show d.transport.current.map _ = _
  rw [hc]
  rfl

theorem seekArrived_seek {target : Int} {cap : Option Nat} (hk : c.order.kind = .seek target cap) (d : Dev) :
    seekArrived c d = endOrder .arrived d := by
  unfold seekArrived
  rw [hk]

theorem seekArrived_scan {start : Int} {v pitch line : Nat} {stopAt : Option Int} (hk : c.order.kind = .scan start v pitch line stopAt)
    (d : Dev) : seekArrived c d = positioned c start pitch line stopAt d := by
  unfold seekArrived
  rw [hk]

end

/-! ### The arm of a scan order -/

/-- An operation that leaves the transport and adds reports. -/
structure Adds (d e : Dev) : Prop where
  transport : e.transport = d.transport
  inbox : ∃ rest, e.inbox = d.inbox ++ rest

section
variable {d e f : Dev}

theorem Adds.refl (d : Dev) : Adds d d := ⟨rfl, [], (List.append_nil _).symm⟩

theorem Adds.trans (h : Adds d e) (h' : Adds e f) : Adds d f := by
  obtain ⟨ht, x, hx⟩ := h
  obtain ⟨ht', y, hy⟩ := h'
  exact ⟨ht'.trans ht, x ++ y, by rw [hy, hx, List.append_assoc]⟩

theorem Adds.ite {p : Prop} [Decidable p] (he : Adds d e) (hf : Adds d f) : Adds d (if p then e else f) := by
  split
  · exact he
  · exact hf

theorem report_adds (r : Report) (d : Dev) : Adds d (report r d) := ⟨rfl, [r], rfl⟩

theorem disarm_adds (why : DisarmCause) (atClose : Bool) (d : Dev) : Adds d (disarm why atClose d) := by
  cases ha : d.trigger.arm with
  | none =>
    rw [disarm_of_unarmed why atClose d ha]
    exact .refl d
  | some a =>
    have h := besideArm_disarmSteps a atClose d
    rw [disarm_armed why atClose ha]
    exact .trans ⟨congrArg (·.1) h, [], (congrArg (·.2.2.2.2.1) h).trans (List.append_nil _).symm⟩ (report_adds _ _)

theorem triggerDue_adds (a : Arm) (d : Dev) : Adds d (triggerDue a d) :=
  .ite (disarm_adds _ _ _) ⟨rfl, [], (List.append_nil _).symm⟩

theorem armTrigger_adds (owner : Owner) (mode : ArmMode) (base : Int) (pitch : Nat) (stopAt : Option Int) (line : Nat) (d : Dev) :
    Adds d (armTrigger owner mode base pitch stopAt line d) := by
  have harmed : ∀ (x : Trigger) (r : Report), Adds d (report r ((disarm .command false d).setTrigger x)) := fun _ r =>
    .trans (disarm_adds .command false d) ⟨rfl, [r], rfl⟩
  exact .ite (report_adds _ _) (.ite ((harmed _ _).trans (disarm_adds _ _ _))
    (.ite ((harmed _ _).trans (triggerDue_adds _ _)) (harmed _ _)))

/-- An arm made ahead of the counter with no stop position waits for its base (R69). -/
theorem armTrigger_ahead {owner : Owner} {base : Int} {pitch line : Nat} (hg : d.transport.grant = owner) (ha : d.trigger.arm = none)
    (hp : d.metering.counter < base) :
    armTrigger owner .scan base pitch none line d = report (.armBegan owner 0) (d.setTrigger
      { d.trigger with
        lineCounter := line
        arm := some { owner := owner, mode := .scan, base := base, pitch := pitch, stopAt := none, index := 0 } }) := by
  have hindex : firstIndex base pitch d.metering.counter = 0 := if_pos hp.le
  unfold armTrigger
  rw [if_neg (not_not.2 hg), disarm_of_unarmed .command false d ha]
  dsimp only
  rw [hindex, if_neg Bool.false_ne_true, if_pos rfl, if_neg]
  simp only [nextPosition, armPosition, Nat.zero_mul, Nat.zero_div]
  omega

/-- BASE_REACHED is reported at most once, and nothing else is changed (R35). -/
theorem checkBase_cases (d : Dev) :
    checkBase d = d ∨ ∃ c, d.transport.current = some c
      ∧ checkBase d = report .baseReached (d.setTransport { d.transport with current := some { c with baseReported := true } }) := by
  unfold checkBase
  split
  next => exact .inl rfl
  next c hc =>
    split
    · split
      · exact .inr ⟨c, hc, rfl⟩
      · exact .inl rfl
    · exact .inl rfl

theorem checkBase_below {c : CurrentOrder} {start : Int} {v pitch line : Nat} {stopAt : Option Int} (hc : d.transport.current = some c)
    (hk : c.order.kind = .scan start v pitch line stopAt) (hp : d.metering.counter < start) : checkBase d = d := by
  unfold checkBase
  rw [hc]
  dsimp only
  rw [hk]
  exact if_neg fun h => absurd h.2.2 (not_le.2 hp)

end

section
variable {d : Dev} {c : CurrentOrder} {start : Int} {v pitch line : Nat} {stopAt : Option Int}

/-- The run phase of a scan order before its arm. -/
def runPhaseBegun (c : CurrentOrder) (d : Dev) : Dev :=
  report (.positioned c.order.owner) (setDemand 0
    (d.setTransport { d.transport with motion := .scan, current := some { c with seek := none, runPhase := true } }))

theorem positioned_eq (c : CurrentOrder) (start : Int) (pitch line : Nat) (stopAt : Option Int) (d : Dev) :
    positioned c start pitch line stopAt d = checkBase (armTrigger c.order.owner .scan start pitch stopAt line (runPhaseBegun c d)) := rfl

/-- The positioning of a scan order arrives: SCAN at rest in its run phase, with POSITIONED reported first (R35). -/
theorem positioned_facts (c : CurrentOrder) (start : Int) (pitch line : Nat) (stopAt : Option Int) (d : Dev) :
    (positioned c start pitch line stopAt d).transport.demand = 0 ∧ (positioned c start pitch line stopAt d).transport.motion = .scan
      ∧ (∃ rest, (positioned c start pitch line stopAt d).inbox = d.inbox ++ .positioned c.order.owner :: rest)
      ∧ ∃ c', (positioned c start pitch line stopAt d).transport.current = some c' ∧ c'.order = c.order ∧ c'.seek = none
        ∧ c'.runPhase = true := by
  obtain ⟨ht, rest, hrest⟩ := armTrigger_adds c.order.owner .scan start pitch stopAt line (runPhaseBegun c d)
  have hinbox : (armTrigger c.order.owner .scan start pitch stopAt line (runPhaseBegun c d)).inbox
      = d.inbox ++ .positioned c.order.owner :: rest := hrest.trans (by simp [runPhaseBegun, setDemand])
  rw [positioned_eq]
  rcases checkBase_cases (armTrigger c.order.owner .scan start pitch stopAt line (runPhaseBegun c d)) with h | ⟨c', hc', h⟩
  · rw [h, ht]
    exact ⟨rfl, rfl, ⟨rest, hinbox⟩, _, rfl, rfl, rfl, rfl⟩
  · rw [ht] at hc'
    obtain rfl := Option.some.inj hc'
    rw [h]
    refine ⟨congrArg (·.demand) ht, congrArg (·.motion) ht, ⟨rest ++ [.baseReached], ?_⟩, _, rfl, rfl, rfl, rfl⟩
    rw [report_inbox, Dev.setTransport_inbox, hinbox, List.append_assoc, List.cons_append]

/-- A positioning that ends ahead of the base arms the generator there (R35, R69). -/
theorem positioned_ahead (hk : c.order.kind = .scan start v pitch line none) (hg : d.transport.grant = c.order.owner)
    (ha : d.trigger.arm = none) (hp : d.metering.counter < start) :
    positioned c start pitch line none d = report (.armBegan c.order.owner 0) ((runPhaseBegun c d).setTrigger
      { d.trigger with
        lineCounter := line
        arm := some { owner := c.order.owner, mode := .scan, base := start, pitch := pitch, stopAt := none, index := 0 } }) := by
  rw [positioned_eq, armTrigger_ahead (d := runPhaseBegun c d) hg ha hp]
  exact checkBase_below (c := { c with seek := none, runPhase := true }) rfl hk hp

end

/-! ### Jog, creep and the run of a scan -/

/-- The distance to the soft limit in a direction (R37). -/
def limitGap (d : Dev) (dir : Direction) : Int :=
  if dir = .forward then upperLimit d - d.metering.counter else d.metering.counter - -2000000

/-- An order that runs in a direction, whose demand is not against it. -/
structure Running (d : Dev) (c : CurrentOrder) (dir : Direction) : Prop where
  current : d.transport.current = some c
  order : (d.transport.motion = .jog ∧ c.order.kind = .jog dir)
    ∨ (d.transport.motion = .creep ∧ dir = .forward) ∨ (d.transport.motion = .scan ∧ dir = .forward)
  forth : 0 ≤ signOf dir * d.transport.demand

/-- The limit is near and the speed is a crawl (R37). -/
def AtLimit (d : Dev) (dir : Direction) : Prop := limitGap d dir ≤ d.transport.cfg.arrivalWindow ∧ speedOf d ≤ crawlSpeed d

namespace Running

variable {d : Dev} {c : CurrentOrder} {dir : Direction}

/-- The demand of an order that runs goes in the order's direction. -/
theorem not_against (h : Running d c dir) :
    (match motionDirection d with
      | some m => m != dir
      | none => false) = false := by
  obtain ⟨-, -, hforth⟩ := h
  unfold motionDirection
  cases dir <;> simp only [signOf, reduceIte, reduceCtorEq] at hforth <;> split_ifs <;> first | rfl | omega

theorem profile_runs (h : Running d c dir) : profile d = runStep dir c.speed d := by
  unfold profile
  rw [h.current]
  obtain ⟨hm, hk⟩ | ⟨hm, rfl⟩ | ⟨hm, rfl⟩ := h.order
  · rw [hm]
    dsimp only
    rw [hk]
  · rw [hm]
  · rw [hm]

theorem toLimit_eq (d : Dev) (dir : Direction) : toLimit d dir = limitGap d dir := by cases dir <;> rfl

/-- The order ends in the window before its limit at crawl speed (R37). -/
theorem profile_ends (h : Running d c dir) (ha : AtLimit d dir) : profile d = endOrder .atLimit d := by
  rw [h.profile_runs]
  refine (if_neg (Bool.eq_false_iff.1 h.not_against)).trans (if_pos ?_)
  rw [toLimit_eq]
  exact ha

/-- Elsewhere it brakes for the limit or cruises (R37). -/
theorem demand_runs (h : Running d c dir) (hna : ¬ AtLimit d dir) :
    (profile d).transport.demand = signOf dir * (if limitGap d dir - speedOf d ≤ brakingDistance d.transport.cfg.acceleration (speedOf d)
      then max (speedOf d - d.transport.cfg.acceleration) (crawlSpeed d) else cruise d dir c.speed : Nat) := by
  have hstep : profile d = if limitGap d dir - speedOf d ≤ brakingDistance d.transport.cfg.acceleration (speedOf d) then
        setDemand (signedSpeed dir (max (speedOf d - d.transport.cfg.acceleration) (crawlSpeed d))) d
      else setDemand (signedSpeed dir (cruise d dir c.speed)) d := by
    rw [h.profile_runs, ← toLimit_eq]
    refine (if_neg (Bool.eq_false_iff.1 h.not_against)).trans (if_neg ?_)
    rw [toLimit_eq]
    exact hna
  rw [hstep]
  split <;> rw [setDemand_demand, signedSpeed_eq]

theorem demand_slows (h : Running d c dir) (hna : ¬ AtLimit d dir)
    (hnear : limitGap d dir - speedOf d ≤ brakingDistance d.transport.cfg.acceleration (speedOf d)) :
    (profile d).transport.demand = signOf dir * (max (speedOf d - d.transport.cfg.acceleration) (crawlSpeed d) : Nat) := by
  rw [h.demand_runs hna, if_pos hnear]

theorem demand_cruises (h : Running d c dir) (hna : ¬ AtLimit d dir)
    (hfar : brakingDistance d.transport.cfg.acceleration (speedOf d) < limitGap d dir - speedOf d) :
    (profile d).transport.demand = signOf dir * (cruise d dir c.speed : Nat) := by
  rw [h.demand_runs hna, if_neg (not_le.2 hfar)]

end Running

/-! ### STOPPING -/

section
variable {d : Dev}

theorem profile_stopping (hm : d.transport.motion = .stopping) : profile d = stoppingStep d := by
  unfold profile
  rw [hm]

/-- Above one millisecond's braking the stop goes on in its direction (R38). -/
theorem stoppingStep_brakes (h : d.transport.cfg.acceleration < d.transport.demand.natAbs) :
    stoppingStep d = d.setTransport
      { d.transport with
        demand := if 0 < d.transport.demand then ((d.transport.demand.natAbs - d.transport.cfg.acceleration : Nat) : Int)
          else -((d.transport.demand.natAbs - d.transport.cfg.acceleration : Nat) : Int)
        lastDirection := if 0 < d.transport.demand then .forward else .reverse } := by
  have hbraked : Machine.braked d = d.transport.demand.natAbs - d.transport.cfg.acceleration := by
    unfold Machine.braked speedOf
    omega
  unfold stoppingStep motionDirection
  rw [hbraked, if_neg (by omega)]
  by_cases hpos : 0 < d.transport.demand
  · simp only [if_pos hpos]
    exact setDemand_signedSpeed .forward (by omega) d
  · simp only [if_neg hpos, if_pos (show d.transport.demand < 0 by omega)]
    exact setDemand_signedSpeed .reverse (by omega) d

theorem stoppingStep_ends (h : d.transport.demand.natAbs ≤ d.transport.cfg.acceleration) : stoppingStep d = stopEnds d := by
  have hbraked : Machine.braked d = 0 := by
    unfold Machine.braked speedOf
    omega
  exact if_pos hbraked

/-- A stop for the guard ends in HALTED (R43). -/
theorem stopEnds_guard (hm : d.transport.motion = .stopping) (hr : d.transport.stopReason = some .guardStop) :
    InHalt .guardStop (stopEnds d) := by
  unfold stopEnds
  rw [if_pos hr]
  exact (haltRaised_halt .guardStop (d := setDemand 0 d) (by rw [show (setDemand 0 d).transport.motion = _ from hm]; simp)).1

/-- The transport at rest after a stop. -/
def restingTransport (t : Transport) : Transport := { t with motion := .idle, stopReason := none, current := none, demand := 0 }

/-- Any other stop ends in IDLE, where a STOP order is reported STOPPED (R38). -/
theorem stopEnds_idle (hr : d.transport.stopReason ≠ some .guardStop) (hh : d.transport.held = none) :
    (stopEnds d).transport = restingTransport d.transport
      ∧ (stopEnds d).inbox = d.inbox ++ (match d.transport.current with
        | some c => if c.order.kind = .stop then [.orderEnded c.order.owner .stopped true] else []
        | none => []) := by
  unfold stopEnds
  rw [if_neg hr]
  cases hc : d.transport.current with
  | none =>
    dsimp only
    rw [startHeld_none (by exact hh)]
    exact ⟨rfl, (List.append_nil _).symm⟩
  | some c =>
    dsimp only
    by_cases hk : c.order.kind = .stop
    · rw [if_pos hk, if_pos hk, endOrder_current hc, startHeld_none (by exact hh)]
      exact ⟨rfl, rfl⟩
    · rw [if_neg hk, if_neg hk, startHeld_none (by exact hh)]
      exact ⟨rfl, (List.append_nil _).symm⟩

end

/-! ### O28 -/

theorem not_zoneDue {d : Dev} {edge : Int} (h : speedOf d ≤ d.transport.cfg.spliceSpeed
      ∨ (brakingDistance d.transport.cfg.acceleration (speedOf d) : Int)
        - brakingDistance d.transport.cfg.acceleration d.transport.cfg.spliceSpeed < edge - speedOf d) : ¬ ZoneDue d edge := by
  rintro ⟨hfast, hnear⟩
  rcases h with h | h <;> omega

/-- A speed that cruising gives, as the demand in a direction. -/
theorem demand_of_cruise {dir : Direction} {demand : Int} {u v : Nat} (h : demand = signOf dir * (u : Nat)) (hu : u = v) :
    demand = signOf dir * (v : Nat) := hu ▸ h

/-- Settles O28, by the cases of the profile. -/
theorem seekProfileFollowsItsCases : Obligations.SeekProfileFollowsItsCases := by
  refine ⟨fun d c k sign hm hc hk _ hsign hforth => ?_, fun d owner => rfl, fun d c dir hc horder _ hforth => ?_, fun d hm _ => ?_⟩
  · obtain ⟨dir, rfl⟩ := exists_signOf hsign
    intro u a w zone p gap b arrives beyond ahead inside cap hrest
    have h : Seeking d c k dir := ⟨hm, hc, hk, hforth, hrest⟩
    have hcruise := cruise_cases d dir k.cap
    refine ⟨fun ha ⟨target, most, hkind⟩ => ?_, fun start v pitch line stopAt ha hkind => ?_, fun hna hb => ?_, h.demand_away,
      h.demand_slows, fun hna hb hfar hin => demand_of_cruise (h.demand_cruises hna hb hfar) (hcruise.inside hin),
      fun y hy hna hb hfar hout hz hpos hle => ⟨fun hfast hnear => ?_, fun hearly => ?_⟩,
      fun hna hb hfar hout hnone => demand_of_cruise (h.demand_cruises hna hb hfar) (hcruise.clear hout hnone)⟩
    · rw [h.profile_arrives ha, seekArrived_seek hkind, endOrder_current (setSeek_current hc)]
      exact ⟨rfl, rfl, rfl, rfl⟩
    · rw [h.profile_arrives ha, seekArrived_scan hkind]
      obtain ⟨hdemand, hmotion, hinbox, hcurrent⟩ := positioned_facts c start pitch line stopAt (setSeek (counted k) d)
      refine ⟨hdemand, hmotion, hinbox, hcurrent, fun hg harm hstop hp => ?_⟩
      subst hstop
      rw [positioned_ahead (d := setSeek (counted k) d) hkind hg harm hp]
      exact ⟨List.append_assoc _ _ _, rfl⟩
    · rw [h.profile_fails hna hb, failSeek_eq (setSeek_current hc)]
      exact ⟨rfl, rfl, rfl, rfl, rfl⟩
    · exact demand_of_cruise (h.demand_cruises hna hb hfar) (hcruise.slows hout y hy hz hpos hle ⟨hfast, hnear⟩)
    · exact demand_of_cruise (h.demand_cruises hna hb hfar) (hcruise.early hout y hy hz hpos hle (not_zoneDue hearly))
  · have h : Running d c dir := ⟨hc, horder, hforth⟩
    have hcruise := cruise_cases d dir c.speed
    refine ⟨fun hz hu => ?_, h.demand_slows, fun hna hfar hin => demand_of_cruise (h.demand_cruises hna hfar) (hcruise.inside hin),
      fun y hy hna hfar hout hz hpos hle => ⟨fun hfast hnear => ?_, fun hearly => ?_⟩,
      fun hna hfar hout hnone => demand_of_cruise (h.demand_cruises hna hfar) (hcruise.clear hout hnone)⟩
    · rw [h.profile_ends ⟨hz, hu⟩, endOrder_current hc]
      exact ⟨rfl, rfl, rfl, rfl⟩
    · exact demand_of_cruise (h.demand_cruises hna hfar) (hcruise.slows hout y hy hz hpos hle ⟨hfast, hnear⟩)
    · exact demand_of_cruise (h.demand_cruises hna hfar) (hcruise.early hout y hy hz hpos hle (not_zoneDue hearly))
  · refine ⟨fun h => ?_, fun h hr => ?_, fun h hr hh => ?_⟩
    · rw [profile_stopping hm, stoppingStep_brakes h]
    · rw [profile_stopping hm, stoppingStep_ends h]
      exact stopEnds_guard hm hr
    · rw [profile_stopping hm, stoppingStep_ends h]
      exact stopEnds_idle hr hh

end Sys2Proof.Proofs

/-! The millisecond: O27. -/

namespace Sys2Proof.Proofs

open Sys2Proof Sys2Proof.Machine

/-! ### What the profile leaves alone -/

section
variable {d e : Dev}

theorem setDemand_follows {v : Int} (he : e.transport.motion ≠ .halted) (h : Follows d e) : Follows d (setDemand v e) :=
  setTransport_moves he h

theorem setSeek_follows {k : SeekRun} (he : e.transport.motion ≠ .halted) (h : Follows d e) : Follows d (setSeek k e) :=
  setTransport_moves he h

theorem seekArrived_follows {c : CurrentOrder} (he : e.transport.motion ≠ .halted) (h : Follows d e) : Follows d (seekArrived c e) := by
  unfold seekArrived
  split
  next start v pitch line stopAt _ =>
    have hscan : (runPhaseBegun c e).transport.motion ≠ .halted := by exact fun hm => nomatch hm
    have hbegun : Follows d (runPhaseBegun c e) := report_follows (setTransport_moves (by exact fun hm => nomatch hm) (setTransport_moves he h))
    refine checkBase_follows ?_ (armTrigger_follows (fun hm => absurd hm hscan) hbegun)
    rw [(armTrigger_adds _ _ _ _ _ _ _).transport]
    exact hscan
  next => exact endOrder_follows he h

theorem seekStep_follows {c : CurrentOrder} {k : SeekRun} (he : e.transport.motion ≠ .halted) (h : Follows d e) :
    Follows d (seekStep c k e) := by
  have hsought : ∀ k', Follows d (setSeek k' e) := fun _ => setSeek_follows he h
  exact .ite (seekArrived_follows he (hsought _)) (.ite (failSeek_follows he (hsought _)) (.ite (setDemand_follows he (hsought _))
    (.ite (setDemand_follows he (hsought _)) (setDemand_follows he (hsought _)))))

theorem runStep_follows {dir : Direction} {v : Nat} (he : e.transport.motion ≠ .halted) (h : Follows d e) :
    Follows d (runStep dir v e) :=
  .ite (setDemand_follows he h) (.ite (endOrder_follows he h) (.ite (setDemand_follows he h) (setDemand_follows he h)))

theorem endOrder_motion (o : OrderOutcome) (d : Dev) : (endOrder o d).transport.motion = .idle := by
  unfold endOrder
  split <;> rfl

theorem stoppingStep_follows (he : e.transport.motion ≠ .halted) (h : Follows d e) : Follows d (stoppingStep e) := by
  have hended : Follows d (stopEnds e) := by
    refine .ite (halt_follows (setDemand_follows he h)) ?_
    split
    next c _ =>
      have hidle : (if c.order.kind = .stop then endOrder .stopped e else becomeIdle e).transport.motion ≠ .halted := by
        split
        · rw [endOrder_motion]
          exact fun hm => nomatch hm
        · exact fun hm => nomatch hm
      exact startHeld_follows hidle (.ite (endOrder_follows he h) (becomeIdle_follows he h))
    next => exact startHeld_follows (by exact fun hm => nomatch hm) (becomeIdle_follows he h)
  refine .ite hended ?_
  split
  · exact setDemand_follows he h
  · exact h

/-- One millisecond of the profile leaves the inputs and the film, and clears no event flag. -/
theorem profile_follows (d : Dev) : Follows d (profile d) := by
  unfold profile
  split
  next hm _ =>
    split
    · exact seekStep_follows (by simp [hm]) (.refl d)
    · exact .refl d
  next hm _ =>
    split
    · exact runStep_follows (by simp [hm]) (.refl d)
    · exact .refl d
  next hm _ => exact runStep_follows (by simp [hm]) (.refl d)
  next hm _ => exact runStep_follows (by simp [hm]) (.refl d)
  next hm => exact stoppingStep_follows (by simp [hm]) (.refl d)
  next => exact .refl d

/-- A transport that is not moving and not STOPPING has no profile (Table 2-1). -/
theorem profile_at_rest (h : d.transport.motion = .idle ∨ d.transport.motion = .parked ∨ d.transport.motion = .retensioning
    ∨ d.transport.motion = .halted) : profile d = d := by
  unfold profile
  rcases h with h | h | h | h <;> rw [h]

end

/-! ### What a seek counts -/

section
variable {d : Dev} {c : CurrentOrder} {k : SeekRun}

/-- An arrived seek is no seek any more. -/
theorem seekArrived_current {e : Dev} {c' : CurrentOrder} (h : (seekArrived c e).transport.current = some c') : c'.seek = none := by
  unfold seekArrived at h
  split at h
  next start _ pitch line stopAt _ =>
    obtain ⟨-, -, -, c'', hc'', -, hseek, -⟩ := positioned_facts c start pitch line stopAt e
    exact Option.some.inj (hc''.symm.trans h) ▸ hseek
  next =>
    unfold endOrder at h
    split at h <;> exact nomatch h

theorem setDemand_setSeek_current {x : SeekRun} {v : Int} {c' : CurrentOrder} {k' : SeekRun} (hc : d.transport.current = some c)
    (h : (setDemand v (setSeek x d)).transport.current = some c') (hk : c'.seek = some k') : c'.order = c.order ∧ k' = x := by
  obtain rfl := Option.some.inj ((setSeek_current hc).symm.trans h)
  exact ⟨rfl, (Option.some.inj hk).symm⟩

/-- The film moves away from the seek's target (R32 case 1). -/
def Away (d : Dev) (k : SeekRun) : Prop :=
  (0 < d.transport.demand ∧ k.target < d.metering.counter) ∨ (d.transport.demand < 0 ∧ d.metering.counter < k.target)

theorem movingAway_iff_away (d : Dev) (k : SeekRun) : movingAway d (k.target - d.metering.counter) = true ↔ Away d k := by
  simp only [movingAway, decide_eq_true_eq, Away]
  omega

theorem braked_eq_zero_iff (d : Dev) : Machine.braked d = 0 ↔ d.transport.demand.natAbs ≤ d.transport.cfg.acceleration := by
  unfold Machine.braked speedOf
  omega

/-- A seek that goes on has counted a millisecond, and a reversal when it comes to rest on its way away from the target (R32, R34). -/
theorem seekStep_counts {c' : CurrentOrder} {k' : SeekRun} (hc : d.transport.current = some c)
    (h : (seekStep c k d).transport.current = some c') (hk : c'.seek = some k') :
    c'.order = c.order ∧ (Away d k → d.transport.demand.natAbs ≤ d.transport.cfg.acceleration →
        k' = { counted k with reversals := k.reversals + 1 })
      ∧ (¬ (Away d k ∧ d.transport.demand.natAbs ≤ d.transport.cfg.acceleration) → k' = counted k) := by
  unfold seekStep at h
  dsimp only at h
  split at h
  next => exact nomatch (seekArrived_current h).symm.trans hk
  split at h
  next =>
    rw [failSeek_eq (setSeek_current hc)] at h
    exact nomatch h
  split at h
  next haway =>
    obtain ⟨horder, hrun⟩ := setDemand_setSeek_current hc h hk
    refine ⟨horder, fun _ hrest => ?_, fun hnot => ?_⟩
    · rw [hrun, if_pos ((braked_eq_zero_iff d).2 hrest)]
      rfl
    · rw [hrun, if_neg fun hrest => hnot ⟨(movingAway_iff_away d k).1 haway, (braked_eq_zero_iff d).1 hrest⟩]
      rfl
  next hforth =>
    have hforth' : ¬ Away d k := fun ha => hforth ((movingAway_iff_away d k).2 ha)
    have hcounted : c'.order = c.order ∧ k' = counted k := by
      split at h
      next => exact setDemand_setSeek_current hc h hk
      next => exact setDemand_setSeek_current hc h hk
    exact ⟨hcounted.1, fun ha => absurd ha hforth', fun _ => hcounted.2⟩

end

/-! ### The millisecond as a whole -/

section
variable {d : Dev}

/-- A millisecond up to its drive frame (R23, R24). -/
def millisecondWork (pins : PinSample) (d : Dev) : Dev :=
  if pins.driveFault then settle (halt .drive (tickTimers (samplePins pins d))) else settle (profile (tickTimers (samplePins pins d)))

theorem tickTimers_inputs (d : Dev) : (tickTimers d).inputs = d.inputs := by
  unfold tickTimers stopParkTimer
  dsimp only
  split <;> rfl

theorem tickTimers_time (d : Dev) : (tickTimers d).time = d.time + 1 := by
  unfold tickTimers stopParkTimer
  dsimp only
  split <;> rfl

theorem millisecond_eq (pins : PinSample) (d : Dev) : millisecond pins d = sendFrame (millisecondWork pins d) := by
  have hfault : (tickTimers (samplePins pins d)).inputs.driveFault = pins.driveFault := by
    rw [tickTimers_inputs]
    rfl
  unfold millisecond millisecondWork
  dsimp only
  rw [hfault]
  cases pins.driveFault <;> rfl

theorem millisecondWork_follows (pins : PinSample) (d : Dev) : Follows (tickTimers (samplePins pins d)) (millisecondWork pins d) :=
  .ite (settle_follows (halt_follows (.refl _))) (settle_follows (profile_follows _))

theorem millisecondWork_time (pins : PinSample) (d : Dev) : (millisecondWork pins d).time = d.time + 1 := by
  have hkeeps : Keeps (tickTimers (samplePins pins d)) (millisecondWork pins d) :=
    .ite (settle_keeps (halt_keeps (.refl _))) (settle_keeps (profile_keeps (.refl _)))
  exact (metering_of_encoderClock hkeeps.clock).1.trans (tickTimers_time _)

/-- A halt leaves the transport HALTED, whatever it was. -/
theorem halt_motion (cause : HaltCause) (d : Dev) : (halt cause d).transport.motion = .halted := by
  by_cases hd : d.transport.motion = .halted
  · rw [halt_of_halted cause d hd, hd]
  · exact (haltRaised_halt cause hd).1.1

theorem millisecondWork_halts {pins : PinSample} (hf : pins.driveFault = true) (d : Dev) :
    (millisecondWork pins d).transport.motion = .halted := by
  unfold millisecondWork
  rw [if_pos hf]
  exact (settle_follows (.refl _)).motion (halt_motion _ _)

theorem exec_profileStep (pins : PinSample) (s : State) :
    exec (.profileStep pins) s = .next (s.setDev (sendFrame (millisecondWork pins s.dev))) :=
  congrArg (fun d => Host.Outcome.next (s.setDev d)) (millisecond_eq pins s.dev)

/-! ### The timers of a millisecond -/

theorem ticks_iff (gate : Bool) (due : Option Nat) : ¬ (gate = true ∨ due.isSome = true) ↔ gate = false ∧ due = none := by
  simp

theorem moveTick_eq (gate : Bool) (m : MoveRecord) :
    moveTick gate m = { m with elapsed := if gate = false ∧ m.settledAt = none then m.elapsed + 1 else m.elapsed } := by
  by_cases h : gate = true ∨ m.settledAt.isSome = true
  · rw [if_neg fun ht => (ticks_iff _ _).2 ht h]
    exact if_pos h
  · rw [if_pos ((ticks_iff _ _).1 h)]
    exact if_neg h

theorem homingTick_eq (gate : Bool) (h : Homing) :
    homingTick gate h = { h with elapsed := if gate = false ∧ h.settledAt = none then h.elapsed + 1 else h.elapsed } := by
  by_cases hw : gate = true ∨ h.settledAt.isSome = true
  · rw [if_neg fun ht => (ticks_iff _ _).2 ht hw]
    exact if_pos hw
  · rw [if_pos ((ticks_iff _ _).1 hw)]
    exact if_neg hw

theorem ageTick_eq (r : RetrievalRequest) : ageTick r = { r with age := if r.state = .deferred then r.age + 1 else r.age } := by
  unfold ageTick
  split <;> rfl

theorem parkConditions_iff (d : Dev) :
    parkConditions d = true ↔ d.transport.motion = .idle ∧ d.transport.grant = .nobody ∧ d.roll.state ≠ .noRoll := by
  simp [parkConditions, and_assoc]

/-- The park timer counts while its conditions hold and is 0 otherwise (R40). -/
theorem parkTimer_tick (d : Dev) :
    (if parkConditions d then d.setTransport { d.transport with parkTimer := d.transport.parkTimer + 1 } else stopParkTimer d)
      = d.setTransport { d.transport with
        parkTimer := if d.transport.motion = .idle ∧ d.transport.grant = .nobody ∧ d.roll.state ≠ .noRoll
          then d.transport.parkTimer + 1 else 0 } := by
  by_cases hp : parkConditions d = true
  · rw [if_pos hp, if_pos ((parkConditions_iff d).1 hp)]
  · rw [if_neg hp, if_neg fun h => hp ((parkConditions_iff d).2 h)]
    exact if_neg hp

end

/-- Settles O27: the work of the millisecond, then its frame. -/
theorem millisecondSendsTheFrame : Obligations.MillisecondSendsTheFrame := by
  refine ⟨fun s pins => ?_, fun s pins => ?_, fun d c c' k k' hm hc hk hc' hk' => ?_, fun d h => profile_at_rest h⟩
  · have hinputs : (millisecondWork pins s.dev).inputs = (samplePins pins s.dev).inputs :=
      (millisecondWork_follows pins s.dev).inputs.trans (tickTimers_inputs _)
    exact ⟨_, exec_profileStep pins s, rfl, millisecondWork_time pins s.dev, congrArg (·.driveFault) hinputs,
      congrArg (·.driveReady) hinputs, congrArg (·.lensHome) hinputs, rfl, fun hf => millisecondWork_halts hf s.dev⟩
  · intro framed parks e
    have he : tickTimers (samplePins pins s.dev) = e := by
      unfold tickTimers
      simp only [parkTimer_tick, funext ageTick_eq, funext (moveTick_eq _), funext (homingTick_eq _)]
      rfl
    rw [exec_profileStep, millisecondWork, he]
    exact ⟨fun hf => by rw [hf]; rfl, fun hf => by rw [hf]; rfl⟩
  · rw [profile_seek hm hc hk] at hc'
    obtain ⟨horder, hreverses, hcounts⟩ := seekStep_counts hc hc' hk'
    refine ⟨horder, ?_⟩
    by_cases ha : Away d k ∧ d.transport.demand.natAbs ≤ d.transport.cfg.acceleration
    · rw [hreverses ha.1 ha.2]
      exact congrArg (fun n => { k with elapsed := k.elapsed + 1, reversals := n }) (if_pos ha).symm
    · rw [hcounts ha]
      exact congrArg (fun n => { k with elapsed := k.elapsed + 1, reversals := n }) (if_neg ha).symm

end Sys2Proof.Proofs

/-! The slots of the guard unit and the requests that write them: O30, O31 and O32. -/

namespace Sys2Proof.Proofs

open Sys2Proof Sys2Proof.Machine

/-! ### One guard slot of the four -/

section
variable (g : Guard) (n : Fin 4) (x y : GuardSlot)

@[simp] theorem get_put_same : (g.put n x).get n = x := by
  match n with
  | 0 | 1 | 2 | 3 => rfl

theorem get_put_of_ne {m : Fin 4} (h : m ≠ n) : (g.put n x).get m = g.get m := by
  match n, m with
  | 0, 0 | 1, 1 | 2, 2 | 3, 3 => exact absurd rfl h
  | 0, 1 | 0, 2 | 0, 3 | 1, 0 | 1, 2 | 1, 3 | 2, 0 | 2, 1 | 2, 3 | 3, 0 | 3, 1 | 3, 2 => rfl

@[simp] theorem put_put : (g.put n x).put n y = g.put n y := by
  match n with
  | 0 | 1 | 2 | 3 => rfl

@[simp] theorem put_bus : (g.put n x).bus = g.bus := by
  match n with
  | 0 | 1 | 2 | 3 => rfl

@[simp] theorem put_busSpeed : (g.put n x).busSpeed = g.busSpeed := by
  match n with
  | 0 | 1 | 2 | 3 => rfl

@[simp] theorem put_script : (g.put n x).script = g.script := by
  match n with
  | 0 | 1 | 2 | 3 => rfl

@[simp] theorem put_stopCondition : (g.put n x).stopCondition = g.stopCondition := by
  match n with
  | 0 | 1 | 2 | 3 => rfl

@[simp] theorem mem_slots_iff : x ∈ g.slots ↔ ∃ n, g.get n = x := by
  simp [Guard.slots, Guard.get, Fin.exists_fin_succ, eq_comm]

end

theorem slots_any_iff (g : Guard) (p : GuardSlot → Bool) : g.slots.any p = true ↔ ∃ n, p (g.get n) = true := by
  simp [List.any_eq_true, mem_slots_iff]

theorem slots_all_iff (g : Guard) (p : GuardSlot → Bool) : g.slots.all p = true ↔ ∀ n, p (g.get n) = true := by
  simp [List.all_eq_true, mem_slots_iff]

/-! ### One slot of the device rewritten -/

theorem modifySlot_eq (n : Fin 4) (f : GuardSlot → GuardSlot) (d : Dev) :
    modifySlot n f d = d.setGuard (d.guard.put n (f (d.guard.get n))) := rfl

@[simp] theorem modifySlot_modifySlot (n : Fin 4) (f g : GuardSlot → GuardSlot) (d : Dev) :
    modifySlot n f (modifySlot n g d) = modifySlot n (fun x => f (g x)) d := by
  simp [modifySlot_eq]

@[simp]
theorem modifySlot_get (n : Fin 4) (f : GuardSlot → GuardSlot) (d : Dev) : (modifySlot n f d).guard.get n = f (d.guard.get n) := by
  simp [modifySlot_eq]

/-- A slot started (R51, R52). -/
theorem startSlot_eq (n : Fin 4) (d : Dev) :
    startSlot n d = modifySlot n (fun x =>
      { startedSlot d.time x with state := .init, waitEnd := some (d.time + x.record.preInitWait) }) d :=
  modifySlot_modifySlot n (fun x => { x with state := .init, waitEnd := some (d.time + x.record.preInitWait) }) (startedSlot d.time) d

/-! ### SLOT_CONFIG -/

section
variable {p : List Byte} {d : Dev} {n : Fin 4}

theorem slotOf_eq (h : natAt p 0 1 = n.val) : slotOf (natAt p 0 1) = some n := by
  rw [h]
  exact dif_pos n.isLt

theorem slotOf_none {k : Nat} (h : 3 < k) : slotOf k = none := dif_neg (by omega)

theorem yesNoOf_none {k : Nat} (h : 1 < k) : yesNoOf k = none := by
  match k with
  | 0 | 1 => omega
  | _ + 2 => rfl

theorem answerSlotConfig_badField (hp : 24 ≤ p.length) (h : 3 < natAt p 0 1 ∨ 1 < natAt p 1 1) :
    answerSlotConfig p d = refuse .badValue d := by
  refine (if_neg (Nat.not_lt.2 hp)).trans ?_
  rcases h with h | h
  · rw [slotOf_none h]
  · rw [yesNoOf_none h]
    cases slotOf (natAt p 0 1) <;> rfl

theorem answerSlotConfig_notOff (hp : 24 ≤ p.length) (hn : natAt p 0 1 = n.val) (he : natAt p 1 1 = 1)
    (hs : (d.guard.get n).state ≠ .off) : answerSlotConfig p d = refuse .state d := by
  refine (if_neg (Nat.not_lt.2 hp)).trans ?_
  rw [slotOf_eq hn, he]
  exact if_pos hs

theorem answerSlotConfig_badRecord (hp : 24 ≤ p.length) (hn : natAt p 0 1 = n.val) (he : natAt p 1 1 = 1)
    (hs : (d.guard.get n).state = .off) (hr : slotRecordOf (p.drop 1) = none) : answerSlotConfig p d = refuse .badValue d := by
  refine (if_neg (Nat.not_lt.2 hp)).trans ?_
  rw [slotOf_eq hn, he, hr]
  exact if_neg (not_not.2 hs)

theorem answerSlotConfig_starts {r : SlotRecord} (hp : 24 ≤ p.length) (hn : natAt p 0 1 = n.val) (he : natAt p 1 1 = 1)
    (hs : (d.guard.get n).state = .off) (hr : slotRecordOf (p.drop 1) = some r) :
    answerSlotConfig p d = taken .ok [] (startWith n r d) := by
  refine (if_neg (Nat.not_lt.2 hp)).trans ?_
  rw [slotOf_eq hn, he, hr]
  exact if_neg (not_not.2 hs)

theorem answerSlotConfig_disable (hp : 24 ≤ p.length) (hn : natAt p 0 1 = n.val) (he : natAt p 1 1 = 0) :
    answerSlotConfig p d = taken .ok [] (disableSlot n d) := by
  refine (if_neg (Nat.not_lt.2 hp)).trans ?_
  rw [slotOf_eq hn, he]
  rfl

end

theorem exec_slotConfigEnable {s : State} (tag : Byte) {p : List Byte} (x : List Byte) (ht : takes s .service p) :
    exec (.slotConfigEnable .service (requestFrame tag p x)) s
      = nextAnswer s tag (answerSlotConfig p (heard .service (requestFrame tag p x) s)) :=
  takeFrame_takes .slotConfig .service tag p x answerSlotConfig s ht rfl

theorem exec_slotConfigDisable {s : State} (tag : Byte) {p : List Byte} (x : List Byte) (ht : takes s .service p) :
    exec (.slotConfigDisable .service (requestFrame tag p x)) s
      = nextAnswer s tag (answerSlotConfig p (heard .service (requestFrame tag p x) s)) :=
  takeFrame_takes .slotConfig .service tag p x answerSlotConfig s ht rfl

/-- A slot started with a record (R49, R51): every field of the slot is written. -/
theorem startWith_eq (n : Fin 4) (r : SlotRecord) (d : Dev) :
    startWith n r d = recomputeGuard (d.setGuard (d.guard.put n
      { record := r, state := .init, trip := .clear, runCount := 0, lastSample := none
        nextDue := if r.powerMode = .periodic then some (d.time + r.period) else none
        pollInProgress := true, attempts := 0, origin := d.time, waitEnd := some (d.time + r.preInitWait)
        wants := none })) := by
  unfold startWith
  rw [startSlot_eq, modifySlot_modifySlot]
  rfl

/-- Settles O30, by the order of the checks in the answer. -/
theorem slotConfigStartsTheSlot : Obligations.SlotConfigStartsTheSlot := by
  refine ⟨fun s tag p x ht hp hbad => ?_, fun s tag p x n ht hp hn he => ?_⟩
  · rw [exec_slotConfigEnable tag x ht, answerSlotConfig_badField hp hbad]
    rfl
  · intro d
    have hexec : exec (.slotConfigEnable .service (requestFrame tag p x)) s = nextAnswer s tag (answerSlotConfig p d) :=
      exec_slotConfigEnable tag x ht
    refine ⟨fun hs => ?_, fun hs hr => ?_, fun r hs hr => ?_⟩
    · rw [hexec, answerSlotConfig_notOff (d := d) hp hn he hs]
      rfl
    · rw [hexec, answerSlotConfig_badRecord (d := d) hp hn he hs hr]
      rfl
    · rw [hexec, answerSlotConfig_starts (d := d) hp hn he hs hr, startWith_eq]
      rfl

/-! ### A slot stopped or restarted -/

theorem disableSlot_off {n : Fin 4} {d : Dev} (h : (d.guard.get n).state = .off) :
    disableSlot n d = modifySlot n (fun x => { x with record := { x.record with enabled := false } }) d := if_pos h

theorem disableSlot_on {n : Fin 4} {d : Dev} (h : (d.guard.get n).state ≠ .off) :
    disableSlot n d = recomputeGuard (d.setGuard
      { d.guard.put n
          { d.guard.get n with
            record := { (d.guard.get n).record with enabled := false }
            state := .off, trip := .clear, runCount := 0, nextDue := none, pollInProgress := false, attempts := 0
            waitEnd := none, wants := none } with
        bus := d.guard.bus.map fun b => if b.slot = n then { b with discarded := true } else b }) := by
  refine (if_neg h).trans ?_
  simp [modifySlot_eq]

theorem exec_slotRestart {s : State} (tag : Byte) {p : List Byte} (x : List Byte) (ht : takes s .service p) :
    exec (.slotRestart .service (requestFrame tag p x)) s
      = nextAnswer s tag (answerSlotRestart p (heard .service (requestFrame tag p x) s)) :=
  takeFrame_takes .slotRestart .service tag p x answerSlotRestart s ht rfl

theorem answerSlotRestart_eq {p : List Byte} {n : Fin 4} (d : Dev) (hp : 1 ≤ p.length) (hn : natAt p 0 1 = n.val) :
    answerSlotRestart p d =
      if (d.guard.get n).state = .faulted then taken .ok [] (recomputeGuard (startSlot n d)) else refuse .state d := by
  refine (if_neg (Nat.not_lt.2 hp)).trans ?_
  rw [slotOf_eq hn]

/-- Settles O31, by the state of the slot. -/
theorem slotsStopAndRestart : Obligations.SlotsStopAndRestart := by
  refine ⟨fun s tag p x n ht hp hn he hs => ?_, fun s tag p x n ht hp hn => ⟨fun hf => ?_, fun hf => ?_⟩⟩
  · intro d slot
    rw [exec_slotConfigDisable tag x ht, answerSlotConfig_disable hp hn he]
    refine ⟨fun hoff => ?_, fun hon => ?_⟩
    · have hd : Settled (modifySlot n (fun y => { y with record := { y.record with enabled := false } }) d) :=
        (settled_setGuard d _).2 ((settled_heard .service _ s).2 hs)
      rw [disableSlot_off hoff]
      exact congrArg (fun e => Host.Outcome.next (answers s .service tag .ok [] e)) (settle_of_settled _ hd)
    · rw [disableSlot_on hon]
      rfl
  · rw [exec_slotRestart tag x ht, answerSlotRestart_eq _ hp hn, if_neg hf]
    rfl
  · rw [exec_slotRestart tag x ht, answerSlotRestart_eq _ hp hn, if_pos hf, startSlot_eq]
    rfl

/-! ### SCRIPT_WRITE -/

theorem exec_scriptWrite {s : State} (tag : Byte) {p : List Byte} (x : List Byte) (ht : takes s .service p) :
    exec (.scriptWrite .service (requestFrame tag p x)) s
      = nextAnswer s tag (answerScriptWrite p (heard .service (requestFrame tag p x) s)) :=
  takeFrame_takes .scriptWrite .service tag p x answerScriptWrite s ht rfl

/-- A SCRIPT_WRITE of a whole chunk is refused while a slot is in INIT, and stored otherwise (R64). -/
theorem answerScriptWrite_eq {p : List Byte} {c : Nat} (d : Dev) (hc : natAt p 1 1 = c) (h1 : 1 ≤ c) (h56 : c ≤ 56)
    (hp : 2 + c ≤ p.length) :
    answerScriptWrite p d =
      if ∃ n, (d.guard.get n).state = .init then refuse .state d
      else answered [] (d.setGuard
        { d.guard with script := Memory.store d.guard.script (natAt p 0 1) ((p.drop 2).take c) }) := by
  have hok : scriptCountOk c = true := decide_eq_true ⟨h1, h56⟩
  have hinit : (d.guard.slots.any (fun x => x.state == SlotState.init) = true) = ∃ n, (d.guard.get n).state = .init := by
    simp only [slots_any_iff, beq_iff_eq]
  refine (if_neg (by omega)).trans ?_
  simp only [hc, hok, hinit, Nat.not_lt.2 hp, and_false, if_false, Bool.true_eq_false]

/-- Settles O32, by what a store leaves at every address. -/
theorem scriptWriteStoresItsBytes : Obligations.ScriptWriteStoresItsBytes := by
  intro s tag p x offset c ht ho hc h1 h56 hp hw d
  have hexec : exec (.scriptWrite .service (requestFrame tag p x)) s = nextAnswer s tag (answerScriptWrite p d) :=
    exec_scriptWrite tag x ht
  have hlen : ((p.drop 2).take c).length = c := by
    rw [List.length_take, List.length_drop]
    omega
  refine ⟨fun hinit => ⟨Memory.store s.dev.guard.script offset ((p.drop 2).take c), ?_, Memory.store_wf hw _ _, ?_, ?_⟩, fun hinit => ?_⟩
  · rw [hexec, answerScriptWrite_eq d hc h1 h56 hp, ho, if_neg (fun ⟨n, hn⟩ => hinit n hn)]
    rfl
  · intro j b hj hb
    refine Memory.read_store hw offset _ (by rw [hlen]; simp only [Config.scriptBytes]; omega) j b ?_
    rw [List.getElem?_take_of_lt hj, List.getElem?_drop, hb]
  · intro a ha
    refine Memory.read_store_other hw offset _ a fun j hj => ha j ?_
    rwa [hlen] at hj
  · rw [hexec, answerScriptWrite_eq d hc h1 h56 hp]
    exact congrArg (nextAnswer s tag) (if_pos hinit)

end Sys2Proof.Proofs

/-! The guard unit through the chain of reactions: no reaction of another block writes it (R60, R61). -/

namespace Sys2Proof.Proofs

open Sys2Proof Sys2Proof.Machine

section
variable (d : Dev)

/-! ### Events, reports, the roll and the lens -/

@[simp] theorem modifyRun_guard (g : RunRecord → RunRecord) : (modifyRun g d).guard = d.guard := rfl
@[simp] theorem raise_guard (id : PortId) (k : EventKind) : (raise id k d).guard = d.guard := rfl
@[simp] theorem report_guard (r : Report) : (report r d).guard = d.guard := rfl
@[simp] theorem setLens_guard (l : Lens) : (setLens l d).guard = d.guard := rfl
@[simp] theorem noteLensMoved_guard : (noteLensMoved d).guard = d.guard := rfl
@[simp] theorem markEntry_guard (n : Nat) (v : Bool) : (markEntry n v d).guard = d.guard := rfl

@[simp] theorem setRunState_guard (st : RunState) : (setRunState st d).guard = d.guard := by
  unfold setRunState
  split
  · rfl
  · split <;> rfl

@[simp] theorem applyPending_guard : (applyPending d).guard = d.guard := by
  unfold applyPending
  split <;> rfl

theorem driftReport_guard (n : Nat) (delta : Int) : (driftReport n delta d).2.guard = d.guard := by
  grind [driftReport, applyPending_guard, markEntry_guard, Dev.setRoll_guard, raise_guard]

theorem lensRest_guard : (lensRest d).guard = d.guard := by grind [lensRest, raise_guard, setLens_guard]

theorem beginSettle_guard (m : MoveRecord) : (beginSettle m d).guard = d.guard := by
  grind [beginSettle, lensRest_guard, setLens_guard]

theorem moveRequest_guard (target : Nat) (req : Requester) : (moveRequest target req d).2.guard = d.guard := by
  grind [moveRequest, beginSettle_guard, setLens_guard, noteLensMoved_guard, report_guard]

/-! ### Line triggers -/

theorem pushNotice_guard (n : Notice) : (pushNotice n d).guard = d.guard := by
  grind [pushNotice, raise_guard, Dev.setScan_guard]
theorem setGate_guard (on : Bool) : (setGate on d).guard = d.guard := rfl
theorem dropRecentMarks_guard : (dropRecentMarks d).guard = d.guard := rfl
theorem detectorIdle_guard : (detectorIdle d).guard = d.guard := rfl

theorem truncateOpen_guard : (truncateOpen d).guard = d.guard := by
  grind [truncateOpen, dropRecentMarks_guard, pushNotice_guard, setGate_guard]

theorem handOnFrame_guard (atClose : Bool) : (handOnFrame atClose d).guard = d.guard := by
  grind [handOnFrame, truncateOpen_guard]

theorem discardArm_guard : (discardArm d).guard = d.guard := rfl
theorem dropBoundary_guard : (dropBoundary d).guard = d.guard := rfl

theorem saveLine_guard (a : Arm) : (saveLine a d).guard = d.guard := by grind [saveLine, modifyRun_guard]

theorem disarm_guard (why : DisarmCause) (atClose : Bool) : (disarm why atClose d).guard = d.guard := by
  cases h : d.trigger.arm with
  | none => rw [disarm_of_unarmed why atClose d h]
  | some a =>
    rw [disarm_armed why atClose h, report_guard, applyPending_guard, disarmSteps, dropBoundary_guard, saveLine_guard, discardArm_guard,
      handOnFrame_guard]

theorem triggerDue_guard (a : Arm) : (triggerDue a d).guard = d.guard := by
  unfold triggerDue
  split
  · rw [disarm_guard]
  · rfl

theorem armTrigger_guard (owner : Owner) (mode : ArmMode) (base : Int) (pitch : Nat) (stopAt : Option Int) (line : Nat) :
    (armTrigger owner mode base pitch stopAt line d).guard = d.guard := by
  grind [armTrigger, disarm_guard, triggerDue_guard, report_guard, Dev.setTrigger_guard]

/-! ### The grant and the orders -/

theorem dropGrant_guard : (dropGrant d).guard = d.guard := by grind [dropGrant, disarm_guard, Dev.setTransport_guard]
theorem releaseGrant_guard (o : Owner) : (releaseGrant o d).guard = d.guard := by
  grind [releaseGrant, dropGrant_guard, Dev.setTransport_guard]
theorem giveGrant_guard (o : Owner) : (giveGrant o d).guard = d.guard := by grind [giveGrant, Dev.setTransport_guard]

theorem beginOrder_guard (o : Order) (m : MotionState) (k : Option SeekRun) (v : Nat) : (beginOrder o m k v d).guard = d.guard :=
  rfl

theorem startOrder_guard (o : Order) : (startOrder o d).guard = d.guard := by
  grind [startOrder, beginOrder_guard, report_guard]

@[simp] theorem enterStopping_guard (r : StopReason) (c : Option CurrentOrder) : (enterStopping r c d).guard = d.guard := rfl

theorem giveStop_guard (o : Owner) : (giveStop o d).guard = d.guard := by
  grind [giveStop, enterStopping_guard, report_guard, Dev.setTransport_guard]

theorem stopIfRunning_guard (o : Owner) : (stopIfRunning o d).guard = d.guard := by
  grind [stopIfRunning, giveStop_guard]

theorem giveOrder_guard (o : Order) : (giveOrder o d).guard = d.guard := by
  grind [giveOrder, giveStop_guard, startOrder_guard, report_guard, Dev.setTransport_guard]

/-! ### The focus search -/

theorem closeSearchMotion_guard (who : SearchOwner) : (closeSearchMotion who d).guard = d.guard := by
  grind [closeSearchMotion, disarm_guard, giveStop_guard]

theorem recordOutcome_guard (who : SearchOwner) (o : FocusOutcome) (b : Option (Nat × Nat)) : (recordOutcome who o b d).guard = d.guard :=
  rfl

theorem leaveToRun_guard (b : Bool) (best : Option (Nat × Nat)) (n : Nat) : (leaveToRun b best n d).guard = d.guard := by
  grind [leaveToRun, Dev.setFocus_guard]

theorem endSearch_guard (lost : Bool) : (endSearch lost d).guard = d.guard := by
  grind [endSearch, closeSearchMotion_guard, recordOutcome_guard, moveRequest_guard, leaveToRun_guard, releaseGrant_guard, report_guard]

theorem abandonSearch_guard : (abandonSearch d).guard = d.guard := by
  grind [abandonSearch, closeSearchMotion_guard, recordOutcome_guard, releaseGrant_guard]

theorem beginProbeWindow_guard : (beginProbeWindow d).guard = d.guard := rfl

theorem probeAt_guard (c : Nat) : (probeAt c d).guard = d.guard := by
  grind [probeAt, moveRequest_guard, endSearch_guard, beginProbeWindow_guard, Dev.setFocus_guard]

theorem beginSearch_guard (who : SearchOwner) : (beginSearch who d).guard = d.guard := by
  grind [beginSearch, endSearch_guard, giveOrder_guard, probeAt_guard, armTrigger_guard, Dev.setFocus_guard]

/-! ### The scan run controller -/

theorem setRunCause_guard (c : RunCause) : (setRunCause c d).guard = d.guard := rfl

theorem endRun_guard : (endRun d).guard = d.guard := by
  grind [endRun, setRunState_guard, modifyRun_guard, Dev.setFocus_guard, Dev.setDetector_guard]

theorem beginEnding_guard (c : RunCause) : (beginEnding c d).guard = d.guard := by
  grind [beginEnding, setRunState_guard, setRunCause_guard]
theorem endAtDisarm_guard (c : RunCause) : (endAtDisarm c d).guard = d.guard := by
  grind [endAtDisarm, beginEnding_guard, giveStop_guard]

theorem endAtLimit_guard : (endAtLimit d).guard = d.guard := by
  grind [endAtLimit, endRun_guard, setRunCause_guard, releaseGrant_guard, disarm_guard]

theorem finishEnding_guard : (finishEnding d).guard = d.guard := by
  grind [finishEnding, endRun_guard, releaseGrant_guard]
theorem finishReturn_guard (t : TrackContext) : (finishReturn t d).guard = d.guard := rfl
theorem pauseTrack_guard : (pauseTrack d).guard = d.guard := by
  grind [pauseTrack, finishReturn_guard, Dev.setFocus_guard]

theorem suspendRun_guard (c : RunCause) (b : Bool) : (suspendRun c b d).guard = d.guard := by
  grind [suspendRun, setRunState_guard, modifyRun_guard]

theorem beginSuspending_guard (c : RunCause) : (beginSuspending c d).guard = d.guard := by
  grind [beginSuspending, setRunState_guard, setRunCause_guard]

theorem failPreparation_guard : (failPreparation d).guard = d.guard := by
  grind [failPreparation, suspendRun_guard, modifyRun_guard, releaseGrant_guard, disarm_guard]

theorem cutPreparation_guard (c : RunCause) (b : Bool) : (cutPreparation c b d).guard = d.guard := by
  grind [cutPreparation, suspendRun_guard, modifyRun_guard, releaseGrant_guard, stopIfRunning_guard, disarm_guard, abandonSearch_guard]

theorem giveScanOrder_guard : (giveScanOrder d).guard = d.guard := by
  grind [giveScanOrder, giveOrder_guard, modifyRun_guard]

theorem startPreparation_guard : (startPreparation d).guard = d.guard := by
  grind [startPreparation, setRunState_guard, modifyRun_guard, giveOrder_guard, giveScanOrder_guard]

theorem loseTrack_guard : (loseTrack d).guard = d.guard := rfl

theorem restoreLens_guard : (restoreLens d).guard = d.guard := by
  grind [restoreLens, moveRequest_guard, loseTrack_guard, Dev.setFocus_guard]

theorem startDetector_guard (st : ResumeState) (r : RunRecord) : (startDetector st r d).guard = d.guard := rfl

theorem detectorUnderArm_guard : (detectorUnderArm d).guard = d.guard := by
  grind [detectorUnderArm, detectorIdle_guard, truncateOpen_guard]

theorem runReachesBase_guard : (runReachesBase d).guard = d.guard := by
  grind [runReachesBase, modifyRun_guard, detectorUnderArm_guard, startDetector_guard, setRunState_guard]

theorem scanReport_guard (o : OrderOutcome) : (scanReport o d).guard = d.guard := by
  unfold scanReport
  split
  · rfl
  · split
    · rfl
    · rw [beginSearch_guard, modifyRun_guard]
    · exact failPreparation_guard d
    · exact endSearch_guard d _
    · exact endSearch_guard d _
    · exact endAtLimit_guard d
    · exact failPreparation_guard d
    · exact endAtLimit_guard d
    · exact endAtLimit_guard d
    · rfl

theorem searchHandedBack_guard : (searchHandedBack d).guard = d.guard := by
  grind [searchHandedBack, giveScanOrder_guard]
theorem haltRecordsBoundary_guard : (haltRecordsBoundary d).guard = d.guard := by
  grind [haltRecordsBoundary, modifyRun_guard]

theorem scanOnHalt_guard : (scanOnHalt d).guard = d.guard := by
  grind [scanOnHalt, pauseTrack_guard, suspendRun_guard, modifyRun_guard, endRun_guard]

/-! ### The retrieval scheduler -/

theorem completeRequest_guard (r : RetrievalRequest) (result : CompletionResult) (flags : CompletionFlags) (c : Int) :
    (completeRequest r result flags c d).guard = d.guard := by
  grind [completeRequest, raise_guard, Dev.setRetrieval_guard]

theorem modifyRequest_guard (t : Nat) (g : RetrievalRequest → RetrievalRequest) : (modifyRequest t g d).guard = d.guard := rfl
theorem markChosen_guard (r : RetrievalRequest) : (markChosen r d).guard = d.guard := rfl
theorem setAttempt_guard (a : Option Attempt) : (setAttempt a d).guard = d.guard := rfl
theorem modifyAttempt_guard (g : Attempt → Attempt) : (modifyAttempt g d).guard = d.guard := rfl
theorem retrievalSeek_guard (x : Int) : (retrievalSeek x d).guard = d.guard := giveOrder_guard d _

theorem requestRecall_guard (n : Option Nat) : (requestRecall n d).2.guard = d.guard := by
  grind [requestRecall, moveRequest_guard]

theorem startAttempt_guard (r : RetrievalRequest) : (startAttempt r d).guard = d.guard := by
  grind [startAttempt, markChosen_guard, setAttempt_guard, retrievalSeek_guard, requestRecall_guard, modifyRequest_guard, modifyAttempt_guard]

theorem selectNext_guard : (selectNext d).guard = d.guard := by
  grind [selectNext, startAttempt_guard, releaseGrant_guard]
theorem keepDecision_guard : (keepDecision d).guard = d.guard := by
  grind [keepDecision, selectNext_guard, releaseGrant_guard]

theorem completeActive_guard (r : CompletionResult) : (completeActive r d).guard = d.guard := by
  grind [completeActive, completeRequest_guard, setAttempt_guard]

theorem endHold_guard : (endHold d).guard = d.guard := by grind [endHold, keepDecision_guard, Dev.setRetrieval_guard]
theorem startHold_guard (c : RequestClass) : (startHold c d).guard = d.guard := by
  grind [startHold, keepDecision_guard, Dev.setRetrieval_guard]
theorem completeDone_guard : (completeDone d).guard = d.guard := by
  grind [completeDone, startHold_guard, completeActive_guard]
theorem disarmConfirm_guard : (disarmConfirm d).guard = d.guard := by grind [disarmConfirm, disarm_guard]

theorem failAttempt_guard : (failAttempt d).guard = d.guard := by
  grind [failAttempt, disarmConfirm_guard, completeActive_guard, setAttempt_guard, modifyRequest_guard, keepDecision_guard]

theorem finishCancel_guard : (finishCancel d).guard = d.guard := by
  grind [finishCancel, keepDecision_guard, completeActive_guard]
theorem presentActive_guard : (presentActive d).guard = d.guard := by
  grind [presentActive, retrievalSeek_guard, modifyAttempt_guard]
theorem presentArrived_guard : (presentArrived d).guard = d.guard := by
  grind [presentArrived, modifyAttempt_guard, completeDone_guard]

theorem beginConfirm_guard : (beginConfirm d).guard = d.guard := by
  grind [beginConfirm, giveOrder_guard, armTrigger_guard, modifyAttempt_guard, Dev.setDetector_guard]

theorem giveUpConfirm_guard : (giveUpConfirm d).guard = d.guard := by
  grind [giveUpConfirm, presentActive_guard, modifyAttempt_guard, disarmConfirm_guard]

theorem takeMeasuredStart_guard (m : Int) : (takeMeasuredStart m d).guard = d.guard := by
  grind [takeMeasuredStart, disarmConfirm_guard, driftReport_guard, modifyAttempt_guard, presentActive_guard]

theorem takeConfirmLine_guard (x : Int) : (takeConfirmLine x d).guard = d.guard := by
  grind [takeConfirmLine, giveUpConfirm_guard]
theorem endHint_guard : (endHint d).guard = d.guard := by grind [endHint, keepDecision_guard, setAttempt_guard]

theorem serveHint_guard : (serveHint d).guard = d.guard := by
  grind [serveHint, releaseGrant_guard, requestRecall_guard, retrievalSeek_guard, Dev.setRetrieval_guard]

theorem abandonHint_guard : (abandonHint d).guard = d.guard := by
  grind [abandonHint, giveStop_guard, modifyAttempt_guard]

theorem retrievalReport_guard (o : OrderOutcome) (b : Bool) : (retrievalReport o b d).guard = d.guard := by
  unfold retrievalReport
  split
  · rfl
  · split
    · rfl
    · exact endHint_guard d
    · exact endHint_guard d
    · exact endHint_guard d
    · exact beginConfirm_guard d
    · exact failAttempt_guard d
    · exact giveUpConfirm_guard d
    · split
      · exact failAttempt_guard d
      · exact giveUpConfirm_guard d
    · exact failAttempt_guard d
    · exact presentArrived_guard d
    · exact failAttempt_guard d
    · exact finishCancel_guard d
    · rfl

theorem retrievalOnHalt_guard : (retrievalOnHalt d).guard = d.guard := by
  grind [retrievalOnHalt, setAttempt_guard, completeActive_guard, failAttempt_guard, Dev.setRetrieval_guard]

/-! ### Halts and the chain of reactions -/

theorem reportHalted_guard (o : Option Order) : (reportHalted o d).guard = d.guard := by
  unfold reportHalted
  split <;> rfl

/-- A halt leaves the guard unit as it is (R41). -/
@[simp] theorem halt_guard (cause : HaltCause) : (halt cause d).guard = d.guard := by
  by_cases h : d.transport.motion = .halted
  · rw [halt_of_halted cause d h]
  · have hfinished : ∀ e, (haltFinished e).guard = (endSearch false e).guard := fun e =>
      (retrievalOnHalt_guard _).trans (scanOnHalt_guard _)
    rw [halt_eq h, hfinished, endSearch_guard, haltDisarmed, disarm_guard, haltRecordsBoundary_guard, reportHalted_guard,
      reportHalted_guard, Dev.setTransport_guard]

theorem serviceReport_guard (o : OrderOutcome) : (serviceReport o d).guard = d.guard := by
  unfold serviceReport
  grind [raise_guard, endSearch_guard, releaseGrant_guard, Dev.setTransport_guard]

theorem takeDisarm_guard (o : Owner) (c : DisarmCause) : (takeDisarm o c d).guard = d.guard := by
  unfold takeDisarm
  grind [endAtDisarm_guard]

theorem takeReport_guard (r : Report) : (takeReport r d).guard = d.guard := by
  unfold takeReport
  grind [scanReport_guard, retrievalReport_guard, serviceReport_guard, restoreLens_guard, runReachesBase_guard, takeDisarm_guard,
    searchHandedBack_guard, abandonSearch_guard, takeMeasuredStart_guard, takeConfirmLine_guard]

end

section
variable {d e : Dev}

theorem runReaction_guard (h : runReaction d = some e) : e.guard = d.guard := by
  grind [runReaction, finishEnding_guard, cutPreparation_guard, beginSuspending_guard]

theorem retrievalReaction_guard (h : retrievalReaction d = some e) : e.guard = d.guard := by
  grind [retrievalReaction, endHold_guard, completeDone_guard, abandonHint_guard, Dev.setRetrieval_guard]

theorem grantReaction_guard (h : grantReaction d = some e) : e.guard = d.guard := by
  grind [grantReaction, selectNext_guard, startPreparation_guard, serveHint_guard, giveGrant_guard]

theorem reaction_guard (h : reaction d = some e) : e.guard = d.guard := by
  grind [reaction, takeReport_guard, dropGrant_guard, runReaction_guard, retrievalReaction_guard, grantReaction_guard, Dev.setInbox_guard]

theorem settleFor_guard (n : Nat) (d : Dev) : (settleFor n d).guard = d.guard := by
  induction n generalizing d with
  | zero => rfl
  | succ n ih =>
    unfold settleFor
    split
    next hr => rw [ih, reaction_guard hr]
    · rfl

/-- Whatever an event brings about in its step leaves the guard unit as the event left it. -/
@[simp] theorem settle_guard (d : Dev) : (settle d).guard = d.guard := by
  refine Eq.trans ?_ (settleFor_guard Config.cascadeBound d)
  unfold settle stopParkTimer
  split <;> rfl

end

/-! ### The two outputs -/

/-- What recomputing the outputs leaves in the guard unit (R60, R61). -/
theorem recomputeGuard_guard (d : Dev) :
    (recomputeGuard d).guard
      = { d.guard with
          stopCondition := stopConditionOf d.guard, suspectLatch := d.guard.suspectLatch || suspectSource d.guard } := by
  have hbegins : ∀ e : Dev, (guardStopBegins e).guard = e.guard := by
    intro e
    unfold guardStopBegins
    split <;> simp
  unfold recomputeGuard
  dsimp only
  split
  · rw [hbegins]
    rfl
  · rfl

end Sys2Proof.Proofs

/-! Samples, trips and the two outputs of the guard unit: O35 and O36. -/

namespace Sys2Proof.Proofs

open Sys2Proof Sys2Proof.Machine

/-! ### The value of a sample -/

theorem toNat_append_bytes (high low : Byte) : (high ++ low).toNat = 256 * high.toNat + low.toNat := by
  rw [BitVec.toNat_append, ← Nat.shiftLeft_add_eq_or_of_lt low.isLt, Nat.shiftLeft_eq, Nat.mul_comm]

/-- Two's complement of a 16-bit word. -/
theorem signed16_eq_toInt (w : BitVec 16) : (if 32768 ≤ w.toNat then (w.toNat : Int) - 65536 else w.toNat) = w.toInt := by
  rw [BitVec.toInt_eq_toNat_cond]
  split_ifs <;> omega

theorem sampleValue_s16 {swap : Bool} {b0 b1 : Byte} {w : BitVec 16}
    (h : w.toNat = if swap then 256 * b0.toNat + b1.toNat else b0.toNat + 256 * b1.toNat) :
    sampleValue .s16 swap b0 b1 = w.toInt := by
  rw [← signed16_eq_toInt, h]
  rfl

/-- A threshold pattern is read in the data type (R49). -/
theorem thresholdValue_toNat (t : DataType) (b : BitVec 16) :
    thresholdValue t b.toNat = if t = .s16 then b.toInt else (b.toNat : Int) := by
  cases t with
  | s16 => exact signed16_eq_toInt b
  | u16 | u8 => rfl

/-! ### The debounce -/

/-- A slot after one more sample (R59). -/
def debounced (trip : Bool) (x : GuardSlot) : GuardSlot := { x with trip := (debounce x trip).1, runCount := (debounce x trip).2 }

/-- Whether a sample on the other side of the slot's trip status is trip-like. -/
def awayOf (x : GuardSlot) : Bool := x.trip == .clear

/-- A sample on the other side counts, and at the debounce count it changes the trip status (R59). -/
theorem debounce_away (x : GuardSlot) :
    debounce x (awayOf x) = if x.record.debounce ≤ x.runCount + 1 then (if x.trip = .clear then .tripped else .clear, 0)
      else (x.trip, x.runCount + 1) := by
  simp [debounce, awayOf]

/-- A sample on the slot's own side sets the run count to 0 (R59). -/
theorem debounce_own {x : GuardSlot} (h : 1 ≤ x.record.debounce) : debounce x (!awayOf x) = (x.trip, 0) := by
  simp only [debounce, awayOf, Bool.not_beq_self, Bool.false_eq_true, if_false]
  exact if_neg (by omega)

section
variable {slot : GuardSlot} (hstart : slot.runCount = 0)
include hstart

/-- Below the debounce count every sample on the other side only counts. -/
theorem debounced_iterate {k : Nat} (hk : k < slot.record.debounce) :
    (debounced (awayOf slot))^[k] slot = { slot with runCount := k } := by
  induction k with
  | zero => exact congrArg (fun c => { slot with runCount := c }) hstart
  | succ k ih =>
    rw [Function.iterate_succ_apply', ih (by omega)]
    have h : debounce { slot with runCount := k } (awayOf slot) = (slot.trip, k + 1) :=
      (debounce_away { slot with runCount := k }).trans (if_neg (by simpa using hk))
    simp only [debounced, h]

theorem debounced_iterate_last (h1 : 1 ≤ slot.record.debounce) :
    (debounced (awayOf slot))^[slot.record.debounce] slot
      = { slot with trip := if slot.trip = .clear then .tripped else .clear, runCount := 0 } := by
  obtain ⟨k, hk⟩ : ∃ k, slot.record.debounce = k + 1 := ⟨slot.record.debounce - 1, by omega⟩
  rw [hk, Function.iterate_succ_apply', debounced_iterate hstart (by omega)]
  have h : debounce { slot with runCount := k } (awayOf slot) = (if slot.trip = .clear then .tripped else .clear, 0) :=
    (debounce_away { slot with runCount := k }).trans (if_pos (by simp [hk]))
  simp only [debounced, h]

end

/-! ### What a change of the guard stop condition leaves -/

theorem guardStopBegins_follows (d : Dev) : Follows d (guardStopBegins d) := by
  unfold guardStopBegins
  split
  next h => exact setTransport_moves (by simp [h]) (.refl d)
  next h => exact setTransport_moves (by simp [h]) (.refl d)
  next h => exact setTransport_moves (by simp [h]) (.refl d)
  next h => exact setTransport_moves (by simp [h]) (.refl d)
  next h => exact setTransport_moves (by simp [h]) (.refl d)
  next => exact halt_follows (.refl d)
  next => exact halt_follows (.refl d)
  next => exact halt_follows (.refl d)
  next => exact .refl d

/-- The two outputs computed anew (R60, R61). -/
def outputsNew (g : Guard) : Guard :=
  { g with stopCondition := stopConditionOf g, suspectLatch := g.suspectLatch || suspectSource g }

theorem recomputeGuard_follows (d : Dev) : Follows d (recomputeGuard d) :=
  .step_if (guardStopBegins_follows _) (⟨rfl, rfl, fun _ _ => id, fun _ => rfl, fun _ hg => ⟨hg, id⟩⟩ : Follows d (d.setGuard (outputsNew d.guard)))

/-- The guard stop condition becomes true. -/
theorem recomputeGuard_begins {d : Dev} (hnow : stopConditionOf d.guard = true) (hbefore : d.guard.stopCondition = false) :
    recomputeGuard d = guardStopBegins (d.setGuard (outputsNew d.guard)) := by
  refine if_pos ?_
  rw [hnow, hbefore]
  rfl

/-! ### A sample taken -/

section
variable (n : Fin 4) (v : Int) (d : Dev)

/-- A slot with a sample taken (R58, R59). -/
def sampled (x : GuardSlot) : GuardSlot := { debounced (tripLike x.record v) x with lastSample := some v }

theorem takeSample_unchanged (h : (sampled v (d.guard.get n)).trip = (d.guard.get n).trip) :
    takeSample n v d = modifySlot n (sampled v) d := if_pos h

theorem takeSample_changed (h : (sampled v (d.guard.get n)).trip ≠ (d.guard.get n).trip) :
    takeSample n v d = recomputeGuard (raise .service .guardEvent (modifySlot n (sampled v) d)) := if_neg h

/-- A sample reaches its own slot and no other. -/
theorem takeSample_get (m : Fin 4) : (takeSample n v d).guard.get m = (modifySlot n (sampled v) d).guard.get m := by
  by_cases h : (sampled v (d.guard.get n)).trip = (d.guard.get n).trip
  · rw [takeSample_unchanged n v d h]
  · rw [takeSample_changed n v d h, recomputeGuard_guard]
    rfl

end

/-- Settles O35: the debounce by induction on the samples. -/
theorem samplesAndTrips : Obligations.SamplesAndTrips := by
  refine ⟨fun b0 b1 swap => ⟨rfl, ?_, ?_, ?_, ?_⟩, fun r v low high hlow hhigh => ?_, fun d n v => ?_, fun slot k h1 h0 => ?_⟩
  · simp [sampleValue]
  · simp [sampleValue]
  · exact sampleValue_s16 ((toNat_append_bytes b1 b0).trans (Nat.add_comm _ _))
  · exact sampleValue_s16 (toNat_append_bytes b0 b1)
  · refine ⟨fun ha => ?_, fun ha => ?_⟩ <;> simp [tripLike, ha, hlow, hhigh, thresholdValue_toNat]
  · refine ⟨(takeSample_get n v d n).trans (modifySlot_get n _ d), fun m hm => ?_, fun hsame => ?_, fun hchange => ?_⟩
    · exact (takeSample_get n v d m).trans (get_put_of_ne _ _ _ hm)
    · rw [takeSample_unchanged n v d hsame]
      exact ⟨rfl, put_stopCondition _ _ _⟩
    · rw [takeSample_changed n v d hchange]
      refine ⟨(recomputeGuard_follows _).events .service .guardEvent (raise_sets _ _ _ (by decide)), ?_⟩
      rw [recomputeGuard_guard]
      rfl
  · intro away after
    have hafter : ∀ j, after j = (debounced (awayOf slot))^[j] slot := by
      intro j
      induction j with
      | zero => rfl
      | succ j ih => rw [Function.iterate_succ_apply', ← ih]; rfl
    refine ⟨fun hk => ?_, ?_, fun hk => ?_⟩
    · rw [hafter, debounced_iterate h0 hk]
      exact ⟨rfl, rfl⟩
    · rw [hafter, debounced_iterate_last h0 h1]
      cases slot.trip <;> simp
    · rw [hafter, debounced_iterate h0 hk]
      exact debounce_own (x := { slot with runCount := k }) h1

/-! ### The two outputs -/

theorem countsTripped_iff (x : GuardSlot) : countsTripped x = true ↔ x.trip = .tripped ∨ x.state = .faulted := by
  simp [countsTripped]

/-- A slot that can stop the transport, alone or by vote (R60). -/
def Stops (g : Guard) (n : Fin 4) (vote : Bool) : Prop := (g.get n).record.action = .stop ∧ (g.get n).record.vote = vote

/-- A slot that is TRIPPED or FAULTED. -/
def Counts (g : Guard) (n : Fin 4) : Prop := (g.get n).trip = .tripped ∨ (g.get n).state = .faulted

/-- The enabled slots that stop by vote (R60). -/
def enabledVoters (g : Guard) : List GuardSlot :=
  ((g.slots.filter fun x => x.record.action == .stop).filter fun x => x.record.vote).filter fun x => x.state != .off

theorem mem_enabledVoters (g : Guard) (x : GuardSlot) :
    x ∈ enabledVoters g ↔ ∃ n, (Stops g n true ∧ (g.get n).state ≠ .off) ∧ g.get n = x := by
  simp only [enabledVoters, List.mem_filter, mem_slots_iff, beq_iff_eq, bne_iff_ne, Stops]
  grind

theorem stopConditionOf_iff (g : Guard) :
    stopConditionOf g = true ↔
      (∃ n, Stops g n false ∧ Counts g n)
      ∨ (g.combineMode = .any ∧ ∃ n, Stops g n true ∧ Counts g n)
      ∨ (g.combineMode = .all ∧ (∃ n, Stops g n true ∧ (g.get n).state ≠ .off)
        ∧ ∀ n, Stops g n true → (g.get n).state ≠ .off → Counts g n) := by
  have hcounts : ∀ n, countsTripped (g.get n) = true ↔ Counts g n := fun n => countsTripped_iff _
  have halone : (((g.slots.filter fun x => x.record.action == .stop).filter fun x => !x.record.vote).any countsTripped = true)
      ↔ ∃ n, Stops g n false ∧ Counts g n := by
    simp [hcounts, Stops, and_comm]
  have hany : (((g.slots.filter fun x => x.record.action == .stop).filter fun x => x.record.vote).any countsTripped = true)
      ↔ ∃ n, Stops g n true ∧ Counts g n := by
    simp [hcounts, Stops, and_comm]
  have hall : (!(enabledVoters g).isEmpty && (enabledVoters g).all countsTripped) = true
      ↔ (∃ n, Stops g n true ∧ (g.get n).state ≠ .off) ∧ ∀ n, Stops g n true → (g.get n).state ≠ .off → Counts g n := by
    rw [Bool.and_eq_true, Bool.not_eq_true', List.isEmpty_eq_false_iff_exists_mem, List.all_eq_true]
    refine and_congr (by simp [mem_enabledVoters]) ⟨fun h n hs ho => ?_, fun h x hx => ?_⟩
    · exact (hcounts n).1 (h _ ((mem_enabledVoters g _).2 ⟨n, ⟨hs, ho⟩, rfl⟩))
    · obtain ⟨n, ⟨hs, ho⟩, rfl⟩ := (mem_enabledVoters g x).1 hx
      exact (hcounts n).2 (h n hs ho)
  cases hmode : g.combineMode with
  | any => simp only [stopConditionOf, hmode, Bool.or_eq_true, halone, hany, true_and, reduceCtorEq, false_and, or_false]
  | all =>
    simp only [stopConditionOf, hmode, Bool.or_eq_true, halone, true_and, reduceCtorEq, false_and, false_or]
    exact or_congr_right hall

theorem suspectSource_iff (g : Guard) :
    suspectSource g = true ↔ ∃ n, ((g.get n).record.action = .stop ∨ (g.get n).record.action = .mark)
      ∧ ((g.get n).trip = .tripped ∨ (g.get n).state = .faulted) := by
  simp [suspectSource, countsTripped]

/-- Settles O36: the condition slot by slot, and the transport by its motion state. -/
theorem guardStopBrakesOrHalts : Obligations.GuardStopBrakesOrHalts := by
  refine ⟨fun g => ?_, fun d r => ⟨?_, suspectSource_iff d.guard⟩, fun d hnow hbefore => ⟨?_, fun hm => ?_, fun hm => ?_, fun hm => ?_⟩⟩
  · exact stopConditionOf_iff g
  · rw [recomputeGuard_guard, Bool.or_eq_true, suspectSource_iff]
  · rw [recomputeGuard_guard]
    exact hnow
  · rw [recomputeGuard_begins hnow hbefore]
    rcases hm with hm | hm | hm | hm <;> simp [guardStopBegins, hm, enterStopping]
  · rw [recomputeGuard_begins hnow hbefore]
    simp [guardStopBegins, hm]
  · have hhalt : recomputeGuard d = halt .guardStop (d.setGuard (outputsNew d.guard)) := by
      rw [recomputeGuard_begins hnow hbefore]
      rcases hm with hm | hm | hm <;> simp [guardStopBegins, hm]
    rw [hhalt]
    exact (haltRaised_halt .guardStop (by rcases hm with hm | hm | hm <;> simp [hm])).1

end Sys2Proof.Proofs

/-! The sensor bus: due times, the waits of a slot and the ends of bus attempts: O33 and O34. -/

namespace Sys2Proof.Proofs

open Sys2Proof Sys2Proof.Machine

/-! ### The forms of an attempt -/

theorem dataPhase_eq (t : DataType) : dataPhase t = if t = .u8 then [.read false] else [.read true, .read false] := by
  cases t <;> rfl

/-- The form of a sample read (R56). -/
def sampleForm (r : SlotRecord) : List BusSymbol :=
  [BusSymbol.start, .send (addressByte r.busAddress false), .send (BitVec.ofNat 8 r.valueRegister), .repeatedStart
    , .send (addressByte r.busAddress true)]
  ++ (if r.dataType = .u8 then [.read false] else [.read true, .read false]) ++ [.stop]

theorem attemptForm_sample (g : Guard) (n : Fin 4) : attemptForm g n .sample = sampleForm (g.get n).record := by
  simp only [attemptForm, sampleForm, dataPhase_eq]

/-- A form reads no more of the guard unit than the slot's record and the script memory. -/
theorem attemptForm_congr {g g' : Guard} {n : Fin 4} (use : BusUse) (hr : (g'.get n).record = (g.get n).record)
    (hs : g'.script = g.script) : attemptForm g' n use = attemptForm g n use := by
  simp only [attemptForm, hr, hs]

/-! ### The bus -/

/-- The guard unit with its bus written. -/
def withBus (g : Guard) (b : Option BusTransaction) : Guard := { g with bus := b }

theorem withBus_put (g : Guard) (n : Fin 4) (x : GuardSlot) (b : Option BusTransaction) :
    (withBus g b).put n x = withBus (g.put n x) b := by
  match n with
  | 0 | 1 | 2 | 3 => rfl

/-- The attempt that begins from START for a slot (R56). -/
def attemptBegun (n : Fin 4) (use : BusUse) (d : Dev) : BusTransaction :=
  { slot := n, use := use, form := attemptForm d.guard n use, speed := d.guard.busSpeed, begun := d.time, discarded := false }

theorem beginAttempt_modifySlot {n : Fin 4} {f : GuardSlot → GuardSlot} {d : Dev} (use : BusUse)
    (hf : (f (d.guard.get n)).record = (d.guard.get n).record) :
    beginAttempt n use (modifySlot n f d)
      = d.setGuard (withBus (d.guard.put n (f (d.guard.get n))) (some (attemptBegun n use d))) := by
  have hform : attemptForm (modifySlot n f d).guard n use = attemptForm d.guard n use :=
    attemptForm_congr use (by rw [modifySlot_get, hf]) (put_script _ _ _)
  have hspeed : (modifySlot n f d).guard.busSpeed = d.guard.busSpeed := put_busSpeed _ _ _
  unfold beginAttempt
  rw [hform, hspeed]
  rfl

/-- A transaction begun: the slot waits no more and has no failed attempt (R55). -/
def beginning (x : GuardSlot) : GuardSlot := { x with attempts := 0, wants := none }

theorem beginTransaction_modifySlot {n : Fin 4} {f : GuardSlot → GuardSlot} {d : Dev} (use : BusUse)
    (hf : (f (d.guard.get n)).record = (d.guard.get n).record) :
    beginTransaction n use (modifySlot n f d)
      = d.setGuard (withBus (d.guard.put n (beginning (f (d.guard.get n)))) (some (attemptBegun n use d))) := by
  unfold beginTransaction
  rw [modifySlot_modifySlot]
  exact beginAttempt_modifySlot use hf

/-! ### The waiting set -/

/-- No slot waits for the bus. -/
def NoneWait (g : Guard) : Prop := ∀ m, (g.get m).wants = none

theorem lowestWaiting_none {g : Guard} (h : NoneWait g) : lowestWaiting g = none := by
  simp [lowestWaiting, h 0, h 1, h 2, h 3]

theorem lowestWaiting_some {g : Guard} {m : Fin 4} {use : BusUse} (hm : (g.get m).wants = some use)
    (hlow : ∀ k, k < m → (g.get k).wants = none) : lowestWaiting g = some (m, use) := by
  match m with
  | 0 => simp [lowestWaiting, hm]
  | 1 => simp [lowestWaiting, hm, hlow 0 (by decide)]
  | 2 => simp [lowestWaiting, hm, hlow 0 (by decide), hlow 1 (by decide)]
  | 3 => simp [lowestWaiting, hm, hlow 0 (by decide), hlow 1 (by decide), hlow 2 (by decide)]

theorem passBus_idle {d : Dev} (h : NoneWait d.guard) : passBus d = d.setGuard (withBus d.guard none) := by
  have hl : lowestWaiting (d.setGuard (withBus d.guard none)).guard = none := lowestWaiting_none h
  unfold withBus at hl
  unfold passBus
  simp only [hl]
  rfl

/-- The bus passes to the waiting slot with the lowest number (R55). -/
theorem passBus_serves {d : Dev} {m : Fin 4} {use : BusUse} (hm : (d.guard.get m).wants = some use)
    (hlow : ∀ k, k < m → (d.guard.get k).wants = none) :
    passBus d = d.setGuard (withBus (d.guard.put m (beginning (d.guard.get m))) (some (attemptBegun m use d))) := by
  have hl : lowestWaiting (d.setGuard (withBus d.guard none)).guard = some (m, use) := lowestWaiting_some hm hlow
  have hbegins : passBus d = beginTransaction m use (d.setGuard (withBus d.guard none)) := by
    unfold withBus at hl ⊢
    unfold passBus
    simp only [hl]
  rw [hbegins]
  refine (beginAttempt_modifySlot use rfl).trans ?_
  rw [Dev.setGuard_guard, withBus_put]
  rfl

/-- A slot on an idle bus for which no slot waits begins its transaction at once (R55). -/
theorem requestBus_idle {n : Fin 4} {f : GuardSlot → GuardSlot} {d : Dev} (use : BusUse)
    (hf : (f (d.guard.get n)).record = (d.guard.get n).record) (hw : (f (d.guard.get n)).wants = none)
    (hbus : d.guard.bus = none) (hnone : NoneWait d.guard) :
    requestBus n use (modifySlot n f d)
      = d.setGuard (withBus (d.guard.put n (beginning (f (d.guard.get n)))) (some (attemptBegun n use d))) := by
  have hfree : (modifySlot n f d).guard.bus.isNone
      ∧ (modifySlot n f d).guard.slots.all (fun x => x.wants.isNone) := by
    refine ⟨by simp [modifySlot_eq, hbus], (slots_all_iff _ _).2 fun m => ?_⟩
    by_cases hmn : m = n
    · subst hmn
      simp [hw]
    · simp [modifySlot_eq, get_put_of_ne _ _ _ hmn, hnone m]
  exact (if_pos hfree).trans (beginTransaction_modifySlot use hf)

/-- On a busy bus a request joins the waiting set (R55). -/
theorem requestBus_busy {n : Fin 4} {f : GuardSlot → GuardSlot} {d : Dev} (use : BusUse) (hbus : d.guard.bus ≠ none) :
    requestBus n use (modifySlot n f d) = modifySlot n (fun x => { f x with wants := some use }) d := by
  refine (if_neg fun h => hbus ?_).trans (modifySlot_modifySlot n _ f d)
  simpa [modifySlot_eq] using h.1

/-! ### The waits of a slot -/

/-- A slot at the end of its post-init wait (R53, R54). -/
def polling (now : Nat) (x : GuardSlot) : GuardSlot :=
  { x with
    state := .polling, waitEnd := none
    nextDue := if x.record.powerMode = .always then some (now + x.record.period) else x.nextDue }

theorem enterPolling_eq (n : Fin 4) (d : Dev) : enterPolling n d = requestBus n .sample (modifySlot n (polling d.time) d) := rfl

section
variable {n : Fin 4} {d : Dev}

theorem enterPolling_waits (h : d.guard.bus ≠ none) :
    enterPolling n d = d.setGuard (d.guard.put n { polling d.time (d.guard.get n) with wants := some .sample }) :=
  requestBus_busy .sample h

theorem enterPolling_reads (h : d.guard.bus = none) (hnone : NoneWait d.guard) :
    enterPolling n d
      = d.setGuard (withBus (d.guard.put n (beginning (polling d.time (d.guard.get n)))) (some (attemptBegun n .sample d))) :=
  requestBus_idle .sample rfl (hnone n) h hnone

/-- The end of the wait noted in the slot makes no difference to POLLING. -/
theorem enterPolling_waitOver : enterPolling n (modifySlot n (fun x => { x with waitEnd := none }) d) = enterPolling n d := by
  rw [enterPolling_eq, enterPolling_eq, modifySlot_modifySlot]
  rfl

theorem preInitOver_polls (hc : (d.guard.get n).record.pairCount = 0) (hw : (d.guard.get n).record.postInitWait = 0) :
    preInitOver n d = enterPolling n d := by
  refine (if_pos ?_).trans ((if_pos ?_).trans enterPolling_waitOver) <;> simpa

theorem preInitOver_settles (hc : (d.guard.get n).record.pairCount = 0) (hw : (d.guard.get n).record.postInitWait ≠ 0) :
    preInitOver n d = modifySlot n (fun x =>
      { x with state := .settle, waitEnd := some (d.time + (d.guard.get n).record.postInitWait) }) d := by
  refine (if_pos ?_).trans ((if_neg ?_).trans ?_)
  · simpa
  · simpa
  · simp [modifySlot_eq]

theorem preInitOver_requests (hc : 1 ≤ (d.guard.get n).record.pairCount) :
    preInitOver n d = requestBus n (.pair 0) (modifySlot n (fun x => { x with waitEnd := none }) d) := by
  refine if_neg ?_
  simp only [modifySlot_get]
  omega

end

/-! ### Due times -/

section
variable {n : Fin 4} {t : Nat} {d : Dev}

/-- A slot at its due time, with the next one set (R54). -/
def due (t : Nat) (x : GuardSlot) : GuardSlot := { x with nextDue := some (t + x.record.period) }

/-- A slot whose poll begins at its due time (R54). -/
def polled (t : Nat) (x : GuardSlot) : GuardSlot := { due t x with pollInProgress := true }

theorem dueTime_overrun (h : (d.guard.get n).pollInProgress = true) : dueTime n t d = modifySlot n (due t) d := if_pos h

theorem dueTime_periodic (h : (d.guard.get n).pollInProgress = false) (hm : (d.guard.get n).record.powerMode = .periodic) :
    dueTime n t d = modifySlot n (fun x =>
      { polled t x with state := .init, waitEnd := some (d.time + x.record.preInitWait) }) d := by
  refine (if_neg (by simp [h])).trans ?_
  rw [hm, modifySlot_modifySlot]
  exact modifySlot_modifySlot n (fun x => { x with state := .init, waitEnd := some (d.time + x.record.preInitWait) }) (polled t) d

theorem dueTime_always (h : (d.guard.get n).pollInProgress = false) (hm : (d.guard.get n).record.powerMode = .always) :
    dueTime n t d = requestBus n .sample (modifySlot n (polled t) d) := by
  refine (if_neg (by simp [h])).trans ?_
  rw [hm, modifySlot_modifySlot]
  rfl

end

section
variable {s : State} {n : Fin 4} {t : Nat}

theorem exec_slotDueTime (h : (s.dev.guard.get n).nextDue = some t) :
    exec (.slotDueTime n) s = .next (s.setDev (if t ≤ s.dev.time then dueTime n t s.dev else s.dev)) := by
  have hdue : slotDue n s.dev = if t ≤ s.dev.time then dueTime n t s.dev else s.dev := by
    unfold slotDue
    rw [h]
  rw [← hdue]
  rfl

theorem exec_preInitWaitEnd (hs : (s.dev.guard.get n).state = .init) (hw : (s.dev.guard.get n).waitEnd = some t) (ht : t ≤ s.dev.time) :
    exec (.preInitWaitEnd n) s = .next (s.setDev (preInitOver n s.dev)) := by
  have hdue : preInitDue n s.dev = preInitOver n s.dev := by
    simp only [preInitDue, hs, hw, if_pos ht]
  rw [← hdue]
  rfl

theorem exec_postInitWaitEnd (hs : (s.dev.guard.get n).state = .settle) (hw : (s.dev.guard.get n).waitEnd = some t) (ht : t ≤ s.dev.time) :
    exec (.postInitWaitEnd n) s = .next (s.setDev (enterPolling n s.dev)) := by
  have hdue : postInitDue n s.dev = enterPolling n s.dev := by
    simp only [postInitDue, hs, hw, if_pos ht]
  rw [← hdue]
  rfl

/-- Before its end a wait does nothing. -/
theorem exec_waitEnd_early (hw : (s.dev.guard.get n).waitEnd = some t) (ht : s.dev.time < t) :
    exec (.preInitWaitEnd n) s = .next s ∧ exec (.postInitWaitEnd n) s = .next s := by
  have hpre : preInitDue n s.dev = s.dev := by
    cases hs : (s.dev.guard.get n).state <;> simp only [preInitDue, hs, hw, if_neg (Nat.not_le.2 ht)]
  have hpost : postInitDue n s.dev = s.dev := by
    cases hs : (s.dev.guard.get n).state <;> simp only [postInitDue, hs, hw, if_neg (Nat.not_le.2 ht)]
  exact ⟨congrArg (fun e => Host.Outcome.next (s.setDev e)) hpre, congrArg (fun e => Host.Outcome.next (s.setDev e)) hpost⟩

end

/-- Settles O33, by the bus that each request finds. -/
theorem slotTimesAct : Obligations.SlotTimesAct := by
  refine ⟨fun s n t hdue => ⟨fun ht => ?_, fun ht hp => ?_, fun ht hp hm => ?_, fun ht hp hm hbus hnone => ?_, fun ht hp hm hbus => ?_⟩,
    fun s n t hw => ⟨exec_waitEnd_early hw, fun ht hs hc hbus hnone => ?_, fun ht hs hc hwait => ?_, fun ht hs hbus => ?_,
      fun ht hs hbus hnone => ?_, fun ht hs hc hwait hbus => ?_, fun ht hs hc hwait hbus hnone => ?_⟩⟩
  · rw [exec_slotDueTime hdue, if_neg (Nat.not_le.2 ht)]
    rfl
  · rw [exec_slotDueTime hdue, if_pos ht, dueTime_overrun hp]
    rfl
  · rw [exec_slotDueTime hdue, if_pos ht, dueTime_periodic hp hm]
    rfl
  · rw [exec_slotDueTime hdue, if_pos ht, dueTime_always hp hm, requestBus_idle .sample (by rfl) (hnone n) hbus hnone, attemptBegun,
      attemptForm_sample]
    rfl
  · rw [exec_slotDueTime hdue, if_pos ht, dueTime_always hp hm, requestBus_busy .sample hbus]
    rfl
  · rw [exec_preInitWaitEnd hs hw ht, preInitOver_requests hc, requestBus_idle (.pair 0) (by rfl) (hnone n) hbus hnone]
    rfl
  · rw [exec_preInitWaitEnd hs hw ht, preInitOver_settles hc hwait]
    rfl
  · rw [exec_postInitWaitEnd hs hw ht, enterPolling_waits hbus]
    rfl
  · rw [exec_postInitWaitEnd hs hw ht, enterPolling_reads hbus hnone, attemptBegun, attemptForm_sample]
    rfl
  · rw [exec_preInitWaitEnd hs hw ht, preInitOver_polls hc hwait, enterPolling_waits hbus]
    rfl
  · rw [exec_preInitWaitEnd hs hw ht, preInitOver_polls hc hwait, enterPolling_reads hbus hnone, attemptBegun, attemptForm_sample]
    rfl

/-! ### The ends of an attempt -/

theorem exec_busAttemptEnd (o : BusOutcome) (s : State) : exec (.busAttemptEnd o) s = .next (s.setDev (attemptEnd o s.dev)) := rfl
theorem exec_sclHoldTimeout (s : State) : exec .sclHoldTimeout s = .next (s.setDev (sclHeld s.dev)) := rfl

section
variable {d : Dev} {b : BusTransaction} {data : List Byte}

theorem attemptEnd_idle (o : BusOutcome) (h : d.guard.bus = none) : attemptEnd o d = d := by
  unfold attemptEnd
  rw [h]

theorem sclHeld_idle (h : d.guard.bus = none) : sclHeld d = d := by
  unfold sclHeld
  rw [h]

theorem attemptEnd_fails (h : d.guard.bus = some b) : attemptEnd .notAcknowledged d = settle (attemptFailed b d) := by
  unfold attemptEnd
  rw [h]

theorem attemptEnd_succeeds (h : d.guard.bus = some b) (hlen : data.length = formReads b.form) :
    attemptEnd (.acknowledged data) d = settle (attemptSucceeded b data d) := by
  unfold attemptEnd
  rw [h]
  exact if_pos hlen

theorem attemptEnd_misfit (h : d.guard.bus = some b) (hlen : data.length ≠ formReads b.form) : attemptEnd (.acknowledged data) d = d := by
  unfold attemptEnd
  rw [h]
  exact if_neg hlen

theorem sclHeld_fails (h : d.guard.bus = some b) (ht : b.begun + 25 ≤ d.time) : sclHeld d = settle (attemptFailed b d) := by
  unfold sclHeld
  rw [h]
  exact if_pos ht

theorem sclHeld_early (h : d.guard.bus = some b) (ht : d.time < b.begun + 25) : sclHeld d = d := by
  unfold sclHeld
  rw [h]
  exact if_neg (Nat.not_le.2 ht)

theorem settle_setGuard (g : Guard) (h : Settled d) : settle (d.setGuard g) = d.setGuard g :=
  settle_of_settled _ ((settled_setGuard d g).2 h)

/-- A discarded attempt leaves only the bus, whatever its end (R50). -/
theorem attemptEnd_discarded {o : BusOutcome} (h : d.guard.bus = some b) (hd : b.discarded = true)
    (ho : ∀ data, o = .acknowledged data → data.length = formReads b.form) : attemptEnd o d = settle (passBus d) := by
  cases o with
  | acknowledged data => exact (attemptEnd_succeeds h (ho data rfl)).trans (congrArg settle (if_pos hd))
  | notAcknowledged => exact (attemptEnd_fails h).trans (congrArg settle (if_pos hd))

theorem attemptFailed_retries (hd : b.discarded = false)
    (h : (d.guard.get b.slot).attempts + 1 < 1 + (d.guard.get b.slot).record.retries) :
    attemptFailed b d = d.setGuard (withBus
      (d.guard.put b.slot { d.guard.get b.slot with attempts := (d.guard.get b.slot).attempts + 1 })
      (some (attemptBegun b.slot b.use d))) := by
  refine (if_neg (by simp [hd])).trans ((if_pos h).trans ?_)
  exact beginAttempt_modifySlot b.use rfl

theorem attemptFailed_faults (hd : b.discarded = false)
    (h : 1 + (d.guard.get b.slot).record.retries ≤ (d.guard.get b.slot).attempts + 1) :
    attemptFailed b d = faultSlot b.slot d :=
  (if_neg (by simp [hd])).trans (if_neg (Nat.not_lt.2 h))

/-- The bus passes to the slot that has just asked for it, while no other waits (R55). -/
theorem passBus_modifySlot {n : Fin 4} {f : GuardSlot → GuardSlot} {use : BusUse} (hf : (f (d.guard.get n)).record = (d.guard.get n).record)
    (hw : (f (d.guard.get n)).wants = some use) (hothers : ∀ m, m ≠ n → (d.guard.get m).wants = none) :
    passBus (modifySlot n f d)
      = d.setGuard (withBus (d.guard.put n (beginning (f (d.guard.get n)))) (some (attemptBegun n use d))) := by
  have hlow : ∀ k, k < n → ((modifySlot n f d).guard.get k).wants = none := by
    intro k hk
    rw [modifySlot_eq, Dev.setGuard_guard, get_put_of_ne _ _ _ (ne_of_lt hk)]
    exact hothers k (ne_of_lt hk)
  have hform : attemptForm (modifySlot n f d).guard n use = attemptForm d.guard n use :=
    attemptForm_congr use (by rw [modifySlot_get, hf]) (put_script _ _ _)
  have hspeed : (modifySlot n f d).guard.busSpeed = d.guard.busSpeed := put_busSpeed _ _ _
  rw [passBus_serves (by rw [modifySlot_get, hw]) hlow, modifySlot_get, attemptBegun, hform, hspeed, modifySlot_eq,
    Dev.setGuard_guard, put_put]
  rfl

theorem attemptSucceeded_pair {i : Nat} (hd : b.discarded = false) (hu : b.use = .pair i) :
    attemptSucceeded b data d = passBus
      (if i + 1 < (d.guard.get b.slot).record.pairCount then
        requestBus b.slot (.pair (i + 1)) (modifySlot b.slot (fun x => { x with attempts := 0 }) d)
      else enterSettle b.slot (modifySlot b.slot (fun x => { x with attempts := 0 }) d)) := by
  refine (if_neg (by simp [hd])).trans ?_
  rw [hu]

theorem attemptSucceeded_sample (hd : b.discarded = false) (hu : b.use = .sample) :
    attemptSucceeded b data d = passBus (takeSample b.slot
      (sampleValue (d.guard.get b.slot).record.dataType (d.guard.get b.slot).record.byteSwap (data.getD 0 0) (data.getD 1 0))
      (modifySlot b.slot (fun x => { x with attempts := 0, pollInProgress := false }) d)) := by
  refine (if_neg (by simp [hd])).trans ?_
  rw [hu]
  simp only [modifySlot_modifySlot]

/-- The post-init wait begins (R53). -/
theorem enterSettle_waits {n : Fin 4} {f : GuardSlot → GuardSlot} (hf : (f (d.guard.get n)).record = (d.guard.get n).record)
    (hw : (d.guard.get n).record.postInitWait ≠ 0) :
    enterSettle n (modifySlot n f d) = modifySlot n (fun x =>
      { f x with state := .settle, waitEnd := some (d.time + (d.guard.get n).record.postInitWait) }) d := by
  have hrecord : ((modifySlot n f d).guard.get n).record = (d.guard.get n).record := by rw [modifySlot_get, hf]
  unfold enterSettle
  rw [hrecord, if_neg hw, modifySlot_modifySlot]
  rfl

theorem attemptSucceeded_nextPair {i : Nat} (h : d.guard.bus = some b) (hd : b.discarded = false) (hu : b.use = .pair i)
    (hothers : ∀ m, m ≠ b.slot → (d.guard.get m).wants = none) (hi : i + 1 < (d.guard.get b.slot).record.pairCount) :
    attemptSucceeded b data d
      = d.setGuard (withBus (d.guard.put b.slot (beginning (d.guard.get b.slot))) (some (attemptBegun b.slot (.pair (i + 1)) d))) := by
  rw [attemptSucceeded_pair hd hu, if_pos hi, requestBus_busy _ (by simp [h])]
  exact passBus_modifySlot rfl rfl hothers

theorem attemptSucceeded_lastPair {i : Nat} (hd : b.discarded = false) (hu : b.use = .pair i)
    (hnone : NoneWait d.guard) (hi : (d.guard.get b.slot).record.pairCount ≤ i + 1)
    (hw : (d.guard.get b.slot).record.postInitWait ≠ 0) :
    attemptSucceeded b data d = d.setGuard (withBus
      (d.guard.put b.slot { d.guard.get b.slot with
        attempts := 0, state := .settle, waitEnd := some (d.time + (d.guard.get b.slot).record.postInitWait) }) none) := by
  rw [attemptSucceeded_pair hd hu, if_neg (Nat.not_lt.2 hi), enterSettle_waits rfl hw, passBus_idle]
  · rfl
  · intro m
    by_cases hm : m = b.slot
    · rw [hm, modifySlot_get]
      exact hnone b.slot
    · exact (congrArg (·.wants) (get_put_of_ne _ _ _ hm)).trans (hnone m)

end

/-- Settles O34, by the end of the attempt and the slots that wait. -/
theorem attemptsEnd : Obligations.AttemptsEnd := by
  refine fun s => ⟨fun hbus => ⟨fun o => ?_, ?_⟩,
    fun b hbus hd => ⟨fun hretry hs => ?_, fun hlast => ?_, fun i hu hform hothers hs => ?_, fun hu data hlen => ?_⟩,
    fun b hbus => ⟨fun ht => ?_, fun data hlen => ?_⟩,
    fun b o hbus hd hs ho => ⟨fun hnone => ?_, fun m use hm hlow => ?_⟩⟩
  · rw [exec_busAttemptEnd, attemptEnd_idle o hbus]
    rfl
  · rw [exec_sclHoldTimeout, sclHeld_idle hbus]
    rfl
  · intro t
    have hend : settle (attemptFailed b s.dev) = t.dev := by
      rw [attemptFailed_retries hd hretry, settle_setGuard _ hs]
      rfl
    exact ⟨by rw [exec_busAttemptEnd, attemptEnd_fails hbus, hend]; rfl,
      fun ht => by rw [exec_sclHoldTimeout, sclHeld_fails hbus ht, hend]; rfl⟩
  · intro t
    have hend : settle (attemptFailed b s.dev) = t.dev := congrArg settle (attemptFailed_faults hd hlast)
    exact ⟨by rw [exec_busAttemptEnd, attemptEnd_fails hbus, hend]; rfl,
      fun ht => by rw [exec_sclHoldTimeout, sclHeld_fails hbus ht, hend]; rfl⟩
  · refine ⟨fun hi => ?_, fun hi hwait hw => ?_⟩
    · rw [exec_busAttemptEnd, attemptEnd_succeeds (data := []) hbus hform.symm, attemptSucceeded_nextPair hbus hd hu hothers hi, settle_setGuard _ hs]
      rfl
    · have hnone : NoneWait s.dev.guard := fun m => by
        by_cases hm : m = b.slot
        · rw [hm, hw]
        · exact hothers m hm
      rw [exec_busAttemptEnd, attemptEnd_succeeds (data := []) hbus hform.symm, attemptSucceeded_lastPair hd hu hnone hi hwait, settle_setGuard _ hs]
      rfl
  · rw [exec_busAttemptEnd, attemptEnd_succeeds hbus hlen, attemptSucceeded_sample hd hu]
    rfl
  · rw [exec_sclHoldTimeout, sclHeld_early hbus ht]
    rfl
  · rw [exec_busAttemptEnd, attemptEnd_misfit hbus hlen]
    rfl
  · rw [exec_busAttemptEnd, attemptEnd_discarded hbus hd ho, passBus_idle hnone, settle_setGuard _ hs]
    rfl
  · rw [exec_busAttemptEnd, attemptEnd_discarded hbus hd ho, passBus_serves hm hlow, settle_setGuard _ hs]
    rfl

end Sys2Proof.Proofs

/-! Named choices, thresholds, locked items and the detector items of CONFIG_WRITE: O55. -/

namespace Sys2Proof.Proofs

open Sys2Proof Sys2Proof.Machine

/-! ### The tap map -/

/-- A byte that is a group or DEAD (R77). -/
def TapByte (b : Byte) : Prop := b.toNat < 8 ∨ b = 0xFF

/-- The entry of a byte: its group, and DEAD where it is none. -/
def tapEntry (b : Byte) : TapEntry := if h : b.toNat < 8 then some ⟨b.toNat, h⟩ else none

theorem tapEntryOf_eq {b : Byte} (h : TapByte b) : tapEntryOf b = some (tapEntry b) := by
  unfold tapEntryOf tapEntry
  rcases h with h | rfl
  · rw [dif_pos h, dif_pos h]
  · rfl

theorem tapEntryOf_none {b : Byte} (h8 : 8 ≤ b.toNat) (hb : b ≠ 0xFF) : tapEntryOf b = none :=
  (dif_neg (Nat.not_lt.2 h8)).trans (if_neg hb)

theorem tapByte_tapEntry {b : Byte} (h : TapByte b) : tapByte (tapEntry b) = b := by
  unfold tapEntry
  rcases h with h | rfl
  · rw [dif_pos h]
    simp [tapByte]
  · rfl

theorem tapEntry_isNone {b : Byte} (h : TapByte b) : (tapEntry b).isNone = true ↔ b = 0xFF := by
  unfold tapEntry
  rcases h with h | rfl
  · have hb : b ≠ 0xFF := fun e => absurd (e ▸ h) (by decide)
    rw [dif_pos h]
    exact iff_of_false Bool.false_ne_true hb
  · simp

theorem mapM_tapEntryOf {v : List Byte} (h : ∀ b ∈ v, TapByte b) : v.mapM tapEntryOf = some (v.map tapEntry) := by
  induction v with
  | nil => rfl
  | cons b v ih =>
    simp only [List.mem_cons, forall_eq_or_imp] at h
    simp [List.mapM_cons, tapEntryOf_eq h.1, ih h.2]

theorem mapM_tapEntryOf_none {v : List Byte} (h : ∃ b ∈ v, 8 ≤ b.toNat ∧ b ≠ 0xFF) : v.mapM tapEntryOf = none := by
  induction v with
  | nil => simp at h
  | cons a v ih =>
    rw [List.mapM_cons]
    rcases h with ⟨b, hb, h8, hff⟩
    rcases List.mem_cons.1 hb with rfl | hb
    · rw [tapEntryOf_none h8 hff]
      rfl
    · rw [ih ⟨b, hb, h8, hff⟩]
      cases tapEntryOf a <;> rfl

theorem all_dead_iff {v : List Byte} (hlen : v.length = 8) (h : ∀ b ∈ v, TapByte b) :
    (v.map tapEntry).all (·.isNone) = true ↔ v = List.replicate 8 0xFF := by
  rw [List.all_map, List.all_eq_true, List.eq_replicate_iff]
  exact ⟨fun ha => ⟨hlen, fun b hb => (tapEntry_isNone (h b hb)).1 (ha b hb)⟩,
    fun ⟨_, ha⟩ b hb => (tapEntry_isNone (h b hb)).2 (ha b hb)⟩

/-- The tap map with eight entries in order. -/
theorem tapMapOf_eq {v : List Byte} (hlen : v.length = 8) (h : ∀ b ∈ v, TapByte b) :
    ∃ m : TapMap, m.toList = v.map tapEntry ∧ tapMapOf v = if v = List.replicate 8 0xFF then none else some m := by
  have hmap := mapM_tapEntryOf h
  have hdead := all_dead_iff hlen h
  match v, hlen with
  | [a, b, c, e, f, g, x, y], _ =>
    refine ⟨⟨tapEntry a, tapEntry b, tapEntry c, tapEntry e, tapEntry f, tapEntry g, tapEntry x, tapEntry y⟩, rfl, ?_⟩
    unfold tapMapOf
    rw [hmap]
    exact if_congr hdead rfl rfl

/-- No tap map: an entry that is no group nor DEAD, or every entry DEAD (R77). -/
theorem tapMapOf_none {v : List Byte} (hlen : v.length = 8)
    (h : (∃ b ∈ v, 8 ≤ b.toNat ∧ b ≠ 0xFF) ∨ v = List.replicate 8 0xFF) : tapMapOf v = none := by
  rcases h with h | h
  · unfold tapMapOf
    rw [mapM_tapEntryOf_none h]
  · have hbytes : ∀ b ∈ v, TapByte b := fun b hb => .inr (List.eq_of_mem_replicate (h ▸ hb))
    obtain ⟨m, -, hm⟩ := tapMapOf_eq hlen hbytes
    exact hm.trans (if_pos h)

/-- A tap map is sent as the bytes that it was made of. -/
theorem map_tapByte_tapEntry {v : List Byte} (h : ∀ b ∈ v, TapByte b) : (v.map tapEntry).map tapByte = v := by
  rw [List.map_map]
  exact (List.map_congr_left fun b hb => tapByte_tapEntry (h b hb)).trans (List.map_id v)

/-! ### Locks -/

/-- The lock of R78, by the run or by a PROBE arm. -/
theorem statisticsLock_iff (d : Dev) :
    statisticsLock d = true ↔ runHoldsLock d = true ∨ ∃ a, d.trigger.arm = some a ∧ a.mode = .probe := by
  unfold statisticsLock
  cases d.trigger.arm <;> simp

/-- The gap items are locked by the run and in a confirmation (Table 6-5). -/
theorem detectorLocked_gap {i : DetectorItem} (hi : i ∈ [DetectorItem.enterNeg, .leaveNeg, .enterPos, .leavePos, .minGap]) (d : Dev) :
    detectorLocked i d = true ↔ runHoldsLock d = true ∨ d.detector.activity = .confirm := by
  simp only [List.mem_cons, List.not_mem_nil, or_false] at hi
  rcases hi with rfl | rfl | rfl | rfl | rfl <;> simp [detectorLocked]

/-- The mark items are locked while the run is RUNNING or SUSPENDING (Table 6-5). -/
theorem detectorLocked_mark {i : DetectorItem} (hi : i ∈ [DetectorItem.blipOffset, .blipActive, .l1Min, .l2Min, .l3Min, .maxMark])
    (d : Dev) : detectorLocked i d = runIn d [.running, .suspending] := by
  simp only [List.mem_cons, List.not_mem_nil, or_false] at hi
  rcases hi with rfl | rfl | rfl | rfl | rfl | rfl <;> rfl

/-! ### Frames -/

/-- A whole frame that the Service port permits goes to the owning block. -/
theorem takeFrame_whole {r : Request} {s : State} (tag : Byte) {len : Byte} {body : List Byte} (h : Handler)
    (hi : (s.dev.ports.get .service).state = .idle) (h60 : len.toNat ≤ 60) (hlen : len.toNat ≤ body.length)
    (hp : permitted r .service = true) :
    onDev (takeFrame (some r) .service (tag :: len :: body) h) s
      = nextAnswer s tag (h (body.take len.toNat) (heard .service (tag :: len :: body) s)) := by
  have hok : frameLengthOk (tag :: len :: body) len = true := frameLengthOk_of_long tag len body h60 hlen
  simp [onDev, takeFrame, hi, hok, hp, framePayload_cons tag body h60, nextAnswer, answers, heard]

/-- A CONFIG_WRITE of no item is refused as its payload is (R190). -/
theorem exec_unknownItem {s : State} (tag : Byte) {len : Byte} {item : Option Byte} {v : List Byte} {r : Result}
    (hi : (s.dev.ports.get .service).state = .idle) (h60 : len.toNat ≤ 60) (hlen : len.toNat ≤ (item.toList ++ v).length)
    (hr : ∀ d, answerUnknownItem ((item.toList ++ v).take len.toNat) d = refuse r d) :
    exec (.configWriteUnknownItem .service tag len item v) s
      = .next (answers s .service tag r [] (heard .service (unknownItemFrame tag len item v) s)) :=
  (takeFrame_whole tag answerUnknownItem hi h60 hlen rfl).trans (congrArg (nextAnswer s tag) (hr _))

/-! ### Detector items -/

/-- The value `x` of a detector item is stored in the configuration `cfg` and answered. -/
def StoresItem (s : State) (tag len : Byte) (v : List Byte) (i : DetectorItem) (x : Nat) (cfg : DetectorConfig) : Prop :=
  exec (.configWriteDetectorItem .service tag len i v) s
    = .next (answers s .service tag .ok (BitVec.ofNat 8 (detectorItemId i) :: leBytes (configItemWidth (.detector i)) x)
        ((heard .service (configFrame tag len (detectorItemId i) v) s).setDetector { s.dev.detector with cfg := cfg }))

/-- A detector item's write is refused. -/
def RefusesItem (s : State) (tag len : Byte) (v : List Byte) (i : DetectorItem) (r : Result) : Prop :=
  exec (.configWriteDetectorItem .service tag len i v) s
    = .next (answers s .service tag r [] (heard .service (configFrame tag len (detectorItemId i) v) s))

section
variable {s : State} {len : Byte} {v : List Byte} {i : DetectorItem} (tag : Byte)
  (hi : (s.dev.ports.get .service).state = .idle) (h60 : len.toNat ≤ 60) (hv : len.toNat ≤ 1 + v.length)
  (hw : 1 + configItemWidth (.detector i) ≤ len.toNat)
include hi h60 hv hw

/-- What the Service port answers to a CONFIG_WRITE of a detector item. -/
theorem exec_configWriteDetectorItem :
    exec (.configWriteDetectorItem .service tag len i v) s = nextAnswer s tag
      (if detectorLocked i s.dev = true then refuse .state (heard .service (configFrame tag len (detectorItemId i) v) s)
      else match setDetectorItem i (leNat (v.take (configItemWidth (.detector i)))) s.dev.detector.cfg with
        | some cfg => stored (.detector i) ((heard .service (configFrame tag len (detectorItemId i) v) s).setDetector
            { s.dev.detector with cfg := cfg })
        | none => refuse .badValue (heard .service (configFrame tag len (detectorItemId i) v) s)) := by
  have hl : detectorLocked i (heard .service (configFrame tag len (detectorItemId i) v) s) = detectorLocked i s.dev := by
    cases i <;> rfl
  rw [← hl]
  exact takeFrame_writeItem (detectorItemId i) (.detector i) _ hi hw h60 hv

theorem detectorItem_locked (hl : detectorLocked i s.dev = true) : RefusesItem s tag len v i .state := by
  rw [RefusesItem, exec_configWriteDetectorItem tag hi h60 hv hw, if_pos hl]
  rfl

theorem detectorItem_refused (hl : ¬ detectorLocked i s.dev = true)
    (hn : setDetectorItem i (leNat (v.take (configItemWidth (.detector i)))) s.dev.detector.cfg = none) :
    RefusesItem s tag len v i .badValue := by
  rw [RefusesItem, exec_configWriteDetectorItem tag hi h60 hv hw, if_neg hl, hn]
  rfl

theorem detectorItem_stored {cfg : DetectorConfig} {x : Nat} (hl : ¬ detectorLocked i s.dev = true)
    (hc : setDetectorItem i (leNat (v.take (configItemWidth (.detector i)))) s.dev.detector.cfg = some cfg)
    (hx : detectorValue cfg i = x) : StoresItem s tag len v i x cfg := by
  rw [StoresItem, exec_configWriteDetectorItem tag hi h60 hv hw, if_neg hl, hc, ← hx]
  rfl

/-- A threshold is stored as written in its range, and refused outside it (R124). -/
theorem detectorItem_threshold {p : Prop} [Decidable p] {cfg : DetectorConfig} (hl : ¬ detectorLocked i s.dev = true)
    (hc : setDetectorItem i (leNat (v.take (configItemWidth (.detector i)))) s.dev.detector.cfg = if p then some cfg else none)
    (hx : detectorValue cfg i = leNat (v.take (configItemWidth (.detector i)))) :
    (p → StoresItem s tag len v i (leNat (v.take (configItemWidth (.detector i)))) cfg) ∧
      (¬ p → RefusesItem s tag len v i .badValue) :=
  ⟨fun h => detectorItem_stored tag hi h60 hv hw hl (hc.trans (if_pos h)) hx,
    fun h => detectorItem_refused tag hi h60 hv hw hl (hc.trans (if_neg h))⟩

end

/-! ### Named choices -/

theorem combineModeOf_none {n : Nat} (h : 1 < n) : combineModeOf n = none := by
  match n with
  | 0 | 1 => omega
  | _ + 2 => rfl

theorem blipLevelOf_none {n : Nat} (h : 1 < n) : blipLevelOf n = none := by
  match n with
  | 0 | 1 => omega
  | _ + 2 => rfl

/-- The combine mode written and the condition recomputed (R65). -/
def combineModeSet (m : CombineMode) (d : Dev) : Dev := settle (recomputeGuard (d.setGuard { d.guard with combineMode := m }))

/-- The condition in force is that of the new mode. -/
theorem combineModeSet_guard (m : CombineMode) (d : Dev) :
    (combineModeSet m d).guard = outputsNew { d.guard with combineMode := m } := by
  unfold combineModeSet
  rw [settle_guard, recomputeGuard_guard]
  rfl

section
variable {s : State} {len : Byte} {v : List Byte} (tag : Byte)
  (hi : (s.dev.ports.get .service).state = .idle) (h60 : len.toNat ≤ 60) (hv : len.toNat ≤ 1 + v.length)
include hi h60 hv

theorem exec_combineMode_refused (hw : 2 ≤ len.toNat) (hbad : 1 < leNat (v.take 1)) :
    exec (.configWriteCombineMode .service tag len v) s
      = nextAnswer s tag (refuse .badValue (heard .service (configFrame tag len 0x21 v) s)) := by
  refine (takeFrame_writeItem 0x21 .combineMode _ hi hw h60 hv).trans ?_
  simp only [configItemWidth, combineModeOf_none hbad]
  rfl

theorem exec_combineMode_stored {m : CombineMode} (hw : 2 ≤ len.toNat) (hm : combineModeOf (leNat (v.take 1)) = some m) :
    exec (.configWriteCombineMode .service tag len v) s
      = nextAnswer s tag (stored .combineMode (combineModeSet m (heard .service (configFrame tag len 0x21 v) s))) := by
  refine (takeFrame_writeItem 0x21 .combineMode _ hi hw h60 hv).trans ?_
  simp only [configItemWidth, hm]
  rfl

theorem exec_tapMap_refused (hw : 9 ≤ len.toNat)
    (hl : ¬ statisticsLock (heard .service (configFrame tag len 0x29 v) s) = true) (hn : tapMapOf (v.take 8) = none) :
    exec (.configWriteTapMap .service tag len v) s
      = nextAnswer s tag (refuse .badValue (heard .service (configFrame tag len 0x29 v) s)) := by
  refine (takeFrame_writeItem 0x29 .tapMap _ hi hw h60 hv).trans ?_
  simp only [configItemWidth, if_neg hl, hn]
  rfl

theorem exec_tapMap_stored {m : TapMap} (hw : 9 ≤ len.toNat)
    (hl : ¬ statisticsLock (heard .service (configFrame tag len 0x29 v) s) = true) (hm : tapMapOf (v.take 8) = some m) :
    exec (.configWriteTapMap .service tag len v) s
      = nextAnswer s tag (stored .tapMap ((heard .service (configFrame tag len 0x29 v) s).setLines { s.dev.lines with tapMap := m })) := by
  refine (takeFrame_writeItem 0x29 .tapMap _ hi hw h60 hv).trans ?_
  simp only [configItemWidth, if_neg hl, hm]
  rfl

end

/-- Settles O55: each item's own lock and range. -/
theorem chosenItemsAreRefusedOrStored : Obligations.ChosenItemsAreRefusedOrStored := by
  intro s tag len v hi h60 hv d ok refused locked arranged
  have hlock : ∀ {id : Nat}, statisticsLock (d id) = true ↔ arranged := fun {id} => statisticsLock_iff (d id)
  have hgap : ∀ {i}, i ∈ [DetectorItem.enterNeg, .leaveNeg, .enterPos, .leavePos, .minGap] →
      (detectorLocked i s.dev = true ↔ locked ∨ s.dev.detector.activity = .confirm) := fun hm => detectorLocked_gap hm s.dev
  refine ⟨fun hw => ⟨fun hspeed => ?_, fun h100 h400 => ?_⟩,
    fun hw => ⟨fun m hm => ?_, fun hbad => ?_, fun ha => ?_, fun ha hbad => ?_, fun ha h1 h4 => ?_, fun i hm hl => ?_,
      fun hl hc hlow hhigh => ?_, fun hl hc hlow => ?_⟩,
    fun i hw => ?_,
    fun hw => ⟨fun ha => ?_, fun ha hbad => ?_, fun ha hbytes hdead => ?_⟩, fun item h1 _ => ?_, ?_⟩
  · exact (takeFrame_writeItem 0x20 .busSpeed _ hi hw h60 hv).trans (congrArg (nextAnswer s tag)
      (if_neg fun ⟨h100, h400⟩ => hspeed.elim h100 h400))
  · exact (takeFrame_writeItem 0x20 .busSpeed _ hi hw h60 hv).trans (congrArg (nextAnswer s tag) (if_pos ⟨h100, h400⟩))
  · have hg := combineModeSet_guard m (d 0x21)
    refine ⟨_, exec_combineMode_stored tag hi h60 hv hw hm, rfl, ?_, ?_, ?_⟩
    · exact congrArg (·.combineMode) hg
    · exact (congrArg (·.stopCondition) hg).trans (congrArg stopConditionOf hg).symm
    · have hpayload : configAnswer (combineModeSet m (d 0x21)) .combineMode = BitVec.ofNat 8 0x21 :: leBytes 1 (combineModeCode m) :=
        congrArg (fun g : Guard => BitVec.ofNat 8 0x21 :: leBytes 1 (combineModeCode g.combineMode)) hg
      rw [← hpayload]
      exact congrArg (·.response) (respond_get .service tag .ok _ _)
  · exact exec_combineMode_refused tag hi h60 hv hw hbad
  · exact (takeFrame_writeItem 0x2A .stride _ hi hw h60 hv).trans (congrArg (nextAnswer s tag) (if_pos (hlock.2 ha)))
  · exact (takeFrame_writeItem 0x2A .stride _ hi hw h60 hv).trans (congrArg (nextAnswer s tag)
      ((if_neg (mt hlock.1 ha)).trans (if_pos hbad)))
  · exact (takeFrame_writeItem 0x2A .stride _ hi hw h60 hv).trans (congrArg (nextAnswer s tag)
      ((if_neg (mt hlock.1 ha)).trans (if_neg fun h => h.elim (Nat.not_lt.2 h1) (Nat.not_lt.2 h4))))
  · have hwidth : ∀ i ∈ [DetectorItem.enterNeg, .leaveNeg, .enterPos, .leavePos], configItemWidth (.detector i) = 1 := by decide
    exact detectorItem_locked tag hi h60 hv (by rw [hwidth i hm]; exact hw)
      ((hgap (List.mem_append_left [DetectorItem.minGap] hm)).2 (.inl hl))
  · exact detectorItem_stored (i := .enterNeg) tag hi h60 hv hw (mt (hgap (by simp)).1 (not_or.2 ⟨hl, hc⟩))
      (if_pos ⟨hlow, hhigh⟩) rfl
  · exact detectorItem_refused (i := .enterNeg) tag hi h60 hv hw (mt (hgap (by simp)).1 (not_or.2 ⟨hl, hc⟩))
      (if_neg fun h => Nat.not_lt.2 h.1 hlow)
  · intro n c scanning gapLock byte stores refuses
    have hrefused : detectorLocked i s.dev = true → refuses .state := detectorItem_locked tag hi h60 hv hw
    have hstored : ∀ {cfg x}, ¬ detectorLocked i s.dev = true → setDetectorItem i n c = some cfg → detectorValue cfg i = x →
        stores x cfg := detectorItem_stored tag hi h60 hv hw
    have hrange : ∀ {p : Prop} [Decidable p] {cfg : DetectorConfig}, ¬ detectorLocked i s.dev = true →
        setDetectorItem i n c = (if p then some cfg else none) → detectorValue cfg i = n →
        (p → stores n cfg) ∧ (¬ p → refuses .badValue) :=
      detectorItem_threshold tag hi h60 hv hw
    have hbounded : ∀ {a b : Nat} {cfg : DetectorConfig}, ¬ detectorLocked i s.dev = true →
        setDetectorItem i n c = (if a ≤ b ∧ n ≤ 255 then some cfg else none) → detectorValue cfg i = n →
        (a ≤ b → n ≤ 255 → stores n cfg) ∧ (b < a → refuses .badValue) := fun hl hc hx =>
      have ⟨hin, hout⟩ := hrange hl hc hx
      ⟨fun hab h255 => hin ⟨hab, h255⟩, fun hba => hout fun h => Nat.not_lt.2 h.1 hba⟩
    have hfree : i ∈ [DetectorItem.enterNeg, .leaveNeg, .enterPos, .leavePos, .minGap] → ¬ gapLock → ¬ detectorLocked i s.dev = true :=
      fun hm hl => mt (hgap hm).1 hl
    have hmark : i ∈ [DetectorItem.blipOffset, .blipActive, .l1Min, .l2Min, .l3Min, .maxMark] →
        (detectorLocked i s.dev = true ↔ scanning) := fun hm => by rw [detectorLocked_mark hm]
    refine ⟨?_, ?_, ?_, ?_, ?_, fun hm hs => hrefused ((hmark hm).2 hs), fun hs => ⟨?_, ?_, ?_, ?_, ?_, ?_⟩⟩ <;> rintro rfl
    · exact ⟨fun hl => hrefused ((hgap (by simp)).2 hl), fun hl => hstored (hfree (by simp) hl) rfl rfl⟩
    · exact hstored (by simp [detectorLocked]) rfl rfl
    · exact fun hl => hbounded (hfree (by simp) hl) rfl rfl
    · exact fun hl => hbounded (hfree (by simp) hl) rfl rfl
    · exact fun hl => hbounded (hfree (by simp) hl) rfl rfl
    · have hclamp : clampNat 0 50000 n = min 50000 n := Nat.zero_max _
      exact hstored (mt (hmark (by simp)).1 hs) (hclamp ▸ rfl) rfl
    · have hl := mt (hmark (by simp)).1 hs
      refine ⟨fun hn => ?_, fun hn => ?_, fun hn => ?_⟩
      · exact hstored hl (by rw [hn]; rfl) rfl
      · exact hstored hl (by rw [hn]; rfl) rfl
      · exact detectorItem_refused tag hi h60 hv hw hl (congrArg (Option.map _) (blipLevelOf_none hn))
    · obtain ⟨hin, hout⟩ := hrange (mt (hmark (by simp)).1 hs) rfl rfl
      exact ⟨fun h1 h2 h3 => hin ⟨h1, h2, h3⟩, fun h => hout (by omega)⟩
    · obtain ⟨hin, hout⟩ := hrange (mt (hmark (by simp)).1 hs) rfl rfl
      exact ⟨fun h1 h2 h3 h4 => hin ⟨h1, h2, h3, h4⟩, fun h => hout (by omega)⟩
    · obtain ⟨hin, hout⟩ := hrange (mt (hmark (by simp)).1 hs) rfl rfl
      exact ⟨fun h1 h2 h3 h4 => hin ⟨h1, h2, h3, h4⟩, fun h => hout (by omega)⟩
    · obtain ⟨hin, hout⟩ := hrange (mt (hmark (by simp)).1 hs) rfl rfl
      exact ⟨fun h1 h2 h3 => hin ⟨h1, h2, h3⟩, fun h => hout (by omega)⟩
  · exact (takeFrame_writeItem 0x29 .tapMap _ hi hw h60 hv).trans (congrArg (nextAnswer s tag) (if_pos (hlock.2 ha)))
  · have h8 : (v.take 8).length = 8 := by rw [List.length_take]; omega
    exact exec_tapMap_refused tag hi h60 hv hw (mt hlock.1 ha) (tapMapOf_none h8 hbad)
  · have h8 : (v.take 8).length = 8 := by rw [List.length_take]; omega
    obtain ⟨m, hlist, hm⟩ := tapMapOf_eq h8 hbytes
    have hpayload : m.toList.map tapByte = v.take 8 := by rw [hlist, map_tapByte_tapEntry hbytes]
    refine ⟨m, (exec_tapMap_stored tag hi h60 hv hw (mt hlock.1 ha) (hm.trans (if_neg hdead))).trans ?_, fun j b hj hb => ?_⟩
    · rw [← hpayload]
      rfl
    · rw [hlist, List.getElem?_map, List.getElem?_take_of_lt hj, hb]
      rfl
  · exact exec_unknownItem tag hi h60 (by simpa [Nat.add_comm] using hv) fun e => if_neg (by simp; omega)
  · exact exec_unknownItem (len := 0) tag hi (by decide) (by decide) fun e => rfl

end Sys2Proof.Proofs

/-! SCAN_START: O44. -/

namespace Sys2Proof.Proofs

open Sys2Proof Sys2Proof.Machine

/-! ### SCAN_START -/

/-- What refuses a SCAN_START with STATE (R144, step 1). -/
theorem scanStartState_blocked {d : Dev} {q : ScanRequest}
    (h : d.roll.state ≠ .ready ∨ runIn d [.queued, .preparing, .running, .suspending, .suspended, .ending] = true
      ∨ d.index.session ≠ none
      ∨ (q.focusCode ≠ 0 ∧ (d.focus.lens.state = .unhomed ∨ d.focus.lens.state = .fault))) : scanStartState d q = false := by
  unfold scanStartState
  rcases h with hroll | hrun | hsession | ⟨hcode, hlens⟩
  · simp [hroll]
  · have hbusy : (d.scan.run.isNone || runIn d [.ended]) = false := by
      unfold runIn at hrun ⊢
      cases hr : d.scan.run with
      | none => simp [hr] at hrun
      | some r => cases hs : r.state <;> simp [hr, hs] at hrun ⊢
    simp [hbusy]
  · simp [hsession]
  · rcases hlens with hlens | hlens <;> simp [hcode, hlens]

theorem scanStartState_free {d : Dev} {q : ScanRequest} (hroll : d.roll.state = .ready) (hrun : d.scan.run = none)
    (hsession : d.index.session = none)
    (hlens : q.focusCode = 0 ∨ d.focus.lens.state = .idle ∨ d.focus.lens.state = .moving ∨ d.focus.lens.state = .homing) :
    scanStartState d q = true := by
  unfold scanStartState
  rw [hroll, hrun, hsession]
  rcases hlens with h | h | h | h <;> simp [h]

theorem withinLimits_of_le {d : Dev} {x : Int} (hlow : -2000000 ≤ x) (hhigh : x ≤ upperLimit d) : withinLimits d x = true :=
  decide_eq_true ⟨hlow, hhigh⟩

/-- A base with its initial gap state, as the start mode of a SCAN_START gives it (Table 8-3). -/
def BaseOf (d : Dev) (q : ScanRequest) (m : StartMode) (base : Int) (st : ResumeState) : Prop :=
  (m = .atPosition ∧ base = leInt q.startParam ∧ st = .unknown)
    ∨ (∃ n entry, m = .atFrame n ∧ d.index.entries[n]? = some entry ∧ base = entry.start - 2 * d.detector.cfg.minGap
      ∧ st = .unknown)
    ∨ (∃ entry, m = .continue_ ∧ d.index.entries.getLast? = some entry ∧ base = entry.start + entry.length ∧ st = .inGap)
    ∨ (m = .continue_ ∧ d.index.entries = [] ∧ base = d.metering.counter ∧ st = .unknown)

theorem scanBase_eq {d : Dev} {q : ScanRequest} {m : StartMode} {base : Int} {st : ResumeState} (h : BaseOf d q m base st)
    (hlow : -2000000 ≤ base) (hhigh : base ≤ upperLimit d) : scanBase d q m = .inr (base, st) := by
  have hin : baseInLimits d base st = .inr (base, st) := if_pos (withinLimits_of_le hlow hhigh)
  rcases h with ⟨rfl, rfl, rfl⟩ | ⟨n, entry, rfl, hentry, rfl, rfl⟩ | ⟨entry, rfl, hlast, rfl, rfl⟩ | ⟨rfl, hnone, rfl, rfl⟩
  · exact hin
  · have hcast : entry.start - (2 * d.detector.cfg.minGap : Nat) = entry.start - 2 * (d.detector.cfg.minGap : Int) := by push_cast; rfl
    simp only [scanBase, entryAt, hentry, hcast, hin]
  · simp only [scanBase, lastEntry, hlast]
    exact hin
  · simp only [scanBase, lastEntry, hnone, List.getLast?_nil]
    exact hin

theorem endConditionOk_of {e : EndCondition} (h : ∀ k, e = .frameCount k → 1 ≤ k ∧ k ≤ 8192) : endConditionOk e = true := by
  cases e with
  | frameCount k => exact decide_eq_true (h k rfl)
  | untilRollEnd => rfl
  | untilPosition u => rfl

theorem endPositionOk_of {d : Dev} {base : Int} {e : EndCondition}
    (h : ∀ u, e = .untilPosition u → -2000000 ≤ u ∧ u ≤ upperLimit d ∧ base < u) : endPositionOk d base e = true := by
  cases e with
  | untilPosition u =>
    obtain ⟨hlow, hhigh, hbase⟩ := h u rfl
    exact Bool.and_eq_true_iff.2 ⟨withinLimits_of_le hlow hhigh, decide_eq_true hbase⟩
  | untilRollEnd => rfl
  | frameCount k => rfl

section
variable {p : List Byte} {d : Dev}

theorem answerScanStart_blocked (hp : 16 ≤ p.length) (h : scanStartState d (scanRequestOf p) = false) :
    answerScanStart p d = refuse .state d := by
  unfold answerScanStart needBytes
  rw [if_neg (by omega)]
  dsimp only
  rw [h]
  rfl

/-- Every check of R144 passed: the new record is put in place. -/
theorem answerScanStart_taken {m : StartMode} {e : EndCondition} {f : FocusOption} {y : YieldPolicy} {base : Int} {st : ResumeState}
    (hp : 16 ≤ p.length) (hstate : scanStartState d (scanRequestOf p) = true) (hm : startModeOf (scanRequestOf p) = some m)
    (he : endConditionOf (scanRequestOf p) = some e) (hf : focusOptionOf (scanRequestOf p).focusCode = some f)
    (hy : yieldPolicyOf (scanRequestOf p).policyCode = some y) (hspeed : 1 ≤ (scanRequestOf p).speed)
    (hspeed' : (scanRequestOf p).speed ≤ 1000) (hpitch : 256 ≤ (scanRequestOf p).pitch) (hend : endConditionOk e = true)
    (hbase : scanBase d (scanRequestOf p) m = .inr (base, st)) (hpos : endPositionOk d base e = true)
    (hv : clampSpeed d.lines.maxRate (scanRequestOf p).speed (scanRequestOf p).pitch ≠ 0) :
    answerScanStart p d = taken .accepted
      (leBytes 1 d.scan.runCounter ++ leBytes 2 (clampSpeed d.lines.maxRate (scanRequestOf p).speed (scanRequestOf p).pitch)
        ++ leSigned 4 base)
      (queueRun (newRun d m base st e (clampSpeed d.lines.maxRate (scanRequestOf p).speed (scanRequestOf p).pitch)
        (scanRequestOf p).pitch f y) d) := by
  unfold answerScanStart needBytes
  rw [if_neg (by omega)]
  dsimp only
  rw [hstate, hm, he, hf, hy]
  dsimp only
  rw [Bool.not_true, if_neg Bool.false_ne_true, if_neg (by simp only [hend, Bool.true_eq_false, or_false]; omega), hbase]
  exact if_neg (by simp [hpos, hv])

end

theorem exec_scanStart {s : State} (tag : Byte) {p : List Byte} (x : List Byte) (ht : takes s .capture p) {a : Answer}
    (ha : answerScanStart p (heard .capture (requestFrame tag p x) s) = a) :
    exec (.scanStart .capture (requestFrame tag p x)) s = .next (answers s .capture tag a.result a.payload a.dev) :=
  ha ▸ takeFrame_takes .scanStart .capture tag p x answerScanStart s ht rfl

/-- Settles O44, by the order of the checks in the answer. -/
theorem scanStartQueuesTheRun : Obligations.ScanStartQueuesTheRun := by
  intro s tag p x m e f y base st ht hp
  refine ⟨fun h => exec_scanStart tag x ht (answerScanStart_blocked hp (scanStartState_blocked h)), ?_⟩
  intro hroll hrun hsession hlens hm he hf hy hspeed hspeed' hpitch hv hcount huntil hlow hhigh hbase
  exact exec_scanStart tag x ht (answerScanStart_taken hp (scanStartState_free hroll hrun hsession hlens) hm he hf hy hspeed hspeed' hpitch
    (endConditionOk_of hcount) (scanBase_eq (d := heard .capture (requestFrame tag p x) s) hbase hlow hhigh) (endPositionOk_of huntil) hv)

end Sys2Proof.Proofs

/-! The reactions of a device whose generator is not armed: none of them makes an arm while no order reports an arrival (R69, R72). -/

namespace Sys2Proof.Proofs

open Sys2Proof Sys2Proof.Machine

/-- A report that an order has arrived: the one report on which a block can arm the generator (R92, R171). -/
def reportsArrival : Report → Bool
  | .orderEnded _ .arrived _ => true
  | _ => false

/-- The generator and the capture are as `t` and `l` say, the generator is not armed, and no report of an arrival waits. -/
structure Unarmed (t : Trigger) (l : Lines) (d : Dev) : Prop where
  trigger : d.trigger = t
  arm : t.arm = none
  lines : d.lines = l
  inbox : ∀ r ∈ d.inbox, reportsArrival r = false

section
variable {t : Trigger} {l : Lines} {d e : Dev}

/-! ### Updates of a block -/

/-- A change outside the generator, the capture and the inbox. -/
theorem Unarmed.same (h : Unarmed t l d) (ht : e.trigger = d.trigger) (hl : e.lines = d.lines) (hi : e.inbox = d.inbox) :
    Unarmed t l e :=
  ⟨ht.trans h.trigger, h.arm, hl.trans h.lines, hi.symm ▸ h.inbox⟩

theorem Unarmed.ite {p : Prop} [Decidable p] (hd : Unarmed t l d) (he : Unarmed t l e) : Unarmed t l (if p then d else e) := by
  split
  · exact hd
  · exact he

/-- An operation that is done under a condition only. -/
theorem Unarmed.step_if {p : Prop} [Decidable p] {f : Dev} (hf : Unarmed t l d → Unarmed t l f) (hd : Unarmed t l d) :
    Unarmed t l (if p then f else d) :=
  .ite (hf hd) hd

theorem Unarmed.snd_ite {α : Type} {p : Prop} [Decidable p] {x y : α × Dev} (hx : Unarmed t l x.2) (hy : Unarmed t l y.2) :
    Unarmed t l (if p then x else y).2 := by
  split
  · exact hx
  · exact hy

theorem Unarmed.of_ite_some {p : Prop} [Decidable p] (hr : (if p then some d else none) = some e) (h : Unarmed t l d) : Unarmed t l e := by
  split at hr
  · exact Option.some.inj hr ▸ h
  · contradiction

theorem setTransport_unarmed {x : Transport} (h : Unarmed t l d) : Unarmed t l (d.setTransport x) := h.same rfl rfl rfl
theorem setFocus_unarmed {x : Focus} (h : Unarmed t l d) : Unarmed t l (d.setFocus x) := h.same rfl rfl rfl
theorem setRetrieval_unarmed {x : Retrieval} (h : Unarmed t l d) : Unarmed t l (d.setRetrieval x) := h.same rfl rfl rfl
theorem modifyRun_unarmed {f : RunRecord → RunRecord} (h : Unarmed t l d) : Unarmed t l (modifyRun f d) := h.same rfl rfl rfl
theorem raise_unarmed {id : PortId} {k : EventKind} (h : Unarmed t l d) : Unarmed t l (raise id k d) := h.same rfl rfl rfl

theorem report_unarmed {r : Report} (hr : reportsArrival r = false) (h : Unarmed t l d) : Unarmed t l (report r d) :=
  ⟨h.trigger, h.arm, h.lines, fun r' hr' =>
    (List.mem_append.1 hr').elim (h.inbox r') fun hnew => List.mem_singleton.1 hnew ▸ hr⟩

/-- A disarm of a generator that is not armed does nothing. -/
theorem Unarmed.disarm_eq {why : DisarmCause} {atClose : Bool} (h : Unarmed t l d) : disarm why atClose d = d :=
  disarm_of_unarmed why atClose d (h.trigger ▸ h.arm)

theorem setRunState_unarmed {st : RunState} (h : Unarmed t l d) : Unarmed t l (setRunState st d) := by
  unfold setRunState
  split
  · exact h
  · exact .ite h (h.same rfl rfl rfl)

theorem applyPending_unarmed (h : Unarmed t l d) : Unarmed t l (applyPending d) := by
  unfold applyPending
  split
  · exact h
  · exact h.same rfl rfl rfl

theorem driftReport_unarmed {n : Nat} {delta : Int} (h : Unarmed t l d) : Unarmed t l (driftReport n delta d).2 := by
  unfold driftReport
  split
  · exact .ite (applyPending_unarmed (h.same rfl rfl rfl)) (h.same rfl rfl rfl)
  · exact h.same rfl rfl rfl

theorem pushNotice_unarmed {n : Notice} (h : Unarmed t l d) : Unarmed t l (pushNotice n d) :=
  .ite (h.same rfl rfl rfl) (h.same rfl rfl rfl)

theorem truncateOpen_unarmed (h : Unarmed t l d) : Unarmed t l (truncateOpen d) := by
  unfold truncateOpen
  split
  next f r _ _ =>
    have hgate : Unarmed t l (setGate false d) := h.same rfl rfl rfl
    exact (pushNotice_unarmed (n := truncatedNotice r.number f d) hgate).same rfl rfl rfl
  next => exact h.same rfl rfl rfl

/-! ### The lens -/

theorem lensRest_unarmed (h : Unarmed t l d) : Unarmed t l (lensRest d) := .ite (h.same rfl rfl rfl) (h.same rfl rfl rfl)

theorem beginSettle_unarmed {m : MoveRecord} (h : Unarmed t l d) : Unarmed t l (beginSettle m d) :=
  .ite (lensRest_unarmed (setFocus_unarmed h)) (setFocus_unarmed h)

theorem moveRequest_unarmed {n : Nat} {q : Requester} (h : Unarmed t l d) : Unarmed t l (moveRequest n q d).2 := by
  have hreported : ∀ b : Bool, Unarmed t l (if b then report .searchSuperseded d else d) := fun _ => .ite (report_unarmed rfl h) h
  unfold moveRequest
  dsimp only
  split
  · exact h
  · exact h
  · exact h
  · exact .snd_ite h (h.same rfl rfl rfl)
  · exact .snd_ite (beginSettle_unarmed (hreported _)) (setFocus_unarmed (hreported _))

/-! ### The grant and the orders -/

theorem dropGrant_unarmed (h : Unarmed t l d) : Unarmed t l (dropGrant d) := by
  have hset : Unarmed t l (d.setTransport { d.transport with grant := .nobody, releasePending := false }) := setTransport_unarmed h
  unfold dropGrant
  dsimp only
  rw [hset.trigger, h.arm]
  exact hset

theorem releaseGrant_unarmed {o : Owner} (h : Unarmed t l d) : Unarmed t l (releaseGrant o d) :=
  .ite h (.ite (dropGrant_unarmed h) (setTransport_unarmed h))

theorem giveGrant_unarmed {o : Owner} (h : Unarmed t l d) : Unarmed t l (giveGrant o d) := .ite (h.same rfl rfl rfl) (h.same rfl rfl rfl)

theorem startOrder_unarmed {o : Order} (h : Unarmed t l d) : Unarmed t l (startOrder o d) := by
  unfold startOrder
  split
  · exact report_unarmed rfl h
  · split
    · exact setTransport_unarmed h
    · exact report_unarmed rfl (setTransport_unarmed h)
    · exact setTransport_unarmed h
    · exact setTransport_unarmed h
    · exact h

theorem giveStop_unarmed {o : Owner} (h : Unarmed t l d) : Unarmed t l (giveStop o d) := by
  have hstopped : ∀ x, Unarmed t l (report (.orderEnded o .stopped true) (d.setTransport x)) :=
    fun _ => report_unarmed rfl (setTransport_unarmed h)
  refine .ite (report_unarmed rfl h) ?_
  split
  · exact setTransport_unarmed h
  · exact setTransport_unarmed h
  · exact setTransport_unarmed h
  · exact setTransport_unarmed h
  · exact hstopped d.transport
  · exact hstopped d.transport
  · exact hstopped _
  · exact .ite h (setTransport_unarmed h)
  · exact h

theorem giveOrder_unarmed {o : Order} (h : Unarmed t l d) : Unarmed t l (giveOrder o d) := by
  refine .ite (report_unarmed rfl h) ?_
  split
  · exact giveStop_unarmed h
  · split
    · exact setTransport_unarmed h
    · exact setTransport_unarmed h
    · exact report_unarmed rfl h
    · exact startOrder_unarmed h

/-! ### The focus search -/

theorem closeSearchMotion_unarmed {who : SearchOwner} (h : Unarmed t l d) : Unarmed t l (closeSearchMotion who d) := by
  unfold closeSearchMotion
  rw [h.trigger, h.arm]
  exact .ite (giveStop_unarmed h) h

theorem leaveToRun_unarmed {b : Bool} {best : Option (Nat × Nat)} {n : Nat} (h : Unarmed t l d) : Unarmed t l (leaveToRun b best n d) := by
  unfold leaveToRun
  split
  · exact h
  · split
    · exact .ite (setFocus_unarmed h) h
    · exact setFocus_unarmed h
    · exact h

theorem endSearch_unarmed {lost : Bool} (h : Unarmed t l d) : Unarmed t l (endSearch lost d) := by
  unfold endSearch
  split
  · exact h
  · have hclosed : ∀ w o b, Unarmed t l (recordOutcome w o b (closeSearchMotion w d)) :=
      fun _ _ _ => (closeSearchMotion_unarmed h).same rfl rfl rfl
    dsimp only
    split
    · exact report_unarmed rfl (leaveToRun_unarmed (.ite (hclosed _ _ _) (moveRequest_unarmed (hclosed _ _ _))))
    · exact releaseGrant_unarmed (.ite (hclosed _ _ _) (moveRequest_unarmed (hclosed _ _ _)))

theorem abandonSearch_unarmed (h : Unarmed t l d) : Unarmed t l (abandonSearch d) := by
  unfold abandonSearch
  split
  · exact h
  · dsimp only
    split
    · exact (closeSearchMotion_unarmed h).same rfl rfl rfl
    · exact releaseGrant_unarmed ((closeSearchMotion_unarmed h).same rfl rfl rfl)

/-! ### The scan run controller -/

theorem endRun_unarmed (h : Unarmed t l d) : Unarmed t l (endRun d) :=
  (setRunState_unarmed (st := .ended) (modifyRun_unarmed h)).same rfl rfl rfl

theorem beginEnding_unarmed {c : RunCause} (h : Unarmed t l d) : Unarmed t l (beginEnding c d) := setRunState_unarmed (modifyRun_unarmed h)

theorem beginSuspending_unarmed {c : RunCause} (h : Unarmed t l d) : Unarmed t l (beginSuspending c d) :=
  setRunState_unarmed (modifyRun_unarmed h)

theorem suspendRun_unarmed {c : RunCause} {b : Bool} (h : Unarmed t l d) : Unarmed t l (suspendRun c b d) :=
  setRunState_unarmed (modifyRun_unarmed h)

theorem endAtDisarm_unarmed {c : RunCause} (h : Unarmed t l d) : Unarmed t l (endAtDisarm c d) :=
  .ite (beginEnding_unarmed (giveStop_unarmed h)) h

theorem endAtLimit_unarmed (h : Unarmed t l d) : Unarmed t l (endAtLimit d) := by
  unfold endAtLimit
  rw [Unarmed.disarm_eq h]
  exact endRun_unarmed (modifyRun_unarmed (releaseGrant_unarmed h))

theorem failPreparation_unarmed (h : Unarmed t l d) : Unarmed t l (failPreparation d) := by
  unfold failPreparation
  rw [Unarmed.disarm_eq h]
  exact suspendRun_unarmed (modifyRun_unarmed (releaseGrant_unarmed h))

theorem cutPreparation_unarmed {c : RunCause} {b : Bool} (h : Unarmed t l d) : Unarmed t l (cutPreparation c b d) := by
  unfold cutPreparation stopIfRunning
  rw [Unarmed.disarm_eq (abandonSearch_unarmed h)]
  exact suspendRun_unarmed (modifyRun_unarmed (releaseGrant_unarmed (.ite (giveStop_unarmed (abandonSearch_unarmed h))
    (abandonSearch_unarmed h))))

theorem giveScanOrder_unarmed (h : Unarmed t l d) : Unarmed t l (giveScanOrder d) := by
  unfold giveScanOrder
  split
  · exact h
  · exact giveOrder_unarmed (modifyRun_unarmed h)

theorem startPreparation_unarmed (h : Unarmed t l d) : Unarmed t l (startPreparation d) := by
  have hprepared : Unarmed t l (setRunState .preparing (modifyRun (fun r => { r with resumePermitted := true }) d)) :=
    setRunState_unarmed (modifyRun_unarmed h)
  unfold startPreparation
  dsimp only
  split
  · exact hprepared
  · exact .ite (giveOrder_unarmed (modifyRun_unarmed hprepared)) (giveScanOrder_unarmed hprepared)

theorem restoreLens_unarmed (h : Unarmed t l d) : Unarmed t l (restoreLens d) := by
  unfold restoreLens
  split
  · exact h
  · split
    · exact h
    · split
      · exact moveRequest_unarmed h
      · exact h
    · split
      · exact .ite (moveRequest_unarmed h) (h.same rfl rfl rfl)
      · exact h
    · split
      · exact moveRequest_unarmed (setFocus_unarmed h)
      · exact h

theorem runReachesBase_unarmed (h : Unarmed t l d) : Unarmed t l (runReachesBase d) := by
  unfold runReachesBase
  split
  · exact h
  next r _ =>
    have hstarted : ∀ st, Unarmed t l (startDetector st r (setRunState .running d)) :=
      fun _ => (setRunState_unarmed h).same rfl rfl rfl
    exact .ite (modifyRun_unarmed (.ite ((truncateOpen_unarmed (hstarted _)).same rfl rfl rfl) (hstarted _))) h

theorem scanReport_unarmed {o : OrderOutcome} (ho : o ≠ .arrived) (h : Unarmed t l d) : Unarmed t l (scanReport o d) := by
  unfold scanReport
  split
  · exact h
  · split
    · exact h
    · exact absurd rfl ho
    · exact failPreparation_unarmed h
    · exact endSearch_unarmed h
    · exact endSearch_unarmed h
    · exact endAtLimit_unarmed h
    · exact failPreparation_unarmed h
    · exact endAtLimit_unarmed h
    · exact endAtLimit_unarmed h
    · exact h

theorem searchHandedBack_unarmed (h : Unarmed t l d) : Unarmed t l (searchHandedBack d) := by
  unfold searchHandedBack
  split
  · exact h
  · exact .ite (giveScanOrder_unarmed h) h

/-! ### The retrieval scheduler -/

theorem completeActive_unarmed {r : CompletionResult} (h : Unarmed t l d) : Unarmed t l (completeActive r d) := by
  unfold completeActive completeRequest
  split
  · exact setRetrieval_unarmed h
  · split
    · exact setRetrieval_unarmed h
    · exact setRetrieval_unarmed (.ite (h.same rfl rfl rfl) (setRetrieval_unarmed h))

theorem requestRecall_unarmed {n : Option Nat} (h : Unarmed t l d) : Unarmed t l (requestRecall n d).2 := by
  unfold requestRecall
  split
  · exact h
  · exact .snd_ite (moveRequest_unarmed h) h

theorem startAttempt_unarmed {r : RetrievalRequest} (h : Unarmed t l d) : Unarmed t l (startAttempt r d) := by
  have hseek : ∀ x a, Unarmed t l (retrievalSeek x (setAttempt a (markChosen r d))) :=
    fun _ _ => giveOrder_unarmed (h.same rfl rfl rfl)
  refine .step_if (fun h' => (requestRecall_unarmed h').same rfl rfl rfl) ?_
  split
  · exact hseek _ _
  · exact hseek _ _

theorem selectNext_unarmed (h : Unarmed t l d) : Unarmed t l (selectNext d) := by
  unfold selectNext
  split
  · exact startAttempt_unarmed h
  · exact releaseGrant_unarmed h

theorem keepDecision_unarmed (h : Unarmed t l d) : Unarmed t l (keepDecision d) :=
  .ite h (.ite (selectNext_unarmed h) (releaseGrant_unarmed h))

theorem completeDone_unarmed (h : Unarmed t l d) : Unarmed t l (completeDone d) := by
  unfold completeDone
  split
  · exact h
  · exact .ite (keepDecision_unarmed (completeActive_unarmed h)) (setRetrieval_unarmed (completeActive_unarmed h))

theorem Unarmed.disarmConfirm_eq (h : Unarmed t l d) : disarmConfirm d = d := by
  unfold disarmConfirm
  rw [h.trigger, h.arm]

theorem failAttempt_unarmed (h : Unarmed t l d) : Unarmed t l (failAttempt d) := by
  unfold failAttempt
  rw [Unarmed.disarmConfirm_eq h]
  dsimp only
  split
  · exact h
  · exact keepDecision_unarmed (.ite (completeActive_unarmed h) (h.same rfl rfl rfl))

theorem presentActive_unarmed (h : Unarmed t l d) : Unarmed t l (presentActive d) := by
  unfold presentActive
  split
  · exact h
  · exact giveOrder_unarmed (setRetrieval_unarmed h)

theorem giveUpConfirm_unarmed (h : Unarmed t l d) : Unarmed t l (giveUpConfirm d) := by
  unfold giveUpConfirm
  rw [Unarmed.disarmConfirm_eq h]
  exact presentActive_unarmed (setRetrieval_unarmed h)

theorem takeMeasuredStart_unarmed {m : Int} (h : Unarmed t l d) : Unarmed t l (takeMeasuredStart m d) := by
  unfold takeMeasuredStart
  split
  · exact h
  · refine .ite h ?_
    split
    · exact h
    · rw [Unarmed.disarmConfirm_eq h]
      exact presentActive_unarmed (.ite (setRetrieval_unarmed (driftReport_unarmed h)) (setRetrieval_unarmed h))

theorem takeConfirmLine_unarmed {x : Int} (h : Unarmed t l d) : Unarmed t l (takeConfirmLine x d) := by
  unfold takeConfirmLine
  split
  · exact h
  · refine .ite h ?_
    split
    · exact h
    · exact .ite (giveUpConfirm_unarmed h) h

theorem endHint_unarmed (h : Unarmed t l d) : Unarmed t l (endHint d) := keepDecision_unarmed (setRetrieval_unarmed h)

theorem serveHint_unarmed (h : Unarmed t l d) : Unarmed t l (serveHint d) := by
  unfold serveHint
  split
  · exact releaseGrant_unarmed h
  · exact requestRecall_unarmed (giveOrder_unarmed (setRetrieval_unarmed h))

theorem retrievalReport_unarmed {o : OrderOutcome} {b : Bool} (ho : o ≠ .arrived) (h : Unarmed t l d) :
    Unarmed t l (retrievalReport o b d) := by
  unfold retrievalReport
  split
  · exact h
  · split
    · exact h
    · exact endHint_unarmed h
    · exact endHint_unarmed h
    · exact endHint_unarmed h
    · exact absurd rfl ho
    · exact failAttempt_unarmed h
    · exact giveUpConfirm_unarmed h
    · exact .ite (failAttempt_unarmed h) (giveUpConfirm_unarmed h)
    · exact failAttempt_unarmed h
    · exact absurd rfl ho
    · exact failAttempt_unarmed h
    · exact keepDecision_unarmed (completeActive_unarmed h)
    · exact h

/-! ### The chain of reactions -/

theorem serviceReport_unarmed {o : OrderOutcome} (h : Unarmed t l d) : Unarmed t l (serviceReport o d) := by
  have hended : Unarmed t l (raise .service .motionEnd (d.setTransport { d.transport with serviceOutcome := some o })) :=
    h.same rfl rfl rfl
  cases o with
  | failed c =>
    have hraised : Unarmed t l (raise .service .fault _) := raise_unarmed hended
    exact .ite (endSearch_unarmed hraised) (.ite hraised (releaseGrant_unarmed hraised))
  | arrived | stopped | atLimit => exact .ite (endSearch_unarmed hended) (.ite hended (releaseGrant_unarmed hended))

theorem takeDisarm_unarmed {o : Owner} {c : DisarmCause} (h : Unarmed t l d) : Unarmed t l (takeDisarm o c d) := by
  unfold takeDisarm
  split
  · exact endAtDisarm_unarmed h
  · exact endAtDisarm_unarmed h
  · exact h

theorem takeReport_unarmed {r : Report} (hr : reportsArrival r = false) (h : Unarmed t l d) : Unarmed t l (takeReport r d) := by
  have harrived : ∀ {w o b}, r = .orderEnded w o b → o ≠ .arrived := by
    rintro w o b rfl rfl
    cases hr
  unfold takeReport
  split
  · exact scanReport_unarmed (harrived rfl) h
  · exact retrievalReport_unarmed (harrived rfl) h
  · exact serviceReport_unarmed h
  · exact h
  · exact .ite (restoreLens_unarmed h) h
  · exact h
  · exact runReachesBase_unarmed h
  · exact h
  · exact h
  · exact takeDisarm_unarmed h
  · exact searchHandedBack_unarmed h
  · exact abandonSearch_unarmed h
  · exact takeMeasuredStart_unarmed h
  · exact takeConfirmLine_unarmed h

theorem runReaction_unarmed (hr : runReaction d = some e) (h : Unarmed t l d) : Unarmed t l e := by
  unfold runReaction at hr
  split at hr
  · contradiction
  · split at hr
    · exact .of_ite_some hr (endRun_unarmed (releaseGrant_unarmed h))
    · exact .of_ite_some hr (cutPreparation_unarmed h)
    · exact .of_ite_some hr (beginSuspending_unarmed h)
    · contradiction

theorem retrievalReaction_unarmed (hr : retrievalReaction d = some e) (h : Unarmed t l d) : Unarmed t l e := by
  unfold retrievalReaction at hr
  dsimp only at hr
  split_ifs at hr <;> obtain rfl := Option.some.inj hr
  · exact keepDecision_unarmed (setRetrieval_unarmed h)
  · exact completeDone_unarmed h
  · exact giveStop_unarmed (setRetrieval_unarmed h)
  · exact setRetrieval_unarmed h

theorem grantReaction_unarmed (hr : grantReaction d = some e) (h : Unarmed t l d) : Unarmed t l e := by
  unfold grantReaction at hr
  split_ifs at hr <;> obtain rfl := Option.some.inj hr
  · exact selectNext_unarmed (giveGrant_unarmed h)
  · exact startPreparation_unarmed (giveGrant_unarmed h)
  · exact selectNext_unarmed (giveGrant_unarmed h)
  · exact serveHint_unarmed (giveGrant_unarmed h)

theorem reaction_unarmed (hr : reaction d = some e) (h : Unarmed t l d) : Unarmed t l e := by
  unfold reaction at hr
  split at hr
  next r rest hi =>
    obtain rfl := Option.some.inj hr
    have hin : ∀ r' ∈ r :: rest, reportsArrival r' = false := hi ▸ h.inbox
    exact takeReport_unarmed (hin r (List.mem_cons_self ..))
      ⟨h.trigger, h.arm, h.lines, fun r' hr' => hin r' (List.mem_cons_of_mem _ hr')⟩
  · split_ifs at hr
    · obtain rfl := Option.some.inj hr
      exact dropGrant_unarmed h
    · split at hr
      next hrun => exact Option.some.inj hr ▸ runReaction_unarmed hrun h
      · split at hr
        next hret => exact Option.some.inj hr ▸ retrievalReaction_unarmed hret h
        · exact grantReaction_unarmed hr h

theorem settleFor_unarmed (n : Nat) (h : Unarmed t l d) : Unarmed t l (settleFor n d) := by
  induction n generalizing d with
  | zero => exact h
  | succ n ih =>
    unfold settleFor
    split
    next hr => exact ih (reaction_unarmed hr h)
    · exact h

/-- Whatever an event brings about in its step makes no arm, gives no pulse and expects no segment while no order reports an arrival. -/
theorem settle_unarmed (h : Unarmed t l d) : Unarmed t l (settle d) :=
  .ite (settleFor_unarmed Config.cascadeBound h) (setTransport_unarmed (settleFor_unarmed Config.cascadeBound h))

end
end Sys2Proof.Proofs

/-! Encoder counts, line results handed on and disarms: what each of them does, case by case (R70 to R73, R75, R76, R81). -/

namespace Sys2Proof.Proofs

open Sys2Proof Sys2Proof.Machine

/-! ### A forward count -/

/-- The counter moved on by one forward count, with the phase lines sampled (R9). -/
def advanced (la lb : Bool) (d : Dev) : Dev :=
  d.setMetering { d.metering with phaseA := la, phaseB := lb, counter := saturate (d.metering.counter + 1) }

/-- A forward count: the base, then the generator, then the search travel (log entry 8). -/
theorem phaseChange_forward_turn {la lb : Bool} {d : Dev}
    (h : (phaseIndex la lb + 4 - phaseIndex d.metering.phaseA d.metering.phaseB) % 4 = 1) :
    phaseChange la lb d = settle (searchTravelCheck (generatorCount (checkBase (advanced la lb d)))) := by
  unfold phaseChange
  rw [h]
  rfl

section
variable {d : Dev} {a : Arm}

theorem checkBase_scan {c : CurrentOrder} {start : Int} {v pitch line : Nat} {stop : Option Int} (hc : d.transport.current = some c)
    (hk : c.order.kind = .scan start v pitch line stop) :
    checkBase d = if c.runPhase = true ∧ c.baseReported = false ∧ start ≤ d.metering.counter then
        report .baseReached (d.setTransport { d.transport with current := some { c with baseReported := true } })
      else d := by
  unfold checkBase
  rw [hc]
  dsimp only
  rw [hk]

/-- No scan order waits for its base. -/
def BaseReported (d : Dev) : Prop :=
  ∀ c start v pitch line stop, d.transport.current = some c → c.order.kind = .scan start v pitch line stop → c.baseReported = true

theorem checkBase_of_reported (h : BaseReported d) : checkBase d = d := by
  rcases checkBase_cases d with he | ⟨c, hc, -⟩
  · exact he
  · cases hk : c.order.kind with
    | scan start v pitch line stop =>
      rw [checkBase_scan hc hk, h c start v pitch line stop hc hk]
      exact if_neg (by simp)
    | seek _ _ | creep _ | jog _ | stop =>
      unfold checkBase
      rw [hc]
      dsimp only
      rw [hk]

/-! ### The generator at a forward count -/

/-- The stop position of an arm is reached (R73). -/
def StopReached (a : Arm) (p : Int) : Prop := ∃ e ∈ a.stopAt, e ≤ p

theorem generatorCount_armed (ha : d.trigger.arm = some a) [Decidable (StopReached a d.metering.counter)] :
    generatorCount d = if StopReached a d.metering.counter then disarm .stopPosition false d
      else if nextPosition a ≤ d.metering.counter then
        if a.mode = .scan ∧ d.trigger.lineCounter = Config.lineLimit then disarm .lineLimit false d else emitAtCount a d
      else d := by
  unfold generatorCount
  rw [ha]
  cases hs : a.stopAt with
  | none => simp [StopReached, hs]
  | some e => simp [StopReached, hs]

theorem generatorCount_stops (ha : d.trigger.arm = some a) (h : StopReached a d.metering.counter) :
    generatorCount d = disarm .stopPosition false d := by
  classical
  rw [generatorCount_armed ha, if_pos h]

theorem generatorCount_waits (ha : d.trigger.arm = some a) (h : ¬ StopReached a d.metering.counter)
    (hp : d.metering.counter < nextPosition a) : generatorCount d = d := by
  classical
  rw [generatorCount_armed ha, if_neg h, if_neg (not_le.2 hp)]

theorem generatorCount_limit (ha : d.trigger.arm = some a) (h : ¬ StopReached a d.metering.counter)
    (hp : nextPosition a ≤ d.metering.counter) (hm : a.mode = .scan) (hl : d.trigger.lineCounter = 4294967295) :
    generatorCount d = disarm .lineLimit false d := by
  classical
  rw [generatorCount_armed ha, if_neg h, if_pos hp, if_pos ⟨hm, hl⟩]

theorem generatorCount_emits (ha : d.trigger.arm = some a) (h : ¬ StopReached a d.metering.counter)
    (hp : nextPosition a ≤ d.metering.counter) (hl : a.mode = .scan → d.trigger.lineCounter ≠ 4294967295) :
    generatorCount d = emitAtCount a d := by
  classical
  rw [generatorCount_armed ha, if_neg h, if_pos hp, if_neg fun hlimit => hl hlimit.1 hlimit.2]

theorem not_stopReached_of_none {p : Int} (h : a.stopAt = none) : ¬ StopReached a p := by
  simp [StopReached, h]

/-! ### A line result handed on -/

variable {r : LineResult}

/-- A line result recorded as the last one (R81). -/
def recorded (r : LineResult) (d : Dev) : Dev := d.setLines { d.lines with last := some r }

theorem handResult_run (ha : d.trigger.arm = some a) (h : d.detector.activity = .run) :
    handResult r d = frameLine r (searchLine r (runLine a r (recorded r d))) := by
  unfold handResult detectorTakes
  dsimp only
  rw [Dev.setLines_detector, h, Dev.setLines_trigger, ha]
  rfl

theorem handResult_confirm (ha : d.trigger.arm = some a) (h : d.detector.activity = .confirm) :
    handResult r d = frameLine r (searchLine r (confirmLine a r (recorded r d))) := by
  unfold handResult detectorTakes
  dsimp only
  rw [Dev.setLines_detector, h, Dev.setLines_trigger, ha]
  rfl

theorem handResult_untaken (h : d.detector.activity = .idle ∨ d.trigger.arm = none) :
    handResult r d = frameLine r (searchLine r (recorded r d)) := by
  unfold handResult detectorTakes
  dsimp only
  rw [Dev.setLines_detector, Dev.setLines_trigger]
  rcases h with h | h
  · rw [h]
    rfl
  · rw [h]
    cases d.detector.activity <;> rfl

theorem searchLine_of_noSearch (h : d.focus.search = none) : searchLine r d = d := by
  unfold searchLine
  rw [h]

theorem frameLine_of_noWindow (h : d.detector.openFrame = none ∨ d.focus.frameWindow = none) : frameLine r d = d := by
  unfold frameLine
  rcases h with h | h
  · rw [h]
  · rw [h]
    cases d.detector.openFrame <;> rfl

/-- A line result that nothing takes is only recorded. -/
theorem handResult_recorded (h : d.detector.activity = .idle) (hs : d.focus.search = none) (hf : d.detector.openFrame = none) :
    handResult r d = recorded r d := by
  rw [handResult_untaken (.inl h), searchLine_of_noSearch (by exact hs), frameLine_of_noWindow (.inl (by exact hf))]

end

/-! ### A disarm, written out -/

section
variable {d e : Dev}

/-- The run record after a disarm, before a pending correction (R71, Table 8-1). -/
def lineSaved (a : Arm) (n : Nat) (r : RunRecord) : RunRecord :=
  { r with savedLine := if a.mode = .scan then n else r.savedLine, boundary := none }

/-- The device after a disarm, before a pending correction, with the scan controller, the detector and the ports that the frame handed on
leaves. -/
def unarmedDev (a : Arm) (x : ScanControl) (y : Detector) (ps : Ports) (d : Dev) : Dev :=
  modifyRun (lineSaved a d.trigger.lineCounter) (discardArm (((d.setScan x).setDetector y).setPorts ps))

section
variable (a : Arm) (x : ScanControl) (y : Detector) (ps : Ports) (d : Dev)

@[simp] theorem unarmedDev_roll : (unarmedDev a x y ps d).roll = d.roll := by
  simp [unarmedDev, modifyRun, discardArm, setGate, detectorIdle]

@[simp] theorem unarmedDev_metering : (unarmedDev a x y ps d).metering = d.metering := by
  simp [unarmedDev, modifyRun, discardArm, setGate, detectorIdle]

@[simp] theorem unarmedDev_transport : (unarmedDev a x y ps d).transport = d.transport := by
  simp [unarmedDev, modifyRun, discardArm, setGate, detectorIdle]

@[simp] theorem unarmedDev_trigger : (unarmedDev a x y ps d).trigger = { d.trigger with arm := none } := by
  simp [unarmedDev, modifyRun, discardArm, setGate, detectorIdle]

@[simp] theorem unarmedDev_lines : (unarmedDev a x y ps d).lines = { d.lines with expected := none, last := none } := by
  simp [unarmedDev, modifyRun, discardArm, setGate, detectorIdle]

@[simp] theorem unarmedDev_lens : (unarmedDev a x y ps d).focus.lens = d.focus.lens := by
  simp [unarmedDev, modifyRun, discardArm, setGate, detectorIdle]

@[simp] theorem unarmedDev_search :
    (unarmedDev a x y ps d).focus.search = d.focus.search.map fun s => { s with window := none } := by
  simp [unarmedDev, modifyRun, discardArm, setGate, detectorIdle]

@[simp] theorem unarmedDev_detector : (unarmedDev a x y ps d).detector
    = { y with activity := .idle, gapState := .unknown, openNext := false, gapRun := none, openFrame := none } := by
  simp [unarmedDev, modifyRun, discardArm, setGate, detectorIdle]

@[simp] theorem unarmedDev_index : (unarmedDev a x y ps d).index = d.index := by
  simp [unarmedDev, modifyRun, discardArm, setGate, detectorIdle]

@[simp] theorem unarmedDev_scan :
    (unarmedDev a x y ps d).scan = { x with run := x.run.map (lineSaved a d.trigger.lineCounter), gate := false } := by
  simp [unarmedDev, modifyRun, discardArm, setGate, detectorIdle]

@[simp] theorem unarmedDev_retrieval : (unarmedDev a x y ps d).retrieval = d.retrieval := by
  simp [unarmedDev, modifyRun, discardArm, setGate, detectorIdle]

@[simp] theorem unarmedDev_inbox : (unarmedDev a x y ps d).inbox = d.inbox := by
  simp [unarmedDev, modifyRun, discardArm, setGate, detectorIdle]

end

theorem handOnFrame_frame (atClose : Bool) (d : Dev) :
    ∃ x y ps, handOnFrame atClose d = ((d.setScan x).setDetector y).setPorts ps ∧ x.run = d.scan.run := by
  unfold handOnFrame
  split
  · unfold truncateOpen
    split
    next f r _ _ =>
      obtain ⟨b, ps, hn⟩ := pushNotice_eq (truncatedNotice r.number f d) (setGate false d)
      rw [hn]
      exact ⟨_, _, ps, rfl, rfl⟩
    next => exact ⟨d.scan, (dropRecentMarks d).detector, d.ports, rfl, rfl⟩
  · exact ⟨d.scan, d.detector, d.ports, rfl, rfl⟩

theorem dropBoundary_saveLine (a : Arm) (e : Dev) : dropBoundary (saveLine a e) = modifyRun (lineSaved a e.trigger.lineCounter) e := by
  unfold saveLine dropBoundary modifyRun
  split
  next hm =>
    have hline : lineSaved a e.trigger.lineCounter = (fun r => { r with boundary := none })
        ∘ fun r => { r with savedLine := e.trigger.lineCounter } := funext fun r => by simp [lineSaved, hm]
    rw [hline, ← Option.map_map]
    rfl
  next hm =>
    have hline : lineSaved a e.trigger.lineCounter = fun r => { r with boundary := none } := funext fun r => by simp [lineSaved, hm]
    rw [hline]

theorem disarm_eq (why : DisarmCause) (atClose : Bool) {a : Arm} (h : d.trigger.arm = some a) :
    ∃ x y ps, disarm why atClose d = report (.disarmed a.owner why) (applyPending (unarmedDev a x y ps d)) ∧ x.run = d.scan.run := by
  obtain ⟨x, y, ps, hhand, hrun⟩ := handOnFrame_frame atClose d
  refine ⟨x, y, ps, ?_, hrun⟩
  rw [disarm_armed why atClose h, disarmSteps, dropBoundary_saveLine, hhand]
  rfl

/-! ### A pending correction -/

/-- The correction that a disarm applies, 0 where none is pending. -/
def Pending (d : Dev) (delta : Int) : Prop :=
  d.roll.pendingCorrection = some delta ∨ (d.roll.pendingCorrection = none ∧ delta = 0)

theorem applyPending_some {delta : Int} (h : d.roll.pendingCorrection = some delta) : applyPending d = applyCorrection delta d := by
  unfold applyPending
  rw [h]

section
variable (d : Dev)

@[simp] theorem applyPending_transport : (applyPending d).transport = d.transport := by
  unfold applyPending
  split <;> rfl

@[simp] theorem applyPending_lines : (applyPending d).lines = d.lines := by
  unfold applyPending
  split <;> rfl

@[simp] theorem applyPending_focus : (applyPending d).focus = d.focus := by
  unfold applyPending
  split <;> rfl

@[simp] theorem applyPending_index : (applyPending d).index = d.index := by
  unfold applyPending
  split <;> rfl

@[simp] theorem applyPending_retrieval : (applyPending d).retrieval = d.retrieval := by
  unfold applyPending
  split <;> rfl

@[simp] theorem applyPending_inbox : (applyPending d).inbox = d.inbox := by
  unfold applyPending
  split <;> rfl

@[simp] theorem applyPending_gate : (applyPending d).scan.gate = d.scan.gate := by
  unfold applyPending
  split <;> rfl

@[simp] theorem applyPending_notices : (applyPending d).scan.notices = d.scan.notices := by
  unfold applyPending
  split <;> rfl

@[simp] theorem applyPending_datum : (applyPending d).roll.datum = d.roll.datum := by
  unfold applyPending
  split <;> rfl

/-- Of the detector a correction moves the open mark and the pending marks only (R117). -/
theorem applyPending_detector :
    ∃ m ms, (applyPending d).detector = { d.detector with openMark := m, marks := ms } := by
  unfold applyPending
  split
  · exact ⟨d.detector.openMark, d.detector.marks, rfl⟩
  · exact ⟨_, _, rfl⟩

end

/-- What a correction moves (R18). -/
theorem applyPending_moves {delta : Int} (h : Pending d delta) :
    (applyPending d).roll.pendingCorrection = none
      ∧ (applyPending d).metering.counter = (if d.roll.pendingCorrection = none then d.metering.counter
        else max (-2147483648) (min 2147483647 (d.metering.counter - delta)))
      ∧ (applyPending d).roll.splices = d.roll.splices.map (· - delta) ∧ (applyPending d).roll.tail = d.roll.tail.map (· - delta)
      ∧ (d.roll.pendingCorrection ≠ none → (applyPending d).roll.lastCorrection = delta)
      ∧ (applyPending d).scan.run
        = d.scan.run.map fun r => { r with resume := r.resume.map fun q => { q with position := q.position - delta } } := by
  rcases h with h | ⟨h, rfl⟩
  · rw [applyPending_some h, h]
    exact ⟨rfl, rfl, rfl, rfl, fun _ => rfl, rfl⟩
  · rw [applyPending_none h, h]
    exact ⟨rfl, rfl, by simp, by simp, by simp, by simp⟩

/-! ### A disarm -/

/-- What a disarm leaves: R72, and R17 and R18 for the correction that it applies. -/
structure Disarmed (a : Arm) (why : DisarmCause) (delta : Int) (d e : Dev) : Prop where
  trigger : e.trigger = { d.trigger with arm := none }
  lines : e.lines = { d.lines with expected := none, last := none }
  inbox : e.inbox = d.inbox ++ [.disarmed a.owner why]
  gate : e.scan.gate = false
  activity : e.detector.activity = .idle
  gapState : e.detector.gapState = .unknown
  gapRun : e.detector.gapRun = none
  openFrame : e.detector.openFrame = none
  pending : e.roll.pendingCorrection = none
  counter : e.metering.counter = if d.roll.pendingCorrection = none then d.metering.counter
    else max (-2147483648) (min 2147483647 (d.metering.counter - delta))
  splices : e.roll.splices = d.roll.splices.map (· - delta)
  tail : e.roll.tail = d.roll.tail.map (· - delta)
  lastCorrection : d.roll.pendingCorrection ≠ none → e.roll.lastCorrection = delta
  run : e.scan.run = d.scan.run.map fun r =>
    { lineSaved a d.trigger.lineCounter r with resume := r.resume.map fun q => { q with position := q.position - delta } }
  transport : e.transport = d.transport
  retrieval : e.retrieval = d.retrieval
  index : e.index = d.index
  datum : e.roll.datum = d.roll.datum
  lens : e.focus.lens = d.focus.lens
  search : d.focus.search = none → e.focus.search = none

theorem disarm_disarmed (why : DisarmCause) (atClose : Bool) {a : Arm} {delta : Int} (ha : d.trigger.arm = some a) (hp : Pending d delta) :
    Disarmed a why delta d (disarm why atClose d) := by
  obtain ⟨x, y, ps, he, hrun⟩ := disarm_eq why atClose ha
  have hpending : Pending (unarmedDev a x y ps d) delta := by rwa [Pending, unarmedDev_roll]
  obtain ⟨hnone, hcounter, hsplices, htail, hlast, hmoved⟩ := applyPending_moves hpending
  obtain ⟨m, ms, hdetector⟩ := applyPending_detector (unarmedDev a x y ps d)
  rw [unarmedDev_roll] at hcounter hsplices htail hlast
  rw [he]
  unfold report
  constructor
  case run => simp [hmoved, hrun, Function.comp_def, lineSaved]
  case counter => simpa using hcounter
  case search => exact fun hs => by simp [hs]
  all_goals simp [applyPending_trigger, hdetector, hnone, hsplices, htail]
  exact hlast

theorem pending_getD (d : Dev) : Pending d (d.roll.pendingCorrection.getD 0) := by
  unfold Pending
  cases d.roll.pendingCorrection <;> simp

end
end Sys2Proof.Proofs

/-! Line triggers: O37. -/

namespace Sys2Proof.Proofs

open Sys2Proof Sys2Proof.Machine

/-! ### The grid -/

theorem le_ceilDiv_mul (n : Nat) {b : Nat} (hb : 0 < b) : n ≤ ceilDiv n b * b := by
  have hmod := Nat.div_add_mod' (n + b - 1) b
  have hlt := Nat.mod_lt (n + b - 1) hb
  unfold ceilDiv
  omega

theorem mul_lt_of_lt_ceilDiv {n b k : Nat} (hb : 0 < b) (h : k < ceilDiv n b) : k * b < n := by
  have hle : (k + 1) * b ≤ n + b - 1 := (Nat.le_div_iff_mul_le hb).1 h
  rw [Nat.succ_mul] at hle
  omega

/-- Positions of an arm lie at least 1 µm apart (R68). -/
theorem armPosition_succ (a : Arm) (k : Nat) (h : 256 ≤ a.pitch) : armPosition a k + 1 ≤ armPosition a (k + 1) := by
  have hstep : k * a.pitch / 256 + 1 ≤ (k + 1) * a.pitch / 256 := by
    rw [← Nat.add_div_right _ (by decide), Nat.succ_mul]
    exact Nat.div_le_div_right (by omega)
  unfold armPosition
  omega

/-- The first index is the smallest whose position lies at or above the counter (R69). -/
theorem firstIndex_least (base counter : Int) {pitch : Nat} (h : 256 ≤ pitch) :
    counter ≤ base + (firstIndex base pitch counter * pitch / 256 : Nat)
      ∧ ∀ k, k < firstIndex base pitch counter → base + (k * pitch / 256 : Nat) < counter := by
  unfold firstIndex
  split
  next hle => exact ⟨by omega, fun k hk => absurd hk (Nat.not_lt_zero k)⟩
  next hgt =>
    have hreach : (counter - base).toNat ≤ ceilDiv (256 * (counter - base).toNat) pitch * pitch / 256 :=
      (Nat.le_div_iff_mul_le (by decide)).2 (Nat.mul_comm 256 _ ▸ le_ceilDiv_mul _ (by omega))
    refine ⟨by omega, fun k hk => ?_⟩
    have hbelow : k * pitch / 256 < (counter - base).toNat :=
      (Nat.div_lt_iff_lt_mul (by decide)).2 (Nat.mul_comm 256 _ ▸ mul_lt_of_lt_ceilDiv (by omega) hk)
    omega

/-! ### A pulse at a count -/

theorem advanced_eq (la lb : Bool) {d : Dev} (hlow : -2147483648 ≤ d.metering.counter) (hhigh : d.metering.counter < 2147483647) :
    advanced la lb d = d.setMetering { d.metering with phaseA := la, phaseB := lb, counter := d.metering.counter + 1 } := by
  have hsaturate : saturate (d.metering.counter + 1) = d.metering.counter + 1 := by
    simp only [saturate, Config.minPosition, Config.maxPosition]
    omega
  rw [advanced, hsaturate]

/-- A forward count, once the base is reported and while no search is in progress, reaches only the generator. -/
theorem exec_forwardCount {s : State} {la lb : Bool} (hbase : BaseReported s.dev)
    (hturn : (phaseIndex la lb + 4 - phaseIndex s.dev.metering.phaseA s.dev.metering.phaseB) % 4 = 1)
    (hsearch : (generatorCount (advanced la lb s.dev)).focus.search = none) :
    exec (.encoderPhaseChange la lb) s = .next (s.setDev (settle (generatorCount (advanced la lb s.dev)))) := by
  rw [exec_encoderPhaseChange, phaseChange_forward_turn hturn, checkBase_of_reported (d := advanced la lb s.dev) hbase,
    searchTravelCheck_of_noSearch hsearch]

/-- The line result that an emission hands on for a segment that is not complete (R76). -/
def missingLine (seg : ExpectedSegment) : LineResult := { trigger := seg.trigger, stats := none }

/-- One trigger emitted, with the missing line recorded as the last one. -/
def pulsed (a : Arm) (d : Dev) : Dev :=
  (emitTrigger a d).setLines
    { (emitTrigger a d).lines with
      last := match d.lines.expected with
        | some seg => some (missingLine seg)
        | none => d.lines.last }

/-- An emission whose missing line, if any, is only recorded. -/
theorem emitAtCount_recorded (a : Arm) {d : Dev} (hs : d.focus.search = none)
    (h : ∀ seg, d.lines.expected = some seg → d.detector.activity = .idle ∧ d.detector.openFrame = none) :
    emitAtCount a d = pulsed a d := by
  unfold emitAtCount pulsed
  dsimp only
  cases he : d.lines.expected with
  | none => rfl
  | some seg =>
    obtain ⟨hidle, hframe⟩ := h seg he
    exact handResult_recorded (d := emitTrigger a d) hidle hs hframe

/-! ### The ends of an arm -/

section
variable {d e : Dev}

/-- What a disarm brings about makes no new arm, gives no pulse and expects no segment. -/
theorem settle_disarm {a : Arm} (why : DisarmCause) (ha : d.trigger.arm = some a) (hi : d.inbox = []) :
    (settle (disarm why false d)).trigger = { d.trigger with arm := none } ∧ (settle (disarm why false d)).lines.expected = none := by
  have h := disarm_disarmed why false ha (pending_getD d)
  have hunarmed : Unarmed { d.trigger with arm := none } { d.lines with expected := none, last := none } (disarm why false d) := by
    refine ⟨h.trigger, rfl, h.lines, fun r hr => ?_⟩
    rw [h.inbox, hi] at hr
    exact List.mem_singleton.1 hr ▸ rfl
  have hsettled := settle_unarmed hunarmed
  exact ⟨hsettled.trigger, congrArg (·.expected) hsettled.lines⟩

theorem anyEligible_congr (hr : e.retrieval = d.retrieval) (hd : e.roll.datum = d.roll.datum) : anyEligible e = anyEligible d := by
  unfold anyEligible eligible
  rw [hr, hd]

theorem holdPreempted_congr (hr : e.retrieval = d.retrieval) (hd : e.roll.datum = d.roll.datum) :
    holdPreempted e = holdPreempted d := by
  unfold holdPreempted anyUrgent eligible
  rw [hr, hd]

/-- A transport that is STOPPING for an owner, with a run that is ENDING, leaves no reaction its turn that had none before. -/
theorem settled_of_ending (h : Settled d) (hr : e.retrieval = d.retrieval) (hd : e.roll.datum = d.roll.datum)
    (hl : e.focus.lens = d.focus.lens) (hi : e.inbox = []) (hm : e.transport.motion = .stopping) (hg : e.transport.grant ≠ .nobody)
    (hp : e.transport.parkTimer = 0) (hrun : ∀ r, e.scan.run = some r → r.state = .ending) : Settled e := by
  obtain ⟨-, -, -, hretrieval, -⟩ := (reaction_none_iff d).1 h.1
  obtain ⟨hhold, hlens, hhint, -⟩ := (retrievalReaction_none_iff d).1 hretrieval
  have hrest : atRest e = false := by simp [atRest, hm]
  have hclaim : scanClaim e = false := by
    unfold scanClaim
    cases hs : e.scan.run with
    | none => rfl
    | some r => simp [hrun r hs]
  have hseek : (hintSeeking e && (anyEligible e || scanClaim e)) = false := by
    have hseeking : hintSeeking e = hintSeeking d := by unfold hintSeeking; rw [hr]
    rw [hclaim, hseeking, anyEligible_congr hr hd, Bool.or_false]
    cases hs : hintSeeking d <;> simp_all
  have harrived : lensArrived e = lensArrived d := by unfold lensArrived; rw [hr, hl]
  refine ⟨(reaction_none_iff e).2 ⟨hi, by rw [hrest, Bool.and_false], ?_, ?_, ?_⟩, (stopParkTimer_eq_iff e).2 fun _ => hp⟩
  · exact (runReaction_none_iff e).2 fun r hs => ⟨fun _ => hrest, fun hstate => by simp [hrun r hs] at hstate⟩
  · exact (retrievalReaction_none_iff e).2
      ⟨(holdPreempted_congr hr hd).trans hhold, harrived.trans hlens, hseek, by simp [hintConditions, hg]⟩
  · exact (grantReaction_none_iff e).2 fun hf => by simp [grantFree, hg] at hf

/-- The end of a RUNNING run at its disarm: STOP, and ENDING with the cause (R71, R156). -/
theorem endAtDisarm_running {r : RunRecord} (c : RunCause) (hr : d.scan.run = some r) (hs : r.state = .running)
    (hg : d.transport.grant = .scan) (hm : d.transport.motion = .scan) :
    endAtDisarm c d = raise .capture .run ((d.setTransport
        { d.transport with motion := .stopping, stopReason := some .order, current := some (stopOrder .scan) }).setScan
      { d.scan with run := some { r with cause := some c, state := .ending } }) := by
  have hstop : giveStop .scan d = d.setTransport
      { d.transport with motion := .stopping, stopReason := some .order, current := some (stopOrder .scan) } := by
    unfold giveStop
    rw [if_neg (not_not.2 hg), hm]
    rfl
  unfold endAtDisarm
  rw [if_pos (runIn_true_of_underWay hr (.inr (.inl hs))), hstop]
  exact beginEnding_eq c (d := d.setTransport _) hr (by simp [hs])

/-- A disarm that ends the run of its arm: the transport brakes for STOP and the run is ENDING, with its line counter kept. -/
theorem settle_disarm_run {a : Arm} {why : DisarmCause} {cause : RunCause} {r : RunRecord} (hset : Settled d)
    (hwhy : ∀ e, takeDisarm .scan why e = endAtDisarm cause e) (ha : d.trigger.arm = some a) (hr : d.scan.run = some r)
    (hs : r.state = .running) (ho : a.owner = .scan) (hmode : a.mode = .scan) (hg : d.transport.grant = .scan)
    (hm : d.transport.motion = .scan) :
    (settle (disarm why false d)).transport.motion = .stopping ∧ ∃ r', (settle (disarm why false d)).scan.run = some r'
      ∧ r'.state = .ending ∧ r'.cause = some cause ∧ r'.savedLine = d.trigger.lineCounter ∧ r'.boundary = none := by
  obtain ⟨hi, -⟩ := (reaction_none_iff d).1 hset.1
  have h := disarm_disarmed why false ha (pending_getD d)
  have hinbox : (disarm why false d).inbox = [.disarmed .scan why] := by rw [h.inbox, hi, ho]; rfl
  obtain ⟨r', hr', hstate, hline, hboundary⟩ : ∃ r', (disarm why false d).scan.run = some r' ∧ r'.state = .running
      ∧ r'.savedLine = d.trigger.lineCounter ∧ r'.boundary = none := by
    rw [h.run, hr]
    exact ⟨_, rfl, hs, if_pos hmode, rfl⟩
  have hended := endAtDisarm_running (d := (disarm why false d).setInbox []) cause hr' hstate (h.transport ▸ hg) (h.transport ▸ hm)
  have hpark : d.transport.parkTimer = 0 := parkTimer_of_settled hset (parkConditions_of_owned (by simp [hg]))
  have htaken := (hwhy ((disarm why false d).setInbox [])).trans hended
  have hsettled : Settled (takeDisarm .scan why ((disarm why false d).setInbox [])) := by
    rw [htaken]
    refine settled_of_ending hset h.retrieval h.datum h.lens rfl rfl ?_ ?_ fun r hr => ?_
    · exact fun hn => absurd ((congrArg (·.grant) h.transport.symm).trans hn) (by simp [hg])
    · exact (congrArg (·.parkTimer) h.transport).trans hpark
    · exact Option.some.inj hr ▸ rfl
  rw [settle_of_report hinbox hsettled, show takeReport (.disarmed .scan why) _ = _ from htaken]
  exact ⟨rfl, _, rfl, rfl, rfl, hline, hboundary⟩

end

/-! ### An arm request -/

/-- The record of an arm without a stop position (R69). -/
def newArm (owner : Owner) (mode : ArmMode) (base : Int) (pitch : Nat) (counter : Int) : Arm :=
  { owner := owner, mode := mode, base := base, pitch := pitch, stopAt := none, index := firstIndex base pitch counter }

/-- The arm made, and its operation told the index at which it begins. -/
def armMade (a : Arm) (line : Nat) (d : Dev) : Dev :=
  report (.armBegan a.owner a.index)
    (d.setTrigger { d.trigger with arm := some a, lineCounter := if a.mode = .scan then line else d.trigger.lineCounter })

/-- An arm request of the grant owner: the arm, with its first pulse where the counter stands on a trigger position (R69). -/
theorem armTrigger_made {d : Dev} {owner : Owner} (mode : ArmMode) (base : Int) (pitch line : Nat) (hg : d.transport.grant = owner)
    (ha : d.trigger.arm = none) (hl : mode = .scan → line < 4294967295) :
    armTrigger owner mode base pitch none line d
      = if nextPosition (newArm owner mode base pitch d.metering.counter) = d.metering.counter then
          emitTrigger (newArm owner mode base pitch d.metering.counter)
            (armMade (newArm owner mode base pitch d.metering.counter) line d)
        else armMade (newArm owner mode base pitch d.metering.counter) line d := by
  have hdue : triggerDue (newArm owner mode base pitch d.metering.counter)
      (armMade (newArm owner mode base pitch d.metering.counter) line d)
        = emitTrigger (newArm owner mode base pitch d.metering.counter)
          (armMade (newArm owner mode base pitch d.metering.counter) line d) := by
    refine if_neg fun ⟨hm, hcounter⟩ => ?_
    have hline : line = 4294967295 := (if_pos hm).symm.trans hcounter
    exact absurd (hl hm) (by omega)
  rw [← hdue]
  unfold armTrigger
  rw [if_neg (not_not.2 hg), disarm_of_unarmed .command false d ha]
  rfl

theorem armTrigger_begins {d : Dev} {owner : Owner} (mode : ArmMode) (base : Int) (pitch line : Nat) (hg : d.transport.grant = owner)
    (ha : d.trigger.arm = none) (hl : mode = .scan → line < 4294967295) :
    (armTrigger owner mode base pitch none line d).inbox = d.inbox ++ [.armBegan owner (firstIndex base pitch d.metering.counter)]
      ∧ ∃ a, (armTrigger owner mode base pitch none line d).trigger.arm = some a ∧ a.owner = owner ∧ a.mode = mode ∧ a.base = base
        ∧ a.pitch = pitch ∧ a.stopAt = none
        ∧ a.index = if base + (firstIndex base pitch d.metering.counter * pitch / 256 : Nat) = d.metering.counter
          then firstIndex base pitch d.metering.counter + 1 else firstIndex base pitch d.metering.counter := by
  rw [armTrigger_made mode base pitch line hg ha hl]
  by_cases hnow : nextPosition (newArm owner mode base pitch d.metering.counter) = d.metering.counter
  · rw [if_pos hnow]
    exact ⟨rfl, _, rfl, rfl, rfl, rfl, rfl, rfl, (if_pos hnow).symm⟩
  · rw [if_neg hnow]
    exact ⟨rfl, _, rfl, rfl, rfl, rfl, rfl, rfl, (if_neg hnow).symm⟩

/-! ### O37 -/

/-- A forward count that reaches the next trigger position gives one pulse (R70, R71, R76). -/
theorem exec_pulse {s : State} {a : Arm} {la lb : Bool} (ha : s.dev.trigger.arm = some a) (hstop : a.stopAt = none)
    (hsearch : s.dev.focus.search = none)
    (hexpected : ∀ seg, s.dev.lines.expected = some seg → s.dev.detector.activity = .idle ∧ s.dev.detector.openFrame = none)
    (hbase : BaseReported s.dev) (hset : Settled s.dev) (hline : a.mode = .scan → s.dev.trigger.lineCounter < 4294967295)
    (hturn : (phaseIndex la lb + 4 - phaseIndex s.dev.metering.phaseA s.dev.metering.phaseB) % 4 = 1)
    (hlow : -2147483648 ≤ s.dev.metering.counter) (hhigh : s.dev.metering.counter < 2147483647)
    (hreach : nextPosition a ≤ s.dev.metering.counter + 1) :
    exec (.encoderPhaseChange la lb) s = .next (s.setDev (pulsed a (advanced la lb s.dev))) := by
  have hcounter : (advanced la lb s.dev).metering.counter = s.dev.metering.counter + 1 := by rw [advanced_eq la lb hlow hhigh]; rfl
  have hemit : generatorCount (advanced la lb s.dev) = pulsed a (advanced la lb s.dev) :=
    (generatorCount_emits (d := advanced la lb s.dev) ha (not_stopReached_of_none hstop) (hcounter.symm ▸ hreach)
      fun hm => (hline hm).ne).trans (emitAtCount_recorded a hsearch hexpected)
  rw [exec_forwardCount hbase hturn (by rw [hemit]; exact hsearch), hemit,
    settle_of_settled _ (by simpa [pulsed, emitTrigger, advanced] using hset)]

/-- A forward count at which the generator disarms itself (R71, R73). -/
theorem exec_disarm {s : State} {a : Arm} {la lb : Bool} {why : DisarmCause} {cause : RunCause}
    (hwhy : ∀ e, takeDisarm .scan why e = endAtDisarm cause e) (ha : s.dev.trigger.arm = some a) (hsearch : s.dev.focus.search = none)
    (hbase : BaseReported s.dev) (hset : Settled s.dev)
    (hturn : (phaseIndex la lb + 4 - phaseIndex s.dev.metering.phaseA s.dev.metering.phaseB) % 4 = 1)
    (hgen : generatorCount (advanced la lb s.dev) = disarm why false (advanced la lb s.dev)) :
    ∃ t, exec (.encoderPhaseChange la lb) s = .next t ∧ t.pending = s.pending ∧ t.dev.trigger.arm = none
      ∧ t.dev.trigger.pulses = s.dev.trigger.pulses ∧ t.dev.lines.expected = none
      ∧ ∀ r, s.dev.scan.run = some r → r.state = .running → a.owner = .scan → a.mode = .scan → s.dev.transport.grant = .scan →
        s.dev.transport.motion = .scan →
        t.dev.transport.motion = .stopping ∧ ∃ r', t.dev.scan.run = some r' ∧ r'.state = .ending ∧ r'.cause = some cause
          ∧ r'.savedLine = s.dev.trigger.lineCounter ∧ r'.boundary = none := by
  have hset' : Settled (advanced la lb s.dev) := by simpa [advanced] using hset
  obtain ⟨hi, -⟩ := (reaction_none_iff _).1 hset'.1
  have h := disarm_disarmed why false (d := advanced la lb s.dev) ha (pending_getD _)
  obtain ⟨htrigger, hlines⟩ := settle_disarm why (d := advanced la lb s.dev) ha hi
  refine ⟨_, exec_forwardCount hbase hturn (by rw [hgen]; exact h.search hsearch), rfl, ?_⟩
  rw [State.setDev_dev, hgen, htrigger, hlines]
  exact ⟨rfl, rfl, rfl, fun r hr hs ho hm hg hmotion =>
    settle_disarm_run (d := advanced la lb s.dev) hset' hwhy ha hr hs ho hm hg hmotion⟩

/-- Settles O37: the grid by the arithmetic of its rounding, the counts by what the generator does at each of them. -/
theorem triggersOnTheirGrid : Obligations.TriggersOnTheirGrid := by
  refine ⟨⟨armPosition_succ, fun base counter pitch => firstIndex_least base counter⟩, ?_, ?_, ?_, ?_⟩
  · intro s a la lb ha hstop hsearch hexpected hbase hset hline hturn hlow hhigh hreach
    rw [exec_pulse ha hstop hsearch hexpected hbase hset hline hturn hlow hhigh hreach, advanced_eq la lb hlow hhigh]
    rfl
  · intro s a la lb cause ha hsearch hbase hset hturn hlow hhigh hcause
    have hcounter : (advanced la lb s.dev).metering.counter = s.dev.metering.counter + 1 := by rw [advanced_eq la lb hlow hhigh]; rfl
    rcases hcause with ⟨⟨e, he, hreach⟩, rfl⟩ | ⟨hstop, hmode, hline, hreach, rfl⟩
    · exact exec_disarm (fun _ => rfl) ha hsearch hbase hset hturn
        (generatorCount_stops (d := advanced la lb s.dev) ha ⟨e, he, hcounter.symm ▸ hreach⟩)
    · exact exec_disarm (fun _ => rfl) ha hsearch hbase hset hturn
        (generatorCount_limit (d := advanced la lb s.dev) ha (not_stopReached_of_none hstop) (hcounter.symm ▸ hreach) hmode hline)
  · intro d owner mode base pitch line stopAt
    refine ⟨armTrigger_notOwner owner mode base pitch stopAt line d, ?_⟩
    rintro hg ha rfl hl
    exact armTrigger_begins mode base pitch line hg ha hl
  · intro d a why delta ha hp
    have h := disarm_disarmed why false ha hp
    refine ⟨h.trigger, h.lines, h.inbox, h.gate, h.activity, h.openFrame, h.pending, h.counter, h.splices, h.tail, h.lastCorrection,
      fun r hr => ⟨_, h.run.trans (congrArg _ hr), rfl, rfl, rfl, rfl⟩⟩

end Sys2Proof.Proofs

/-! Segments of the monitor bus, the statistics of a line, and the windows that a line result feeds (R75, R79 to R81, R90). -/

namespace Sys2Proof.Proofs

open Sys2Proof Sys2Proof.Machine

/-! ### Segments -/

theorem exec_monitorByteReceived (b : Byte) (s : State) :
    exec (.monitorByteReceived b) s = .next (s.setDev (settle (receiveByte b s.dev))) := rfl

theorem exec_segmentComplete (b : Byte) (s : State) :
    exec (.segmentComplete b) s = .next (s.setDev (settle (receiveByte b s.dev))) := rfl

section
variable {d : Dev} {seg : ExpectedSegment} {b : Byte}

theorem receiveByte_discarded (h : d.lines.expected = none) : receiveByte b d = d := by
  unfold receiveByte
  rw [h]

theorem receiveByte_kept (h : d.lines.expected = some seg) (hl : seg.bytes.length < 63) :
    receiveByte b d = d.setLines { d.lines with expected := some { seg with bytes := seg.bytes ++ [b] } } := by
  unfold receiveByte
  rw [h]
  exact if_neg (by simp [Config.segmentBytes]; omega)

theorem receiveByte_completes (h : d.lines.expected = some seg) (hl : 63 ≤ seg.bytes.length) :
    receiveByte b d = handResult
      { trigger := seg.trigger, stats := some (lineStats (seg.bytes ++ [b]) d.lines.tapMap d.lines.stride) }
      (d.setLines { d.lines with expected := none }) := by
  unfold receiveByte
  rw [h]
  exact if_pos (by simp [Config.segmentBytes]; omega)

end

/-! ### The statistics of a line -/

section
variable {raw : List Byte} {m : TapMap}

theorem arrange_length (h : raw.length = 64) : (arrange raw m).length = 64 := by
  unfold arrange
  rw [List.length_flatMap, List.map_congr_left (g := fun _ => 8) fun e _ => ?_]
  · rfl
  · cases e with
    | none => rfl
    | some g =>
      have hg := g.isLt
      simp only [List.length_map, List.length_take, List.length_drop]
      omega

theorem pixel_le {p : Option Nat} (h : p ∈ arrange raw m) : ∀ n ∈ p, n ≤ 255 := by
  unfold arrange at h
  obtain ⟨e, -, hp⟩ := List.mem_flatMap.1 h
  cases e with
  | none =>
    obtain ⟨-, rfl⟩ := List.mem_replicate.1 hp
    simp
  | some g =>
    obtain ⟨b, -, rfl⟩ := List.mem_map.1 hp
    rintro n hn
    obtain rfl := Option.some.inj hn
    exact Nat.le_of_lt_succ b.isLt

theorem lineLevel_le : lineLevel (arrange raw m) ≤ 255 := by
  have hsum : (livePixels (arrange raw m)).sum ≤ (livePixels (arrange raw m)).length • 255 :=
    List.sum_le_card_nsmul _ _ fun n hn => by
      obtain ⟨p, hp, rfl⟩ := List.mem_filterMap.1 hn
      exact pixel_le hp n rfl
  exact Nat.div_le_of_le_mul hsum

theorem focusTerm_le {p : Option Nat × Option Nat} (h1 : ∀ n ∈ p.1, n ≤ 255) (h2 : ∀ n ∈ p.2, n ≤ 255) :
    focusTerm p ≤ 255 := by
  obtain ⟨_ | x, _ | y⟩ := p
  case some.some =>
    have hx := h1 x rfl
    have hy := h2 y rfl
    simp only [focusTerm]
    omega
  all_goals exact Nat.zero_le _

theorem focusTerms_le {s t : Nat} (h : t ∈ focusTerms (arrange raw m) s) : t ≤ 255 := by
  obtain ⟨p, hp, rfl⟩ := List.mem_map.1 h
  obtain ⟨hleft, hright⟩ := List.of_mem_zip (a := p.1) (b := p.2) hp
  exact focusTerm_le (pixel_le hleft) (pixel_le (List.mem_of_mem_drop hright))

/-- A half-sum has at most 32 terms of at most 255. -/
theorem halfSum_le {l : List Nat} (hl : l.length ≤ 32) (h : ∀ t ∈ l, t ≤ 255) : l.sum ≤ 8160 :=
  (List.sum_le_card_nsmul l 255 h).trans (Nat.mul_le_mul_right 255 hl)

theorem focusTerms_length_le (h : raw.length = 64) (s : Nat) : (focusTerms (arrange raw m) s).length ≤ 64 := by
  simp only [focusTerms, List.length_map, List.length_zip, arrange_length h]
  omega

theorem lineStats_bounds (h : raw.length = 64) (s : Nat) :
    (lineStats raw m s).level ≤ 255 ∧ (lineStats raw m s).focusLow ≤ 8160 ∧ (lineStats raw m s).focusHigh ≤ 8160 := by
  have hlength := focusTerms_length_le (m := m) h s
  have hlow : ((focusTerms (arrange raw m) s).take 32).sum ≤ 8160 :=
    halfSum_le (by simp) fun t ht => focusTerms_le (List.mem_of_mem_take ht)
  have hhigh : ((focusTerms (arrange raw m) s).drop 32).sum ≤ 8160 :=
    halfSum_le (by rw [List.length_drop]; omega) fun t ht => focusTerms_le (List.mem_of_mem_drop ht)
  have hhalf : ∀ (c : Bool) {n : Nat}, n ≤ 8160 → (if c then 0 else n) ≤ 8160 := fun c n hn => by cases c <;> simp [hn]
  exact ⟨lineLevel_le, hhalf _ hlow, hhalf _ hhigh⟩

/-- A saturated half counts as 0, and a line is counted unless both halves are saturated (R80). -/
theorem lineStats_saturated (raw : List Byte) (m : TapMap) (s : Nat) :
    ((lineStats raw m s).saturatedLow = true → (lineStats raw m s).focusLow = 0)
      ∧ ((lineStats raw m s).saturatedHigh = true → (lineStats raw m s).focusHigh = 0)
      ∧ ((lineStats raw m s).counted = false ↔ (lineStats raw m s).saturatedLow = true ∧ (lineStats raw m s).saturatedHigh = true) :=
  ⟨fun h => if_pos h, fun h => if_pos h, by simp [lineStats]⟩

end

/-! ### The window of an open frame -/

section
variable {d : Dev} {r : LineResult} {w : FrameWindow} {f : OpenFrame}

theorem lineCounts_some {st : LineStats} (hr : r.stats = some st) (hc : st.counted = true) (hl : d.focus.lens.state = .idle) :
    lineCounts r d = some st := by
  unfold lineCounts
  rw [hr]
  exact if_pos ⟨hc, hl⟩

theorem lineCounts_none (h : r.stats = none ∨ r.stats.any (fun st => !st.counted) = true ∨ d.focus.lens.state ≠ .idle) :
    lineCounts r d = none := by
  unfold lineCounts
  cases hr : r.stats with
  | none => rfl
  | some st => exact if_neg fun ⟨hc, hl⟩ => by simp [hr, hc, hl] at h

/-- A counted line of the open frame gathered into its window (R90, R100). -/
theorem frameLine_gathers {st : LineStats} (hf : d.detector.openFrame = some f) (hw : d.focus.frameWindow = some w)
    (hs : w.score = none) (hc : lineCounts r d = some st) :
    frameLine r d = d.setFocus
      { d.focus with
        frameWindow := some
          { window := w.window.add st, score := if (w.window.add st).full then some (w.window.add st).score else none } } := by
  unfold frameLine
  rw [hf, hw, hc]
  exact if_neg (by simp [hs])

theorem frameLine_scored (hw : d.focus.frameWindow = some w) (h : w.score ≠ none ∨ lineCounts r d = none) : frameLine r d = d := by
  unfold frameLine
  rw [hw]
  split
  next w' st _ hw' hcounts =>
    obtain rfl := Option.some.inj hw'
    exact if_pos (Option.isSome_iff_ne_none.2 (h.resolve_right (by simp [hcounts])))
  · rfl

end

end Sys2Proof.Proofs

/-! Lines taken in RUN and the close of a frame (R110 to R114, R116, R150). -/

namespace Sys2Proof.Proofs

open Sys2Proof Sys2Proof.Machine

/-! ### Operations that leave the detector and the scan run controller -/

/-- The detector and the scan run controller of one device are those of another. -/
structure SameScan (d e : Dev) : Prop where
  detector : e.detector = d.detector
  scan : e.scan = d.scan

section
variable {d e : Dev}

theorem SameScan.refl (d : Dev) : SameScan d d := ⟨rfl, rfl⟩

theorem SameScan.ite {p : Prop} [Decidable p] {f : Dev} (he : SameScan d e) (hf : SameScan d f) : SameScan d (if p then e else f) := by
  split
  · exact he
  · exact hf

theorem SameScan.snd_ite {α : Type} {p : Prop} [Decidable p] {x y : α × Dev} (hx : SameScan d x.2) (hy : SameScan d y.2) :
    SameScan d (if p then x else y).2 := by
  split
  · exact hx
  · exact hy

theorem SameScan.trans {f : Dev} (hf : SameScan e f) (h : SameScan d e) : SameScan d f :=
  ⟨hf.detector.trans h.detector, hf.scan.trans h.scan⟩

/-- A change outside the detector and the scan run controller. -/
theorem SameScan.same {f : Dev} (h : SameScan d e) (hd : f.detector = e.detector) (hs : f.scan = e.scan) : SameScan d f :=
  ⟨hd.trans h.detector, hs.trans h.scan⟩

theorem lensRest_sameScan (h : SameScan d e) : SameScan d (lensRest e) := .ite (h.same rfl rfl) (h.same rfl rfl)

theorem beginSettle_sameScan {m : MoveRecord} (h : SameScan d e) : SameScan d (beginSettle m e) :=
  .ite (lensRest_sameScan (h.same rfl rfl)) (h.same rfl rfl)

theorem moveRequest_sameScan {n : Nat} {q : Requester} (h : SameScan d e) : SameScan d (moveRequest n q e).2 := by
  have hreported : ∀ b : Bool, SameScan d (if b then report .searchSuperseded e else e) := fun _ => .ite (h.same rfl rfl) h
  unfold moveRequest
  dsimp only
  split
  · exact h
  · exact h
  · exact h
  · exact .snd_ite h (h.same rfl rfl)
  · exact .snd_ite (beginSettle_sameScan (hreported _)) ((hreported _).same rfl rfl)

theorem trackMove_sameScan {t : TrackContext} (h : SameScan d e) : SameScan d (trackMove t e) := by
  have hmoved : ∀ {n q a f}, moveRequest n q e = (a, f) → SameScan d f := fun {n q _ _} hm => by
    have := moveRequest_sameScan (n := n) (q := q) h
    rwa [hm] at this
  unfold trackMove
  dsimp only
  split
  · exact h
  · split
    next hm => exact hmoved hm
    next hm => exact (hmoved hm).same rfl rfl
  · split
    next hm => exact hmoved hm
    next hm => exact (hmoved hm).same rfl rfl
  · exact (moveRequest_sameScan h).same rfl rfl

theorem gapAccepted_sameScan {x : Int} (h : SameScan d e) : SameScan d (gapAccepted x e) := by
  refine .ite ?_ h
  split
  · exact .ite (trackMove_sameScan h) h
  · unfold recallMove
    split
    · exact .ite h (moveRequest_sameScan h)
    · exact h
  · exact h

theorem pauseTrack_sameScan (h : SameScan d e) : SameScan d (pauseTrack e) := by
  unfold pauseTrack
  split
  · exact h
  next t _ =>
    have hreturned : SameScan d (if t.state = .goBack then finishReturn t e else e) := .ite (h.same rfl rfl) h
    exact hreturned.same rfl rfl

theorem giveStop_sameScan {o : Owner} (h : SameScan d e) : SameScan d (giveStop o e) := by
  refine .ite (h.same rfl rfl) ?_
  split
  · exact h.same rfl rfl
  · exact h.same rfl rfl
  · exact h.same rfl rfl
  · exact h.same rfl rfl
  · exact h.same rfl rfl
  · exact h.same rfl rfl
  · exact h.same rfl rfl
  · exact .ite h (h.same rfl rfl)
  · exact h

theorem completeAll_sameScan {c : CompletionResult} (rs : List RetrievalRequest) (h : SameScan d e) : SameScan d (completeAll c rs e) := by
  induction rs generalizing e with
  | nil => exact h
  | cons r rest ih =>
    refine ih ?_
    unfold completeIdle completeRequest
    split
    · exact h
    · exact .ite (h.same rfl rfl) (h.same rfl rfl)

theorem setIndexState_sameScan {st : IndexState} {c : Option CloseCause} (h : SameScan d e) : SameScan d (setIndexState st c e) :=
  .ite (h.same rfl rfl) (h.same rfl rfl)

theorem closeIndex_sameScan {c : CloseCause} (h : SameScan d e) : SameScan d (closeIndex c e) :=
  completeAll_sameScan _ (setIndexState_sameScan h)

/-- The release of a grant of an operation that has no arm. -/
theorem releaseGrant_sameScan {o : Owner} (ha : e.trigger.arm = none) (h : SameScan d e) : SameScan d (releaseGrant o e) := by
  refine .ite h (.ite ?_ (h.same rfl rfl))
  unfold dropGrant
  dsimp only
  rw [Dev.setTransport_trigger, ha]
  exact h.same rfl rfl

theorem giveStop_arm {o : Owner} (ha : e.trigger.arm = none) : (giveStop o e).trigger.arm = none := by
  unfold giveStop
  split
  · exact ha
  · cases e.transport.motion
    case stopping =>
      dsimp only
      split <;> exact ha
    all_goals exact ha

end

/-! ### Where the detector and the run stand while a frame is closed -/

/-- The detector between two frames. -/
def Frameless (det : Detector) : Prop := det.gapState ≠ .inFrame ∧ det.gapRun = none ∧ det.openFrame = none

/-- The detector just after its frame ended, with what the next line opens. -/
def JustClosed (opensNext : Bool) (det : Detector) : Prop :=
  det.gapState = .inGap ∧ det.gapRun = none ∧ det.openFrame = none ∧ det.openNext = opensNext

theorem JustClosed.frameless {b : Bool} {det : Detector} (h : JustClosed b det) : Frameless det :=
  ⟨by simp [h.1], h.2.1, h.2.2.1⟩

/-- The detector, the gate, the notices and the run that a frame close passes through. -/
structure Standing (P : Detector → Prop) (gate : Bool) (notices : List Notice) (number closed : Nat) (d : Dev) : Prop where
  detector : P d.detector
  gate : d.scan.gate = gate
  notices : d.scan.notices = notices
  run : ∃ r, d.scan.run = some r ∧ r.number = number ∧ r.framesClosed = closed

section
variable {P : Detector → Prop} {g : Bool} {ns : List Notice} {n k : Nat} {d e : Dev}

theorem Standing.of_sameScan (h : Standing P g ns n k d) (he : SameScan d e) : Standing P g ns n k e := by
  obtain ⟨hdetector, hgate, hnotices, hrun⟩ := h
  exact ⟨he.detector ▸ hdetector, he.scan ▸ hgate, he.scan ▸ hnotices, he.scan ▸ hrun⟩

theorem Standing.ite {p : Prop} [Decidable p] (hd : Standing P g ns n k d) (he : Standing P g ns n k e) :
    Standing P g ns n k (if p then d else e) := by
  split
  · exact hd
  · exact he

theorem Standing.snd_ite {α : Type} {p : Prop} [Decidable p] {x y : α × Dev} (hx : Standing P g ns n k x.2)
    (hy : Standing P g ns n k y.2) : Standing P g ns n k (if p then x else y).2 := by
  split
  · exact hx
  · exact hy

/-- A step that is taken under a condition. -/
theorem Standing.step_if {p : Prop} [Decidable p] (hstep : Standing P g ns n k d → Standing P g ns n k e) (h : Standing P g ns n k d) :
    Standing P g ns n k (if p then e else d) := .ite (hstep h) h

theorem modifyRun_standing {c : RunRecord → RunRecord} (hnumber : ∀ r, (c r).number = r.number)
    (hclosed : ∀ r, (c r).framesClosed = r.framesClosed) (h : Standing P g ns n k d) : Standing P g ns n k (modifyRun c d) := by
  obtain ⟨r, hr, hn, hk⟩ := h.run
  exact ⟨h.detector, h.gate, h.notices, c r, congrArg (Option.map c) hr, (hnumber r).trans hn, (hclosed r).trans hk⟩

theorem setRunState_standing {st : RunState} (h : Standing P g ns n k d) : Standing P g ns n k (setRunState st d) := by
  unfold setRunState
  split
  · exact h
  · exact .ite h ((modifyRun_standing (c := fun r => { r with state := st }) (fun _ => rfl) (fun _ => rfl) h).of_sameScan ⟨rfl, rfl⟩)

theorem setRunCause_standing {c : RunCause} (h : Standing P g ns n k d) : Standing P g ns n k (setRunCause c d) :=
  modifyRun_standing (fun _ => rfl) (fun _ => rfl) h

/-- A correction moves marks only. -/
theorem applyPending_standing (hP : ∀ det m ms, P det → P { det with openMark := m, marks := ms }) (h : Standing P g ns n k d) :
    Standing P g ns n k (applyPending d) := by
  unfold applyPending
  split
  · exact h
  · obtain ⟨r, hr, hn, hk⟩ := h.run
    exact ⟨hP _ _ _ h.detector, h.gate, h.notices, _, congrArg (Option.map _) hr, hn, hk⟩

theorem driftReport_standing {m : Nat} {delta : Int} (hP : ∀ det m ms, P det → P { det with openMark := m, marks := ms })
    (h : Standing P g ns n k d) : Standing P g ns n k (driftReport m delta d).2 :=
  .snd_ite (.ite (applyPending_standing hP (h.of_sameScan ⟨rfl, rfl⟩)) (h.of_sameScan ⟨rfl, rfl⟩)) (h.of_sameScan ⟨rfl, rfl⟩)

theorem beginSuspending_standing {c : RunCause} (h : Standing P g ns n k d) : Standing P g ns n k (beginSuspending c d) :=
  setRunState_standing (setRunCause_standing h)

theorem appendFrame_standing {run : Nat} {c : ClosedFrame} (h : Standing P g ns n k d) : Standing P g ns n k (appendFrame run c d).2 := by
  have hopened : Standing P g ns n k
      (setIndexState .open_ none (d.setIndex { d.index with entries := d.index.entries ++ [appendedEntry run c] })) :=
    h.of_sameScan (setIndexState_sameScan ⟨rfl, rfl⟩)
  have hresolved := hopened.of_sameScan (e := resolveDeferred _) ⟨rfl, rfl⟩
  exact .step_if (fun h => h.of_sameScan (closeIndex_sameScan (.refl _))) (.step_if beginSuspending_standing hresolved)

theorem indexTakes_standing {run : Nat} {c : ClosedFrame} (hP : ∀ det m ms, P det → P { det with openMark := m, marks := ms })
    (h : Standing P g ns n k d) : Standing P g ns n k (indexTakes run c d).2 := by
  unfold indexTakes
  split
  · exact driftReport_standing hP h
  · exact .snd_ite h (.snd_ite h (.snd_ite (appendFrame_standing h) h))

/-- A disarm inside a frame close hands no frame on. -/
theorem disarm_standing {why : DisarmCause} (h : Standing Frameless false ns n k d) :
    Standing Frameless false ns n k (disarm why true d) := by
  cases ha : d.trigger.arm with
  | none => rwa [disarm_of_unarmed why true d ha]
  | some a =>
    have hdiscarded : Standing Frameless false ns n k (discardArm d) :=
      ⟨⟨(by decide : GapState.unknown ≠ .inFrame), rfl, rfl⟩, rfl, h.notices, h.run⟩
    rw [disarm_armed why true ha, disarmSteps, dropBoundary_saveLine, show handOnFrame true d = d from if_neg (by simp)]
    refine (applyPending_standing ?_ (modifyRun_standing ?_ ?_ hdiscarded)).of_sameScan ⟨rfl, rfl⟩
    · exact fun det m ms hdet => hdet
    · exact fun r => rfl
    · exact fun r => rfl

/-! ### The close of a frame -/

theorem setRunState_state {st : RunState} {r : RunRecord} (h : (setRunState st d).scan.run = some r) : r.state = st := by
  unfold setRunState at h
  split at h
  next hnone => simp [hnone] at h
  next r' hr' =>
    split at h
    next hst => exact Option.some.inj (hr'.symm.trans h) ▸ hst
    next =>
      have hmoved : (modifyRun (fun r => { r with state := st }) d).scan.run = some r := h
      rw [modifyRun_run, hr'] at hmoved
      exact Option.some.inj hmoved ▸ rfl

/-- The close of a frame taken by the scan run controller (R150): a run that goes on has the frame's boundary as its boundary point. -/
structure FrameTaken (opensNext : Bool) (c : ClosedFrame) (ns : List Notice) (n k : Nat) (d : Dev) : Prop where
  standing : Standing Frameless false ns n k d
  running : ∀ r, d.scan.run = some r → r.state = .running →
    d.detector.openNext = opensNext ∧ r.boundary = some { position := c.boundary, state := c.resumeState }

variable {b : Bool} {c : ClosedFrame}

theorem FrameTaken.of_sameScan (h : FrameTaken b c ns n k d) (he : SameScan d e) : FrameTaken b c ns n k e :=
  ⟨h.standing.of_sameScan he, fun r hr hs => he.detector ▸ h.running r (he.scan ▸ hr) hs⟩

theorem FrameTaken.ite {p : Prop} [Decidable p] (hd : FrameTaken b c ns n k d) (he : FrameTaken b c ns n k e) :
    FrameTaken b c ns n k (if p then d else e) := by
  split
  · exact hd
  · exact he

/-- A run that leaves RUNNING needs no boundary point. -/
theorem FrameTaken.of_stopped {st : RunState} (hst : st ≠ .running) (h : Standing Frameless false ns n k d) :
    FrameTaken b c ns n k (setRunState st d) :=
  ⟨setRunState_standing h, fun _ hr hs => absurd ((setRunState_state hr).symm.trans hs) hst⟩

theorem endAtCount_taken (h : Standing Frameless false ns n k d) : FrameTaken b c ns n k (endAtCount d) :=
  .of_stopped (by decide) (setRunCause_standing ((disarm_standing h).of_sameScan (giveStop_sameScan (.refl _))))

theorem completeSuspension_taken (h : Standing Frameless false ns n k d) : FrameTaken b c ns n k (completeSuspension d) := by
  have hmoved : Standing Frameless false ns n k (modifyRun (fun r => { r with resume := r.boundary, boundary := none }) d) :=
    modifyRun_standing (fun _ => rfl) (fun _ => rfl) h
  have hreleased := ((disarm_standing (why := .command) hmoved).of_sameScan (giveStop_sameScan (o := .scan) (.refl _))).of_sameScan
    (releaseGrant_sameScan (o := .scan) (giveStop_arm (disarm_unarms _ _ _)) (.refl _))
  unfold completeSuspension
  dsimp only
  split
  next hnone =>
    obtain ⟨r, hr, -⟩ := hreleased.run
    exact absurd (hnone.symm.trans hr) (by simp)
  next => exact .of_stopped (by decide) (modifyRun_standing (fun _ => rfl) (fun _ => rfl) hreleased)

theorem scanTakesClose_taken {a : IndexAnswer} (h : Standing (JustClosed b) g ns n k d) :
    FrameTaken b c (ns ++ [frameNotice n c a]) n (k + 1) (scanTakesClose c a d) := by
  obtain ⟨hdetector, -, rfl, r, hr, rfl, rfl⟩ := h
  obtain ⟨bl, ps, hn⟩ := pushNotice_eq (frameNotice r.number c a) (setGate false d)
  have hnoted : FrameTaken b c (d.scan.notices ++ [frameNotice r.number c a]) r.number (r.framesClosed + 1)
      (modifyRun (fun r' => { r' with
          framesClosed := r.framesClosed + 1, boundary := some { position := c.boundary, state := c.resumeState } })
        (pushNotice (frameNotice r.number c a) (setGate false d))) := by
    rw [hn]
    refine ⟨⟨hdetector.frameless, rfl, rfl, _, congrArg (Option.map _) hr, rfl, rfl⟩, fun r' hr' _ => ⟨hdetector.2.2.2, ?_⟩⟩
    exact Option.some.inj ((congrArg (Option.map _) hr).symm.trans hr') ▸ rfl
  unfold scanTakesClose
  rw [hr]
  exact .ite (endAtCount_taken hnoted.standing) (.ite (completeSuspension_taken hnoted.standing)
    (.ite (.of_stopped (by decide) (setRunCause_standing hnoted.standing)) hnoted))

/-- The record of the frame that a close hands on (R113, R114, R119 to R121). -/
def closedRecord (forced : Bool) (f : OpenFrame) (stop_ : Int) (lastLine : Nat) (q : Int) (st : ResumeState) (d : Dev) : ClosedFrame :=
  let length := (stop_ - f.start).toNat
  let attached := attachedMarks d.detector.marks d.detector.firstClose f.start stop_
  let address := advanceAddress d.detector.counters (markLevel attached)
  { start := f.start, length := length, firstLine := f.firstLine, lastLine := lastLine, address := address.1
    markLevel := markLevel attached, focusStep := (frameLensFacts d).2
    flags := closeFlags f length forced attached address.2 (frameLensFacts d).1 d, boundary := q, resumeState := st }

/-- The detector and the focus controller at the end of a frame, before the index takes it. -/
def frameEnded (forced : Bool) (stop_ : Int) (address : Address) (d : Dev) : Dev :=
  (d.setDetector
    { d.detector with
      gapState := .inGap, gapRun := none, openFrame := none, openNext := forced
      marks := d.detector.marks.filter fun m => !decide (m.position < stop_)
      counters := address, markLost := false }).setFocus { d.focus with frameLens := none, frameWindow := none }

/-- The counters that the index gives the detector. -/
def countersTaken (a : IndexAnswer) (d : Dev) : Dev :=
  match a.address with
  | some x => d.setDetector { d.detector with counters := x }
  | none => d

/-- The detector counts marks and lines from a close on. -/
def closeCounted (d : Dev) : Dev := d.setDetector { d.detector with firstClose := true, sinceClose := 0 }

/-- The tracking focus takes the cycle of the frame (R101). -/
def cycleTaken (tracking : Bool) (score step : Option Nat) (splice : Bool) (d : Dev) : Dev :=
  match tracking, d.focus.track with
  | true, some t => d.setFocus { d.focus with track := some (trackCycle d.focus.cfg.trackThreshold t score step splice) }
  | _, _ => d

/-- The moves of the lens and the pause of tracking at the end of a close (R101 to R103). -/
def lensAtClose (forced : Bool) (x : Int) (d : Dev) : Dev :=
  let d := if forced then d else gapAccepted x d
  if runIn d [.suspended] then pauseTrack d else d

/-- A close in its steps. -/
theorem closeFrame_steps (forced : Bool) (f : OpenFrame) (stop_ : Int) (lastLine : Nat) (q : Int) (st : ResumeState) (x : Int) (d : Dev) :
    ∃ tracking score step splice, closeFrame forced f stop_ lastLine q st x d
      = let c := closedRecord forced f stop_ lastLine q st d
        let i := indexTakes ((d.scan.run.map (·.number)).getD 0) c (frameEnded forced stop_ c.address d)
        lensAtClose forced x (cycleTaken tracking score step splice (closeCounted (scanTakesClose c i.1 (countersTaken i.1 i.2)))) :=
  ⟨focusActivity d == .track, frameScore d.focus.frameWindow, (frameLensFacts d).2,
    (closedRecord forced f stop_ lastLine q st d).flags.splice, rfl⟩

theorem countersTaken_standing {a : IndexAnswer} (h : Standing (JustClosed b) g ns n k d) :
    Standing (JustClosed b) g ns n k (countersTaken a d) := by
  unfold countersTaken
  split
  · exact ⟨h.detector, h.gate, h.notices, h.run⟩
  · exact h

theorem cycleTaken_sameScan {tracking splice : Bool} {score step : Option Nat} (h : SameScan d e) :
    SameScan d (cycleTaken tracking score step splice e) := by
  unfold cycleTaken
  split
  · exact h.same rfl rfl
  · exact h

theorem lensAtClose_sameScan {forced : Bool} {x : Int} (h : SameScan d e) : SameScan d (lensAtClose forced x e) := by
  have hgap : SameScan d (if forced then e else gapAccepted x e) := .ite h (gapAccepted_sameScan h)
  exact .ite (pauseTrack_sameScan hgap) hgap

theorem closeCounted_taken (h : FrameTaken b c ns n k d) : FrameTaken b c ns n k (closeCounted d) :=
  ⟨⟨h.standing.detector, h.standing.gate, h.standing.notices, h.standing.run⟩, h.running⟩

/-- A frame close: one FRAME notice, and the run's count and boundary point (R113, R114, R150). -/
theorem closeFrame_taken {forced : Bool} {f : OpenFrame} {stop_ q x : Int} {lastLine : Nat} {st : ResumeState} {run : RunRecord}
    (hr : d.scan.run = some run) :
    ∃ a, (closeFrame forced f stop_ lastLine q st x d).detector.sinceClose = 0
      ∧ FrameTaken forced (closedRecord forced f stop_ lastLine q st d)
        (d.scan.notices ++ [frameNotice run.number (closedRecord forced f stop_ lastLine q st d) a]) run.number (run.framesClosed + 1)
        (closeFrame forced f stop_ lastLine q st x d) := by
  obtain ⟨tracking, score, step, splice, hsteps⟩ := closeFrame_steps forced f stop_ lastLine q st x d
  rw [hsteps]
  dsimp only
  generalize hc : closedRecord forced f stop_ lastLine q st d = c
  generalize hi : indexTakes ((d.scan.run.map (·.number)).getD 0) c (frameEnded forced stop_ c.address d) = i
  have hended : Standing (JustClosed forced) d.scan.gate d.scan.notices run.number run.framesClosed
      (frameEnded forced stop_ c.address d) := ⟨⟨rfl, rfl, rfl, rfl⟩, rfl, rfl, run, hr, rfl, rfl⟩
  have hindexed : Standing (JustClosed forced) d.scan.gate d.scan.notices run.number run.framesClosed i.2 :=
    hi ▸ indexTakes_standing (fun _ _ _ h => h) hended
  have hcounted := closeCounted_taken (scanTakesClose_taken (c := c) (a := i.1) (countersTaken_standing (a := i.1) hindexed))
  have hlens := lensAtClose_sameScan (forced := forced) (x := x)
    (cycleTaken_sameScan (tracking := tracking) (splice := splice) (score := score) (step := step) (.refl
      (closeCounted (scanTakesClose c i.1 (countersTaken i.1 i.2)))))
  refine ⟨i.1, ?_, hcounted.of_sameScan hlens⟩
  rw [hlens.detector]
  rfl

end

end Sys2Proof.Proofs

/-! Lines taken in RUN and in CONFIRM (R110 to R114). -/

namespace Sys2Proof.Proofs

open Sys2Proof Sys2Proof.Machine

/-! ### A line taken in RUN -/

section
variable (r : LineResult) (d : Dev)

/-- The class of a line result (R110). -/
def classOf : LineClass :=
  classify ((d.roll.record.map (·.polarity)).getD .negative) d.detector.cfg d.detector.previous (r.stats.map (·.level))

/-- The first line of the gap run that a GAP_LIKE line belongs to (R111). -/
def gapFirst : GapRun := d.detector.gapRun.getD { position := r.trigger.position, line := resultLine r }

/-- The gap run after a line. -/
def gapAfter : Option GapRun := match classOf r d with
  | .imageLike => none
  | .gapLike => some (gapFirst r d)

/-- The line result noted: its class, its gap run, and the last line of an open frame. -/
def lineNoted : Dev :=
  d.setDetector
    { d.detector with
      previous := classOf r d, gapRun := gapAfter r d, openFrame := d.detector.openFrame.map fun f => f.take r }

/-- The gap run that ends with this line is long enough to be accepted (R111). -/
abbrev GapLongEnough (a : Arm) : Prop :=
  256 * (r.trigger.position - (gapFirst r d).position) + (a.pitch : Int) ≥ 256 * (d.detector.cfg.minGap : Int)

/-- A line that completes an accepted gap run. -/
abbrev EndsGap (a : Arm) : Prop := classOf r d = .gapLike ∧ GapLongEnough r d a

end

section
variable {r : LineResult} {d : Dev} {a : Arm}

theorem frameLine_focus (r : LineResult) (d : Dev) : ∃ fc, frameLine r d = d.setFocus fc := by
  unfold frameLine
  split
  · split
    · exact ⟨d.focus, rfl⟩
    · exact ⟨_, rfl⟩
  · exact ⟨d.focus, rfl⟩

theorem gapAfter_image (h : classOf r d = .imageLike) : gapAfter r d = none := by
  unfold gapAfter
  rw [h]

theorem gapLike_of_not {c : LineClass} (h : c ≠ .imageLike) : c = .gapLike := by
  cases c with
  | imageLike => exact absurd rfl h
  | gapLike => rfl

theorem gapAfter_gap (h : classOf r d = .gapLike) : gapAfter r d = some (gapFirst r d) := by
  unfold gapAfter
  rw [h]

/-- Whether a line completes an accepted gap run, as the detector reads it off the gap run. -/
def gapCompleted (r : LineResult) (d : Dev) (a : Arm) : Bool := match gapAfter r d with
  | some g => gapReached g r.trigger.position a.pitch d.detector.cfg.minGap
  | none => false

theorem gapCompleted_iff : gapCompleted r d a = true ↔ EndsGap r d a := by
  unfold gapCompleted EndsGap GapLongEnough
  cases hc : classOf r d with
  | imageLike => simp [gapAfter_image hc]
  | gapLike => simp [gapAfter_gap hc, gapReached]

theorem runLine_opens (h : d.detector.openNext = true) : runLine a r d = openFrame r d := if_pos h

/-- A line that no frame has to open at, judged by the gap state (R111 to R114). -/
def judgedLine (a : Arm) (r : LineResult) (d : Dev) : Dev :=
  match d.detector.gapState, d.detector.openFrame.map fun f => f.take r with
  | .inFrame, some f =>
    match gapCompleted r d a, gapAfter r d with
    | true, some g => closeFrame false f g.position (g.line - 1) r.trigger.position .inGap r.trigger.position (lineNoted r d)
    | _, _ =>
      if (d.detector.cfg.maxFrame : Int) ≤ r.trigger.position - f.start then
        closeFrame true f r.trigger.position f.lastLine (lineAfter a r) .frameStart r.trigger.position (frameLine r (lineNoted r d))
      else lineNoted r d
  | .inFrame, none => lineNoted r d
  | .inGap, _ =>
    if classOf r d = .imageLike then openFrame r (lineNoted r d)
    else if gapCompleted r d a then
      gapAccepted r.trigger.position ((lineNoted r d).setDetector { (lineNoted r d).detector with gapRun := none })
    else lineNoted r d
  | .unknown, _ =>
    if gapCompleted r d a then
      gapAccepted r.trigger.position ((lineNoted r d).setDetector { (lineNoted r d).detector with gapState := .inGap, gapRun := none })
    else lineNoted r d

theorem runLine_judged (h : d.detector.openNext = false) : runLine a r d = judgedLine a r d := if_neg (by simp [h])

theorem judgedLine_unknown (hs : d.detector.gapState = .unknown) :
    judgedLine a r d = if gapCompleted r d a then
        gapAccepted r.trigger.position ((lineNoted r d).setDetector { (lineNoted r d).detector with gapState := .inGap, gapRun := none })
      else lineNoted r d := by
  unfold judgedLine
  rw [hs]

theorem judgedLine_inGap (hs : d.detector.gapState = .inGap) :
    judgedLine a r d = if classOf r d = .imageLike then openFrame r (lineNoted r d)
      else if gapCompleted r d a then
        gapAccepted r.trigger.position ((lineNoted r d).setDetector { (lineNoted r d).detector with gapRun := none })
      else lineNoted r d := by
  unfold judgedLine
  rw [hs]

section
variable {f : OpenFrame}

/-- A line of an open frame that completes an accepted gap run closes it at the first line of the run (R113). -/
theorem judgedLine_closes (hs : d.detector.gapState = .inFrame) (hf : d.detector.openFrame = some f) (hg : EndsGap r d a) :
    judgedLine a r d = closeFrame false (f.take r) (gapFirst r d).position ((gapFirst r d).line - 1) r.trigger.position .inGap
      r.trigger.position (lineNoted r d) := by
  unfold judgedLine
  rw [hs, hf, gapCompleted_iff.2 hg, gapAfter_gap hg.1]
  rfl

theorem judgedLine_inFrame (hs : d.detector.gapState = .inFrame) (hf : d.detector.openFrame = some f) (hg : ¬ EndsGap r d a) :
    judgedLine a r d = if (d.detector.cfg.maxFrame : Int) ≤ r.trigger.position - f.start then
        closeFrame true (f.take r) r.trigger.position (resultLine r) (lineAfter a r) .frameStart r.trigger.position
          (frameLine r (lineNoted r d))
      else lineNoted r d := by
  unfold judgedLine
  rw [hs, hf, Bool.eq_false_iff.2 (mt gapCompleted_iff.1 hg)]
  rfl

end

/-- A frame opens (R112). -/
theorem openFrame_opens (r : LineResult) (d : Dev) :
    (openFrame r d).detector.gapState = .inFrame ∧ (openFrame r d).scan.gate = true ∧ (openFrame r d).detector.gapRun = none
      ∧ (openFrame r d).detector.previous = .imageLike
      ∧ (openFrame r d).detector.openFrame
        = some { start := r.trigger.position, firstLine := resultLine r, monitorGap := r.stats.isNone, lastLine := resultLine r
                 lastPosition := r.trigger.position } :=
  ⟨rfl, rfl, rfl, rfl, rfl⟩

/-- A close as the line that makes it leaves it (R113, R114, R150). -/
def ClosesAs (f : OpenFrame) (run : RunRecord) (missed forced : Bool) (end_ : Int) (lastLine : Nat) (q : Int) (st : ResumeState)
    (d t : Dev) : Prop :=
  t.detector.gapState ≠ .inFrame ∧ t.detector.openFrame = none ∧ t.detector.gapRun = none ∧ t.scan.gate = false
    ∧ t.detector.sinceClose = 0
    ∧ (∃ notice, t.scan.notices = d.scan.notices ++ [notice] ∧ notice.kind = .frame ∧ notice.run = run.number
      ∧ notice.start = f.start ∧ notice.length = (end_ - f.start).toNat ∧ notice.firstLine = f.firstLine
      ∧ notice.lastLine = lastLine ∧ notice.flags.forced = forced ∧ notice.flags.monitorGap = missed
      ∧ notice.flags.suspect = d.guard.suspectLatch)
    ∧ ∃ run', t.scan.run = some run' ∧ run'.framesClosed = run.framesClosed + 1
      ∧ (run'.state = .running → t.detector.openNext = forced ∧ run'.boundary = some { position := q, state := st })

theorem closeFrame_closes {f : OpenFrame} {run : RunRecord} {forced : Bool} {stop_ q x : Int} {lastLine : Nat} {st : ResumeState}
    (hr : d.scan.run = some run) :
    ClosesAs f run f.monitorGap forced stop_ lastLine q st d (closeFrame forced f stop_ lastLine q st x d) := by
  obtain ⟨a, hsince, hstanding, hrunning⟩ := closeFrame_taken (forced := forced) (f := f) (stop_ := stop_) (q := q) (x := x)
    (lastLine := lastLine) (st := st) hr
  obtain ⟨⟨hstate, hgap, hframe⟩, hgate, hnotices, run', hr', -, hclosed⟩ := hstanding
  exact ⟨hstate, hframe, hgap, hgate, hsince, ⟨_, hnotices, rfl, rfl, rfl, rfl, rfl, rfl, rfl, rfl, rfl⟩,
    run', hr', hclosed, hrunning run' hr'⟩

theorem runLine_closes {f : OpenFrame} {run : RunRecord} (ho : d.detector.openNext = false) (hs : d.detector.gapState = .inFrame)
    (hf : d.detector.openFrame = some f) (hr : d.scan.run = some run) (hg : EndsGap r d a) :
    ClosesAs f run (f.monitorGap || r.stats.isNone) false (gapFirst r d).position ((gapFirst r d).line - 1) r.trigger.position .inGap d
      (runLine a r d) := by
  rw [runLine_judged ho, judgedLine_closes hs hf hg]
  exact closeFrame_closes (f := f.take r) (d := lineNoted r d) hr

theorem runLine_forces {f : OpenFrame} {run : RunRecord} (ho : d.detector.openNext = false) (hs : d.detector.gapState = .inFrame)
    (hf : d.detector.openFrame = some f) (hr : d.scan.run = some run) (hg : ¬ EndsGap r d a)
    (hlong : (d.detector.cfg.maxFrame : Int) ≤ r.trigger.position - f.start) :
    ClosesAs f run (f.monitorGap || r.stats.isNone) true r.trigger.position (resultLine r) (lineAfter a r) .frameStart d
      (runLine a r d) := by
  obtain ⟨fc, hline⟩ := frameLine_focus r (lineNoted r d)
  rw [runLine_judged ho, judgedLine_inFrame hs hf hg, if_pos hlong, hline]
  exact closeFrame_closes (f := f.take r) (d := (lineNoted r d).setFocus fc) hr

theorem runLine_stays {f : OpenFrame} (ho : d.detector.openNext = false) (hs : d.detector.gapState = .inFrame)
    (hf : d.detector.openFrame = some f) (hg : ¬ EndsGap r d a) (hlong : r.trigger.position - f.start < d.detector.cfg.maxFrame) :
    runLine a r d = lineNoted r d := by
  rw [runLine_judged ho, judgedLine_inFrame hs hf hg, if_neg (not_le.2 hlong)]

theorem runLine_unknown_image (ho : d.detector.openNext = false) (hs : d.detector.gapState = .unknown) (hc : classOf r d = .imageLike) :
    runLine a r d = d.setDetector
      { d.detector with previous := .imageLike, gapRun := none, openFrame := d.detector.openFrame.map fun f => f.take r } := by
  have hnone : ¬ gapCompleted r d a = true := fun hg => by simp [(gapCompleted_iff.1 hg).1] at hc
  rw [runLine_judged ho, judgedLine_unknown hs, if_neg hnone]
  unfold lineNoted
  rw [hc, gapAfter_image hc]

/-- An accepted gap ends UNKNOWN (R112). -/
theorem runLine_unknown_accepted (ho : d.detector.openNext = false) (hs : d.detector.gapState = .unknown) (hg : EndsGap r d a) :
    (runLine a r d).detector.gapState = .inGap ∧ (runLine a r d).detector.gapRun = none := by
  rw [runLine_judged ho, judgedLine_unknown hs, if_pos (gapCompleted_iff.2 hg), (gapAccepted_sameScan (.refl _)).detector]
  exact ⟨rfl, rfl⟩

/-- Outside a frame, a GAP_LIKE line of a gap run that is not yet accepted only lengthens it. -/
theorem runLine_gap_grows (ho : d.detector.openNext = false) (hs : d.detector.gapState ≠ .inFrame) (hc : classOf r d = .gapLike)
    (hg : ¬ GapLongEnough r d a) : runLine a r d = lineNoted r d := by
  have hnone : ¬ gapCompleted r d a = true := fun h => hg (gapCompleted_iff.1 h).2
  rw [runLine_judged ho]
  cases hst : d.detector.gapState with
  | inFrame => exact absurd hst hs
  | inGap => rw [judgedLine_inGap hst, if_neg (by simp [hc]), if_neg hnone]
  | unknown => rw [judgedLine_unknown hst, if_neg hnone]

theorem runLine_inGap_image (ho : d.detector.openNext = false) (hs : d.detector.gapState = .inGap) (hc : classOf r d = .imageLike) :
    runLine a r d = openFrame r (lineNoted r d) := by
  rw [runLine_judged ho, judgedLine_inGap hs, if_pos hc]

end

/-! ### A line taken in CONFIRM -/

section
variable {r : LineResult} {d : Dev} {a : Arm}

/-- The first opening of a confirmation is the measured start and ends it (R123). -/
theorem confirmLine_opening (hs : d.detector.gapState = .inGap) (hc : classOf r d = .imageLike) :
    confirmLine a r d
      = report (.measuredStart r.trigger.position) (detectorIdle (d.setDetector { d.detector with previous := .imageLike })) := by
  refine (if_pos ⟨hs, hc⟩).trans ?_
  rw [show classify _ d.detector.cfg d.detector.previous _ = .imageLike from hc]

theorem gapRun_after :
    (if gapCompleted r d a then none else gapAfter r d)
      = if classOf r d = .imageLike ∨ EndsGap r d a then none else some (gapFirst r d) := by
  by_cases hg : EndsGap r d a
  · rw [if_pos (gapCompleted_iff.2 hg), if_pos (.inr hg)]
  · rw [if_neg (mt gapCompleted_iff.1 hg)]
    by_cases hc : classOf r d = .imageLike
    · rw [gapAfter_image hc, if_pos (.inl hc)]
    · rw [gapAfter_gap (gapLike_of_not hc), if_neg (not_or.2 ⟨hc, hg⟩)]

/-- Every other line of a confirmation is reported, with the gap run and the gap state taken on. -/
theorem confirmLine_other (h : ¬ (d.detector.gapState = .inGap ∧ classOf r d = .imageLike)) :
    confirmLine a r d = report (.confirmLine r.trigger.position)
      (d.setDetector
        { d.detector with
          previous := classOf r d
          gapRun := if classOf r d = .imageLike ∨ EndsGap r d a then none else some (gapFirst r d)
          gapState := if EndsGap r d a then .inGap else d.detector.gapState }) := by
  rw [← gapRun_after, ← if_congr (gapCompleted_iff (r := r) (d := d) (a := a)) rfl rfl]
  exact if_neg h

end

/-! ### A disarm in RUN -/

section
variable {d : Dev}

/-- An open frame handed on as TRUNCATED at a disarm, where no correction is pending (R109, R116). -/
theorem disarm_truncates {a : Arm} {f : OpenFrame} {run : RunRecord} (why : DisarmCause) (ha : d.trigger.arm = some a)
    (hact : d.detector.activity = .run) (hf : d.detector.openFrame = some f) (hr : d.scan.run = some run)
    (hp : d.roll.pendingCorrection = none) :
    ∃ x ps, disarm why false d = report (.disarmed a.owner why) (unarmedDev a x (dropRecentMarks d).detector ps d)
      ∧ x.notices = d.scan.notices ++ [truncatedNotice run.number f d] := by
  obtain ⟨x, ps, hhand, hnotices⟩ : ∃ x ps, handOnFrame false d
      = ((d.setScan x).setDetector (dropRecentMarks d).detector).setPorts ps
        ∧ x.notices = d.scan.notices ++ [truncatedNotice run.number f d] := by
    obtain ⟨b, ps, hn⟩ := pushNotice_eq (truncatedNotice run.number f d) (setGate false d)
    unfold handOnFrame truncateOpen
    rw [if_pos ⟨hact, rfl⟩, hf, hr]
    dsimp only
    rw [hn]
    exact ⟨_, ps, rfl, rfl⟩
  have hnone : applyPending (unarmedDev a x (dropRecentMarks d).detector ps d) = unarmedDev a x (dropRecentMarks d).detector ps d :=
    applyPending_none (by rwa [unarmedDev_roll])
  refine ⟨x, ps, Eq.trans ?_ (congrArg (report (.disarmed a.owner why)) hnone), hnotices⟩
  rw [disarm_armed why false ha, disarmSteps, dropBoundary_saveLine, hhand]
  rfl

end

end Sys2Proof.Proofs

/-! The start of a confirmation, the start of a run at its base, and O38 (R123, R149). -/

namespace Sys2Proof.Proofs

open Sys2Proof Sys2Proof.Machine

/-! ### A confirmation begins -/

section
variable {d : Dev} {a : Attempt}

/-- The arm of a confirmation, after the pulse that it gives at once (R123). -/
def confirmArm (d : Dev) : Arm :=
  { owner := .retrieval, mode := .probe, base := d.metering.counter, pitch := d.retrieval.cfg.confirmPitch, stopAt := none, index := 1 }

/-- An arm whose base is the counter gives its first pulse at once. -/
theorem armTrigger_here (hg : d.transport.grant = .retrieval) (ha : d.trigger.arm = none) :
    ∃ ls ib, armTrigger .retrieval .probe d.metering.counter d.retrieval.cfg.confirmPitch none 0 d
      = ((d.setTrigger { d.trigger with pulses := d.trigger.pulses + 1, arm := some (confirmArm d) }).setLines ls).setInbox ib := by
  have hfirst : firstIndex d.metering.counter d.retrieval.cfg.confirmPitch d.metering.counter = 0 := if_pos le_rfl
  have harm : newArm .retrieval .probe d.metering.counter d.retrieval.cfg.confirmPitch d.metering.counter
      = { confirmArm d with index := 0 } := by
    unfold newArm
    rw [hfirst]
    rfl
  rw [armTrigger_made .probe _ _ 0 hg ha (by simp), harm, if_pos (by simp [confirmArm, nextPosition, armPosition])]
  exact ⟨_, _, rfl⟩

/-- The detector at the start of a confirmation (R123). -/
def confirmDetector (det : Detector) : Detector :=
  { det with activity := .confirm, gapState := .unknown, previous := .imageLike, openNext := false, gapRun := none, openFrame := none }

theorem retrievalReport_approached (begun : Bool) (ha : d.retrieval.attempt = some a) (hphase : a.phase = .approach) :
    retrievalReport .arrived begun d = beginConfirm d := by
  unfold retrievalReport
  rw [ha]
  dsimp only
  rw [hphase]

/-- The approach of a retrieval has arrived: the arm, the detector in CONFIRM, and the creep. -/
theorem beginConfirm_creeps (ha : d.retrieval.attempt = some a) (hg : d.transport.grant = .retrieval) (hm : d.transport.motion = .idle)
    (harm : d.trigger.arm = none) (hd : d.inputs.driveReady = true) (hp : d.metering.counter < upperLimit d) :
    (beginConfirm d).retrieval.attempt = some { a with phase := .confirm } ∧ (beginConfirm d).transport.motion = .creep
      ∧ (beginConfirm d).detector = confirmDetector d.detector
      ∧ (beginConfirm d).trigger = { d.trigger with pulses := d.trigger.pulses + 1, arm := some (confirmArm d) } := by
  obtain ⟨ls, ib, harmed⟩ := armTrigger_here (d := modifyAttempt (fun a => { a with phase := .confirm }) d) hg harm
  have hattempt : d.retrieval.attempt.map (fun a => { a with phase := .confirm }) = some { a with phase := .confirm } := by rw [ha]; rfl
  unfold beginConfirm
  dsimp only
  rw [show armTrigger .retrieval .probe _ _ none 0 _ = _ from harmed,
    giveOrder_starts (by exact hg) (by simp [modifyAttempt, setAttempt, hm]) (by simp),
    startOrder_creep rfl (by exact hd) (by exact not_le.2 hp)]
  exact ⟨hattempt, rfl, rfl, rfl⟩

end

/-! ### A run reaches its base -/

section
variable {d : Dev} {r : RunRecord}

theorem runReachesBase_other (hr : d.scan.run = some r) (h : r.state ≠ .preparing) : runReachesBase d = d := by
  unfold runReachesBase
  rw [hr]
  exact if_neg h

/-- The state that the detector of a run begins in (Table 6-1). -/
def startState (r : RunRecord) : ResumeState := (r.resume.map (·.state)).getD r.initialGap

theorem runReachesBase_preparing (hr : d.scan.run = some r) (h : r.state = .preparing) :
    runReachesBase d
      = modifyRun (fun r => { r with started := true, prep := .none })
          (detectorUnderArm (startDetector (startState r) r (setRunState .running d))) := by
  unfold runReachesBase
  rw [hr]
  exact if_pos h

theorem setRunState_running (hr : d.scan.run = some r) (h : r.state = .preparing) :
    setRunState .running d = raise .capture .run (d.setScan { d.scan with run := some { r with state := .running } }) := by
  unfold setRunState modifyRun
  rw [hr]
  exact if_neg (by simp [h])

/-- The run that has reached its base. -/
def runStarted (r : RunRecord) : RunRecord := { r with state := .running, started := true, prep := .none }

/-- The device at the base before the arm is looked at. -/
def detectorStarted (r : RunRecord) (d : Dev) : Dev :=
  startDetector (startState r) r (raise .capture .run (d.setScan { d.scan with run := some { r with state := .running } }))

theorem detectorStarted_noFrame (r : RunRecord) (d : Dev) : (detectorStarted r d).detector.openFrame = none := by
  unfold detectorStarted startDetector
  dsimp only
  split <;> rfl

theorem truncateOpen_noFrame (h : d.detector.openFrame = none) : truncateOpen d = dropRecentMarks d := by
  unfold truncateOpen
  rw [h]

theorem runReachesBase_withArm (hr : d.scan.run = some r) (h : r.state = .preparing) (ha : d.trigger.arm ≠ none) :
    runReachesBase d = (detectorStarted r d).setScan { d.scan with run := some (runStarted r) } := by
  have harm : detectorUnderArm (detectorStarted r d) = detectorStarted r d := if_neg fun hn => ha (Option.isNone_iff_eq_none.1 hn)
  rw [runReachesBase_preparing hr h, setRunState_running hr h]
  exact congrArg (modifyRun _) harm

/-- The arm was ended by the count that reached the base. -/
theorem runReachesBase_withoutArm (hr : d.scan.run = some r) (h : r.state = .preparing) (ha : d.trigger.arm = none) :
    runReachesBase d = (detectorIdle (dropRecentMarks (detectorStarted r d))).setScan { d.scan with run := some (runStarted r) } := by
  have harm : detectorUnderArm (detectorStarted r d) = detectorIdle (truncateOpen (detectorStarted r d)) :=
    if_pos (Option.isNone_iff_eq_none.2 ha)
  rw [truncateOpen_noFrame (detectorStarted_noFrame r d)] at harm
  rw [runReachesBase_preparing hr h, setRunState_running hr h]
  exact congrArg (modifyRun _) harm

/-- The run and its event, whether the arm is still there or not. -/
theorem runReachesBase_run (hr : d.scan.run = some r) (h : r.state = .preparing) :
    (runReachesBase d).scan.run = some (runStarted r) ∧ eventSet (runReachesBase d) .capture .run := by
  have hevent := raise_sets .capture .run (d.setScan { d.scan with run := some { r with state := .running } }) (by decide)
  by_cases ha : d.trigger.arm = none
  · rw [runReachesBase_withoutArm hr h ha]
    exact ⟨rfl, hevent⟩
  · rw [runReachesBase_withArm hr h ha]
    exact ⟨rfl, hevent⟩

/-- The detector of a run at its base, in the state of the resume point or of SCAN_START (Table 6-1). -/
def detectorBegun (st : ResumeState) (det : Detector) : Detector :=
  { det with
    activity := .run, openNext := st == ResumeState.frameStart, gapRun := none, openFrame := none
    gapState := if st = .unknown then .unknown else .inGap
    previous := if st = .unknown then .imageLike else .gapLike }

/-- A resume keeps the marks and the counters. -/
theorem detectorStarted_resume (h : r.started = true) :
    (detectorStarted r d).detector = { detectorBegun (startState r) d.detector with
      openMark := if d.inputs.blipIn = (d.detector.cfg.blipActive == BlipLevel.high) then d.detector.openMark else none } := by
  have hstarted : (detectorStarted r d).detector = { detectorBegun (startState r) d.detector with
      openMark := if (d.inputs.blipIn == (d.detector.cfg.blipActive == BlipLevel.high)) = true then d.detector.openMark else none } :=
    if_pos h
  simpa only [beq_iff_eq] using hstarted

/-- The first start empties the marks and sets the counters. -/
theorem detectorStarted_first (h : r.started = false) :
    (detectorStarted r d).detector = { detectorBegun (startState r) d.detector with
      marks := [], openMark := none, markLost := false, firstClose := false, sinceClose := 0, counters := initialCounters r d } :=
  if_neg (by simp [h])

/-! ### The counters at the first start of a run (R122) -/

/-- The last entry in roll order among those that start below a position. -/
theorem lastStartingBelow_eq {n : Nat} {e : IndexEntry} {x : Int} (he : d.index.entries[n]? = some e) (hx : e.start < x)
    (hlast : ∀ (m : Nat) (f : IndexEntry), d.index.entries[m]? = some f → f.start < x → m ≤ n) :
    lastStartingBelow d x = some e := by
  obtain ⟨hn, rfl⟩ := List.getElem?_eq_some_iff.1 he
  unfold lastStartingBelow
  refine List.find?_eq_some_iff_append.2
    ⟨decide_eq_true hx, (d.index.entries.drop (n + 1)).reverse, (d.index.entries.take n).reverse, ?_, ?_⟩
  · conv_lhs => rw [← List.take_append_drop n d.index.entries, ← List.getElem_cons_drop hn]
    simp
  · intro f hf
    obtain ⟨m, hm⟩ := List.mem_iff_getElem?.1 (List.mem_reverse.1 hf)
    rw [List.getElem?_drop] at hm
    have := mt (hlast _ f hm) (by omega)
    simpa using this

theorem lastStartingBelow_none {x : Int} (h : ∀ e : IndexEntry, e ∈ d.index.entries → x ≤ e.start) :
    lastStartingBelow d x = none := by
  unfold lastStartingBelow
  refine List.find?_eq_none.2 fun e he => ?_
  simpa using h e (List.mem_reverse.1 he)

theorem baseAddress_eq (d : Dev) : baseAddress d = (d.roll.record.map (·.base)).getD { batch := 0, doc := 0, page := 0 } := by
  unfold baseAddress
  cases d.roll.record <;> rfl

theorem initialCounters_empty (h : d.index.entries = []) : initialCounters r d = baseAddress d := by
  unfold initialCounters lastEntry
  rw [h]
  rfl

section
variable {last : IndexEntry}

theorem initialCounters_continue (hl : d.index.entries.getLast? = some last) (hm : r.startMode = .continue_) :
    initialCounters r d = last.address := by
  unfold initialCounters lastEntry
  rw [hl, hm]

theorem initialCounters_atFrame_zero (hl : d.index.entries.getLast? = some last) (hm : r.startMode = .atFrame 0) :
    initialCounters r d = baseAddress d := by
  unfold initialCounters lastEntry
  rw [hl, hm]

theorem initialCounters_atFrame {n : Nat} {e : IndexEntry} (hl : d.index.entries.getLast? = some last)
    (hm : r.startMode = .atFrame (n + 1)) (he : d.index.entries[n]? = some e) : initialCounters r d = e.address := by
  unfold initialCounters lastEntry
  rw [hl, hm]
  dsimp only
  rw [show entryAt d n = some e from he]
  rfl

theorem initialCounters_atPosition (hl : d.index.entries.getLast? = some last) (hm : r.startMode = .atPosition) :
    initialCounters r d = ((lastStartingBelow d r.base).map (·.address)).getD (baseAddress d) := by
  unfold initialCounters lastEntry
  rw [hl, hm]

end

end


/-! ### O38 -/

/-- Settles O38: each clause by the equation of its operation, and the closes by the lemma over every frame close. -/
theorem linesAndTheirStatistics : Obligations.LinesAndTheirStatistics := by
  refine ⟨?bytes, ?stats, ?run, ?truncated, ?segment, ?handed, ?count, ?order, ?confirm, ?begins, ?base⟩
  case bytes =>
    intro s b
    refine ⟨fun h hset => ?_, fun seg h hl hset => ?_, fun seg h hl hidle hsearch hframe hset => ?_⟩
    · rw [exec_monitorByteReceived, exec_segmentComplete, receiveByte_discarded h, settle_of_settled _ hset]
      exact ⟨rfl, rfl⟩
    · rw [exec_monitorByteReceived, receiveByte_kept h hl, settle_of_settled _ (by simpa using hset)]
    · rw [exec_segmentComplete, receiveByte_completes h hl.ge, handResult_recorded (by exact hidle) (by exact hsearch) (by exact hframe),
        settle_of_settled _ (by simpa [recorded] using hset)]
      rfl
  case stats =>
    intro raw m stride h _ _
    obtain ⟨hlevel, hlow, hhigh⟩ := lineStats_bounds (m := m) h stride
    exact ⟨hlevel, hlow, hhigh, rfl, lineStats_saturated raw m stride⟩
  case run =>
    intro d a r n hline ho
    obtain rfl : resultLine r = n := by simp [resultLine, hline]
    refine ⟨runLine_unknown_image ho, fun hs hc hg => runLine_unknown_accepted ho hs ⟨hc, hg⟩, fun hs hc hg => ?_,
      fun hs hc => ?_, ?_,
      fun f run hs hf hr => ⟨fun hc hg => runLine_closes ho hs hf hr ⟨hc, hg⟩, runLine_forces ho hs hf hr, fun hg hshort => ?_⟩⟩
    · have hnoted := runLine_gap_grows ho hs hc hg
      exact ⟨congrArg (·.detector.gapState) hnoted, (congrArg (·.detector.gapRun) hnoted).trans (gapAfter_gap hc),
        congrArg (·.scan) hnoted⟩
    · have hopened := runLine_inGap_image (a := a) ho hs hc
      rw [hopened]
      exact openFrame_opens r (lineNoted r d)
    · rw [runLine_opens rfl]
      rfl
    · have hnoted := runLine_stays ho hs hf hg hshort
      exact ⟨(congrArg (·.detector.gapState) hnoted).trans hs, congrArg (·.scan) hnoted,
        (congrArg (·.detector.openFrame) hnoted).trans (congrArg (Option.map fun f => f.take r) hf)⟩
  case truncated =>
    intro d a f run why ha hact hf hr hp
    obtain ⟨x, ps, hdisarm, hnotices⟩ := disarm_truncates why ha hact hf hr hp
    dsimp only
    rw [hdisarm]
    simp [report, hnotices, dropRecentMarks, truncatedNotice]
  case segment =>
    intro s b seg h hl
    rw [exec_segmentComplete, receiveByte_completes h hl]
  case handed =>
    intro d r
    refine ⟨fun _ ha h => handResult_run ha h, fun _ ha h => handResult_confirm ha h, handResult_untaken, searchLine_of_noSearch,
      fun f w hf hw => ⟨fun st hs hr hc hl => ?_, fun h => frameLine_scored hw (h.imp_right lineCounts_none)⟩, frameLine_of_noWindow⟩
    rw [frameLine_gathers hf hw hs (lineCounts_some hr hc hl)]
    simp only [Window.full, decide_eq_true_eq]
    rfl
  case count =>
    intro s la lb h
    rw [exec_encoderPhaseChange, phaseChange_forward_turn h]
    rfl
  case order =>
    intro d
    refine ⟨fun c start v pitch line stop hc hk => checkBase_scan hc hk, generatorCount_of_noArm, fun a ha =>
      ⟨generatorCount_stops ha, generatorCount_waits ha, generatorCount_limit ha, fun hstop hp hmode => ?_⟩,
      searchTravelCheck_of_noSearch, fun k hk => ?_⟩
    · rw [generatorCount_emits ha hstop hp fun hm => hmode.resolve_left (by simp [hm])]
      unfold emitAtCount
      cases d.lines.expected <;> rfl
    · unfold searchTravelCheck
      rw [hk]
  case confirm =>
    intro d a r
    exact ⟨fun hs hc => (confirmLine_opening hs hc).trans rfl, fun h => (confirmLine_other h).trans rfl⟩
  case begins =>
    intro d a begun ha hphase hg hm harm hd hp
    have hbegun : takeReport (.orderEnded .retrieval .arrived begun) d = beginConfirm d := retrievalReport_approached begun ha hphase
    dsimp only
    rw [hbegun]
    exact beginConfirm_creeps ha hg hm harm hd hp
  case base =>
    intro d r hr
    refine ⟨runReachesBase_other hr, fun h => ?_⟩
    obtain ⟨hrun, hevent⟩ := runReachesBase_run hr h
    refine ⟨hrun, hevent, fun ha => congrArg (·.detector.activity) (runReachesBase_withoutArm hr h ha),
      fun ha hs => (congrArg (·.detector) (runReachesBase_withArm hr h ha)).trans (detectorStarted_resume hs), fun ha hs => ?_⟩
    have hfirst : (takeReport .baseReached d).detector = _ :=
      (congrArg (·.detector) (runReachesBase_withArm hr h ha)).trans (detectorStarted_first hs)
    have hcounters : (takeReport .baseReached d).detector.counters = initialCounters r d := congrArg (·.counters) hfirst
    refine ⟨?_, ?_, fun last hl => ⟨?_, ?_, ?_, ?_, ?_⟩⟩
    · rw [hcounters]
      exact hfirst
    · exact fun hempty => hcounters.trans ((initialCounters_empty hempty).trans (baseAddress_eq d))
    · exact fun hm => hcounters.trans (initialCounters_continue hl hm)
    · exact fun hm => hcounters.trans ((initialCounters_atFrame_zero hl hm).trans (baseAddress_eq d))
    · exact fun n e hm he => hcounters.trans (initialCounters_atFrame hl hm he)
    · intro hm hnone
      rw [hcounters, initialCounters_atPosition hl hm, lastStartingBelow_none hnone]
      exact baseAddress_eq d
    · intro n e hm he hx hlast
      rw [hcounters, initialCounters_atPosition hl hm, lastStartingBelow_eq he hx hlast]
      rfl

end Sys2Proof.Proofs

/-! The lens: steps, the ends of a move and of a homing, LENS_HOME and LENS_MOVE: O39, O40 and O41. -/

namespace Sys2Proof.Proofs

open Sys2Proof Sys2Proof.Machine

/-! ### Changes of the lens and of the grant that give no reaction its turn -/

/-- An attempt of the scheduler waits for the lens to come to rest (R170). -/
def WaitsForLens (d : Dev) : Prop := ∃ a, d.retrieval.attempt = some a ∧ a.phase = .lensWait

section
variable {d : Dev}

theorem lensArrived_iff (d : Dev) : lensArrived d = true ↔ WaitsForLens d ∧ d.focus.lens.state ≠ .moving := by
  unfold lensArrived WaitsForLens
  cases d.retrieval.attempt <;> simp

/-- Nothing is left to do, so no attempt waits for a lens that is at rest. -/
theorem not_waitsForLens (h : Settled d) (hl : d.focus.lens.state ≠ .moving) : ¬ WaitsForLens d := by
  obtain ⟨-, -, -, hretrieval, -⟩ := (reaction_none_iff d).1 h.1
  obtain ⟨-, hlens, -, -⟩ := (retrievalReaction_none_iff d).1 hretrieval
  exact fun hw => absurd ((lensArrived_iff d).2 ⟨hw, hl⟩) (by simp [hlens])

/-- A change of the focus controller that brings no awaited lens to rest gives no reaction its turn. -/
theorem settled_setFocus {f : Focus} (h : Settled d) (hl : f.lens.state = .moving ∨ ¬ WaitsForLens d) : Settled (d.setFocus f) := by
  obtain ⟨hinbox, hrelease, hrun, hretrieval, hgrant⟩ := (reaction_none_iff d).1 h.1
  obtain ⟨hhold, -, hhint, hdrop⟩ := (retrievalReaction_none_iff d).1 hretrieval
  have hlens : lensArrived (d.setFocus f) = false :=
    Bool.eq_false_iff.2 fun ha => by
      obtain ⟨hw, hm⟩ := (lensArrived_iff _).1 ha
      exact hl.elim hm fun hn => hn hw
  refine ⟨(reaction_none_iff _).2 ⟨hinbox, hrelease, ?_, (retrievalReaction_none_iff _).2 ⟨hhold, hlens, hhint, hdrop⟩, ?_⟩, ?_⟩
  · exact (runReaction_none_iff _).2 ((runReaction_none_iff d).1 hrun)
  · exact (grantReaction_none_iff _).2 ((grantReaction_none_iff d).1 hgrant)
  · exact (stopParkTimer_eq_iff _).2 ((stopParkTimer_eq_iff d).1 h.2)

/-- An owner at rest as the transport was before gives no reaction its turn that had none. -/
theorem settled_owned {t : Transport} (h : Settled d) (hrest : atRest (d.setTransport t) = atRest d) (hg : t.grant ≠ .nobody)
    (hr : t.releasePending = false) (hp : t.parkTimer = 0) : Settled (d.setTransport t) := by
  obtain ⟨hinbox, -, hrun, hretrieval, -⟩ := (reaction_none_iff d).1 h.1
  obtain ⟨hhold, hlens, hhint, -⟩ := (retrievalReaction_none_iff d).1 hretrieval
  have hfree : grantFree (d.setTransport t) = false := by simp [grantFree, hg]
  have hconditions : hintConditions (d.setTransport t) = false := by simp [hintConditions, hg]
  refine ⟨(reaction_none_iff _).2 ⟨hinbox, by simp [hr], ?_, ?_, ?_⟩, (stopParkTimer_eq_iff _).2 fun _ => hp⟩
  · refine (runReaction_none_iff _).2 fun r hr => ?_
    rw [hrest]
    exact (runReaction_none_iff d).1 hrun r hr
  · exact (retrievalReaction_none_iff _).2 ⟨hhold, hlens, hhint, by rw [hconditions, Bool.false_and]⟩
  · exact (grantReaction_none_iff _).2 fun hf => absurd hf (by simp [hfree])

theorem settle_setFocus {f : Focus} (h : Settled d) (hl : f.lens.state = .moving ∨ ¬ WaitsForLens d) :
    settle (d.setFocus f) = d.setFocus f :=
  settle_of_settled _ (settled_setFocus h hl)

theorem settle_raise_setFocus {f : Focus} (port : PortId) (k : EventKind) (h : Settled d)
    (hl : f.lens.state = .moving ∨ ¬ WaitsForLens d) : settle (raise port k (d.setFocus f)) = raise port k (d.setFocus f) :=
  settle_of_settled _ ((settled_raise _ _ _).2 (settled_setFocus h hl))

end

/-! ### Steps of the lens -/

theorem ceilDiv_le_iff (n k : Nat) {b : Nat} (hb : 0 < b) : ceilDiv n b ≤ k ↔ n ≤ k * b := by
  refine ⟨fun h => ?_, fun h => ?_⟩
  · calc n ≤ ceilDiv n b * b := le_ceilDiv_mul n hb
      _ ≤ k * b := Nat.mul_le_mul_right b h
  · by_contra hlt
    exact absurd (mul_lt_of_lt_ceilDiv hb (not_le.1 hlt)) (not_lt.2 h)

/-- Step number k falls due ceil(k × 1000 / rate) milliseconds after stepping began (R86). -/
theorem stepDue_iff (issued elapsed : Nat) {rate : Nat} (hr : 1 ≤ rate) :
    stepDue issued elapsed rate = true ↔ (issued + 1) * 1000 ≤ elapsed * rate :=
  decide_eq_true_iff.trans (ceilDiv_le_iff _ _ hr)

/-- The lens after one step of a move (R85, R86). -/
def stepped (m : MoveRecord) (l : Lens) : Lens :=
  { l with
    step := if l.step < m.target then l.step + 1 else l.step - 1
    move := some { m with issued := m.issued + 1 }, dirHigh := decide (l.step < m.target), pulses := l.pulses + 1 }

section
variable {d : Dev} {m : MoveRecord}

theorem beginSettle_waits (h : d.focus.cfg.lensSettle ≠ 0) :
    beginSettle m d = setLens { d.focus.lens with move := some { m with settledAt := some (d.time + d.focus.cfg.lensSettle) } } d :=
  if_neg h

theorem issueStep_eq (m : MoveRecord) (d : Dev) :
    issueStep m d = if (stepped m d.focus.lens).step = m.target
      then beginSettle { m with issued := m.issued + 1 } (setLens (stepped m d.focus.lens) d)
      else setLens (stepped m d.focus.lens) d := by
  by_cases hup : d.focus.lens.step < m.target <;> simp [issueStep, stepped, hup]

theorem searchLensIdle_of_moving (h : d.focus.lens.state = .moving) : searchLensIdle d = d := by
  unfold searchLensIdle
  split
  · exact if_neg (by simp [h])
  · rfl

theorem searchLensIdle_of_noSearch (h : d.focus.search = none) : searchLensIdle d = d := by
  unfold searchLensIdle
  rw [h]

theorem lensStep_moving (hs : d.focus.lens.state = .moving) (hm : d.focus.lens.move = some m) :
    lensStep d = if d.scan.gate = false ∧ m.settledAt = none ∧ stepDue m.issued m.elapsed m.rate = true
      then settle (searchLensIdle (issueStep m d)) else d := by
  unfold lensStep
  rw [hs, hm]

/-- A step that is due before the last one (R86). -/
theorem issueStep_goes (h : (stepped m d.focus.lens).step ≠ m.target) :
    issueStep m d = d.setFocus { d.focus with lens := stepped m d.focus.lens } := by
  rw [issueStep_eq, if_neg h]
  rfl

/-- The last step of a move, with which the settle time begins (R86). -/
theorem issueStep_last (h : (stepped m d.focus.lens).step = m.target) (hs : d.focus.cfg.lensSettle ≠ 0) :
    issueStep m d = d.setFocus { d.focus with lens :=
      { stepped m d.focus.lens with
        move := some { m with issued := m.issued + 1, settledAt := some (d.time + d.focus.cfg.lensSettle) } } } := by
  rw [issueStep_eq, if_pos h, beginSettle_waits (by exact hs)]
  rfl

/-- A step that leaves the lens MOVING gives no reaction its turn. -/
theorem lensStep_takes {f : Focus} (hs : d.focus.lens.state = .moving) (hm : d.focus.lens.move = some m) (hset : m.settledAt = none)
    (hg : d.scan.gate = false) (hdue : stepDue m.issued m.elapsed m.rate = true) (hstep : issueStep m d = d.setFocus f)
    (hf : f.lens.state = .moving) (h : Settled d) : lensStep d = d.setFocus f := by
  rw [lensStep_moving hs hm, if_pos ⟨hg, hset, hdue⟩, hstep, searchLensIdle_of_moving (by exact hf), settle_setFocus h (.inl hf)]

/-! ### The ends of a move and of a homing -/

theorem lensSettled_move {t : Nat} (hs : d.focus.lens.state = .moving) (hm : d.focus.lens.move = some m) (ht : m.settledAt = some t) :
    lensSettled d = if t ≤ d.time then settle (searchLensIdle (lensRest d)) else d := by
  unfold lensSettled
  rw [hs, hm]
  simp only [Option.bind_some, ht]

theorem lensSettled_homing {h : Homing} {t : Nat} (hs : d.focus.lens.state = .homing) (hh : d.focus.lens.homing = some h)
    (ht : h.settledAt = some t) : lensSettled d = if t ≤ d.time then settle (homingEnds .idle d) else d := by
  unfold lensSettled
  rw [hs, hh]
  simp only [Option.bind_some, ht]

/-- A homing over: the lens in its state, and FOCUS at the Service port (R87). -/
def homingOver (st : LensState) (d : Dev) : Dev :=
  raise .service .focus (d.setFocus { d.focus with lens := { d.focus.lens with state := st, homing := none } })

theorem homingEnds_eq {h : Homing} (st : LensState) (hh : d.focus.lens.homing = some h) :
    homingEnds st d = if h.holdsGrant = true then releaseGrant .service (homingOver st d) else homingOver st d := by
  unfold homingEnds
  rw [hh]
  rfl

theorem settle_homingOver (st : LensState) (h : Settled d) (hw : ¬ WaitsForLens d) : settle (homingOver st d) = homingOver st d :=
  settle_raise_setFocus _ _ h (.inr hw)

/-- A move over: the lens IDLE (R86). -/
def moveOver (d : Dev) : Dev :=
  d.setFocus { d.focus with lens := { d.focus.lens with state := .idle, move := none, serviceWatch := false } }

theorem lensRest_eq (d : Dev) :
    lensRest d = if d.focus.lens.serviceWatch = true then raise .service .focus (moveOver d) else moveOver d := rfl

/-- A lens that comes to rest outside a search gives no reaction its turn while no attempt waits for it. -/
theorem settle_lensRest (hsearch : d.focus.search = none) (h : Settled d) (hw : ¬ WaitsForLens d) :
    settle (searchLensIdle (lensRest d)) = lensRest d := by
  rw [lensRest_eq]
  split
  · rw [searchLensIdle_of_noSearch (by exact hsearch)]
    exact settle_raise_setFocus _ _ h (.inr hw)
  · rw [searchLensIdle_of_noSearch (by exact hsearch)]
    exact settle_setFocus h (.inr hw)

end

theorem exec_lensStepDue (s : State) : exec .lensStepDue s = .next (s.setDev (lensStep s.dev)) := rfl

theorem exec_lensSettleEnd (s : State) : exec .lensSettleEnd s = .next (s.setDev (lensSettled s.dev)) := rfl

/-- Settles O39, by the step that is due and by the settle time that has passed. -/
theorem lensMovesAndRests : Obligations.LensMovesAndRests := by
  refine ⟨fun s m hs hm hset hrate => ⟨fun h => ?_, fun hg hdue hstep h => ?_, fun hg hdue hstep hwait h => ?_⟩,
    fun s hsearch h hphase => ?_⟩
  · have hwithheld : ¬ (s.dev.scan.gate = false ∧ m.settledAt = none ∧ stepDue m.issued m.elapsed m.rate = true) :=
      fun ⟨hg, _, hdue⟩ => h.elim (by simp [hg]) fun hn => hn ((stepDue_iff _ _ hrate).1 hdue)
    rw [exec_lensStepDue, lensStep_moving hs hm, if_neg hwithheld]
    rfl
  · rw [exec_lensStepDue, lensStep_takes hs hm hset hg ((stepDue_iff _ _ hrate).2 hdue) (issueStep_goes hstep) hs h]
    rfl
  · rw [exec_lensStepDue, lensStep_takes hs hm hset hg ((stepDue_iff _ _ hrate).2 hdue) (issueStep_last hstep hwait) hs h]
    rfl
  · have hw : ¬ WaitsForLens s.dev := fun ⟨a, ha, hwait⟩ => hphase a ha hwait
    refine ⟨fun m t hs hm ht => ⟨fun hlt => ?_, fun hle => ?_⟩,
      fun hom t hs hh ht => ⟨fun hlt => ?_, fun hle hgrant => ?_, fun hle hgrant => ?_⟩⟩
    · rw [exec_lensSettleEnd, lensSettled_move hs hm ht, if_neg (not_le.2 hlt)]
      rfl
    · rw [exec_lensSettleEnd, lensSettled_move hs hm ht, if_pos hle, settle_lensRest hsearch h hw]
      rfl
    · rw [exec_lensSettleEnd, lensSettled_homing hs hh ht, if_neg (not_le.2 hlt)]
      rfl
    · rw [exec_lensSettleEnd, lensSettled_homing hs hh ht, if_pos hle, homingEnds_eq .idle hh, if_neg (by simp [hgrant]),
        settle_homingOver .idle h hw]
      rfl
    · rw [exec_lensSettleEnd, lensSettled_homing hs hh ht, if_pos hle, homingEnds_eq .idle hh, if_pos hgrant]
      rfl

/-! ### LENS_HOME -/

section
variable {d : Dev} {p : List Byte}

/-- No frame is open, so none notes that the lens moves (R99). -/
theorem noteLensMoved_noFrame (h : d.focus.frameLens = none) : noteLensMoved d = d := by
  have hnone : d.focus.frameLens.map (fun f => { f with moved := true }) = d.focus.frameLens := by rw [h]; rfl
  unfold noteLensMoved
  rw [hnone]
  rfl

/-- The lens at the start of a homing (R87). -/
def homingBegun (rate : Nat) (l : Lens) : Lens :=
  { l with
    state := .homing
    homing := some { issued := 0, elapsed := 0, rate := rate, settledAt := none, holdsGrant := true } }

theorem startHoming_eq (hf : d.focus.frameLens = none) (hl : d.inputs.lensHome = false) :
    startHoming d = d.setFocus { d.focus with lens := homingBegun d.focus.cfg.stepRate d.focus.lens } := by
  unfold startHoming
  dsimp only
  rw [noteLensMoved_noFrame (by exact hf), if_neg (by simp [setLens, hl])]
  rfl

theorem answerLensHome_busy (hg : d.transport.grant = .nobody) (hm : d.transport.motion = .idle ∨ d.transport.motion = .parked)
    (hs : d.focus.lens.state = .homing ∨ d.focus.lens.state = .moving) : answerLensHome p d = refuse .state d := by
  unfold answerLensHome
  rw [serviceRefusal_none hg hm]
  exact if_pos hs

theorem answerLensHome_taken (hg : d.transport.grant = .nobody) (hm : d.transport.motion = .idle ∨ d.transport.motion = .parked)
    (hs : ¬ (d.focus.lens.state = .homing ∨ d.focus.lens.state = .moving)) :
    answerLensHome p d = taken .accepted [] (startHoming (giveGrant .service d)) := by
  unfold answerLensHome
  rw [serviceRefusal_none hg hm]
  exact if_neg hs

/-- The transport under tension HOLD given to SERVICE (R27). -/
def heldForService (t : Transport) : Transport := { t with grant := .service, releasePending := false, parkTimer := 0 }

/-- The transport with tension RELEASE given to SERVICE, which re-tensions it (R27, R39). -/
def retensionedForService (due : Nat) (t : Transport) : Transport :=
  { t with
    motion := .retensioning, grant := .service, releasePending := false, parkTimer := 0, tension := .hold
    driveEnable := true, demand := 0, tensionedAt := some due }

theorem giveGrant_service_hold (ht : d.transport.tension = .hold) :
    giveGrant .service d = d.setTransport (heldForService d.transport) := giveGrant_hold ht

theorem giveGrant_service_release (ht : d.transport.tension = .release) :
    giveGrant .service d = d.setTransport (retensionedForService (d.time + d.transport.cfg.tensionSettle) d.transport) :=
  giveGrant_release ht

theorem settled_heldForService (h : Settled d) : Settled (d.setTransport (heldForService d.transport)) :=
  settled_owned h rfl (by simp [heldForService]) rfl rfl

theorem settled_retensionedForService (due : Nat) (h : Settled d) (hm : d.transport.motion = .idle ∨ d.transport.motion = .parked) :
    Settled (d.setTransport (retensionedForService due d.transport)) := by
  refine settled_owned h ?_ (by simp [retensionedForService]) rfl rfl
  rcases hm with hm | hm <;> simp only [atRest, Dev.setTransport_transport, retensionedForService, hm] <;> rfl

/-- A homing that begins under a transport given to SERVICE gives no reaction its turn. -/
theorem taken_startHoming {t : Transport} (h : Settled (d.setTransport t)) (hf : d.focus.frameLens = none)
    (hl : d.inputs.lensHome = false) (hs : d.focus.lens.state ≠ .moving) :
    taken .accepted [] (startHoming (d.setTransport t))
      = { dev := (d.setTransport t).setFocus { d.focus with lens := homingBegun d.focus.cfg.stepRate d.focus.lens }
          result := .accepted, payload := [] } := by
  unfold taken
  rw [startHoming_eq (by exact hf) (by exact hl), settle_setFocus h (.inr (not_waitsForLens h (by exact hs)))]
  rfl

/-! ### Homing steps -/

variable {h : Homing}

theorem homingStepDue_eq (b : Bool) (hs : d.focus.lens.state = .homing) (hh : d.focus.lens.homing = some h) :
    homingStepDue b d =
      if d.scan.gate = false ∧ h.settledAt = none ∧ h.issued < 4400 ∧ stepDue h.issued h.elapsed h.rate = true then
        if b then settle (homeSwitchSeen h (d.setInputs { d.inputs with lensHome := b }))
        else issueHomingStep h (d.setInputs { d.inputs with lensHome := b })
      else d.setInputs { d.inputs with lensHome := b } := by
  unfold homingStepDue
  dsimp only
  rw [Dev.setInputs_focus, hs, hh]
  rfl

theorem homeSwitchSeen_waits (hw : d.focus.cfg.lensSettle ≠ 0) :
    homeSwitchSeen h d = d.setFocus { d.focus with lens :=
      { d.focus.lens with step := 0, homing := some { h with settledAt := some (d.time + d.focus.cfg.lensSettle) } } } :=
  if_neg hw

theorem homingGivesUp_eq (hs : d.focus.lens.state = .homing) (hh : d.focus.lens.homing = some h) :
    homingGivesUp d = if h.settledAt = none ∧ 4400 ≤ h.issued then
      settle (homingEnds .fault (setLens { d.focus.lens with step := 0 } d)) else d := by
  unfold homingGivesUp
  rw [hs, hh]
  rfl

/-- The end of a homing that has not found its switch: FAULT with step 0 and the FOCUS event (R87). -/
def homingFailed (d : Dev) : Dev :=
  raise .service .focus (d.setFocus { d.focus with lens := { d.focus.lens with state := .fault, step := 0, homing := none } })

theorem homingEnds_fault (hh : d.focus.lens.homing = some h) :
    homingEnds .fault (setLens { d.focus.lens with step := 0 } d)
      = if h.holdsGrant = true then releaseGrant .service (homingFailed d) else homingFailed d :=
  homingEnds_eq (d := setLens { d.focus.lens with step := 0 } d) .fault hh

end

theorem exec_homingStep (b : Bool) (s : State) : exec (.homingStep b) s = .next (s.setDev (homingStepDue b s.dev)) := rfl

theorem exec_homingStepLimit (s : State) : exec .homingStepLimit s = .next (s.setDev (homingGivesUp s.dev)) := rfl

/-- A lens that may take LENS_HOME is neither HOMING nor MOVING. -/
theorem lensHome_allowed {st : LensState} (h : st = .unhomed ∨ st = .idle ∨ st = .fault) :
    ¬ (st = .homing ∨ st = .moving) ∧ st ≠ .moving := by
  rcases h with rfl | rfl | rfl <;> simp

/-- Settles O40, by the answer of LENS_HOME and by the cases of a homing step. -/
theorem homingFindsTheSwitch : Obligations.HomingFindsTheSwitch := by
  refine ⟨fun s tag p x ht hg hm hten hset hframe => ⟨fun hs => ?busy, fun hs hl => ?hold⟩,
    fun s tag p x ht hg hm hten hset hframe hl hs => ?release, fun s h hs hh hnone hrate hgate hset => ?steps⟩
  case busy =>
    refine (takeFrame_takes .lensHome .service tag p x answerLensHome s ht rfl).trans ?_
    rw [answerLensHome_busy (d := heard .service (requestFrame tag p x) s) hg (.inl hm) hs]
    rfl
  case hold =>
    obtain ⟨hallowed, hrest⟩ := lensHome_allowed hs
    refine (takeFrame_takes .lensHome .service tag p x answerLensHome s ht rfl).trans ?_
    rw [answerLensHome_taken (d := heard .service (requestFrame tag p x) s) hg (.inl hm) hallowed, giveGrant_service_hold (by exact hten),
      taken_startHoming (settled_heldForService ((settled_heard _ _ _).2 hset)) (by exact hframe) (by exact hl) (by exact hrest)]
    rfl
  case release =>
    obtain ⟨hallowed, hrest⟩ := lensHome_allowed hs
    refine (takeFrame_takes .lensHome .service tag p x answerLensHome s ht rfl).trans ?_
    rw [answerLensHome_taken (d := heard .service (requestFrame tag p x) s) hg hm hallowed, giveGrant_service_release (by exact hten),
      taken_startHoming (settled_retensionedForService _ ((settled_heard _ _ _).2 hset) (by exact hm)) (by exact hframe) (by exact hl)
        (by exact hrest)]
    rfl
  case steps =>
    have hw : ¬ WaitsForLens s.dev := not_waitsForLens hset (by simp [hs])
    refine ⟨fun hdue hlt => ⟨?_, fun hwait => ?_⟩, fun hlim hgrant hattempt => ?_, fun hlim hgrant => ?_, fun hlt => ?_⟩
    · rw [exec_homingStep, homingStepDue_eq false hs hh, if_pos ⟨hgate, hnone, hlt, (stepDue_iff _ _ hrate).2 hdue⟩]
      rfl
    · rw [exec_homingStep, homingStepDue_eq true hs hh, if_pos ⟨hgate, hnone, hlt, (stepDue_iff _ _ hrate).2 hdue⟩, if_pos rfl,
        homeSwitchSeen_waits (by exact hwait), settle_setFocus ((settled_setInputs _ _).2 hset) (.inr (by exact hw))]
      rfl
    · rw [exec_homingStepLimit, homingGivesUp_eq hs hh, if_pos ⟨hnone, hlim⟩, homingEnds_fault hh, if_neg (by simp [hgrant])]
      exact congrArg (fun e => Host.Outcome.next (s.setDev e)) (settle_raise_setFocus _ _ hset (.inr hw))
    · rw [exec_homingStepLimit, homingGivesUp_eq hs hh, if_pos ⟨hnone, hlim⟩, homingEnds_fault hh, if_pos hgrant]
      rfl
    · rw [exec_homingStepLimit, homingGivesUp_eq hs hh, if_neg fun hn => absurd hn.2 (not_le.2 hlt)]
      rfl

/-! ### LENS_MOVE -/

section
variable {d : Dev} {p : List Byte}

/-- The lens takes no LENS_MOVE: it is not IDLE, a search or a scan is under way, or the scheduler holds it (R88). -/
def LensBlocked (d : Dev) : Prop :=
  d.focus.lens.state ≠ .idle ∨ d.focus.search.isSome = true ∨ runIn d [.preparing, .running, .suspending] = true ∨ lensHeld d = true

theorem focusActivity_search_iff (d : Dev) : focusActivity d = .search ↔ d.focus.search.isSome = true := by
  unfold focusActivity
  cases d.focus.search with
  | some k => simp
  | none =>
    simp only [Option.isSome_none, Bool.false_eq_true, if_false, iff_false]
    split
    · simp
    · split
      · split_ifs <;> simp
      · split_ifs <;> simp
      · simp

/-- Tracking is an activity of a run under way. -/
theorem runIn_of_tracking (h : focusActivity d = .track) : runIn d [.preparing, .running, .suspending] = true := by
  unfold focusActivity at h
  unfold runIn
  split at h
  · simp at h
  · split at h
    · simp at h
    next r hr =>
      split at h
      next =>
        split_ifs at h with _ hs
        rcases hs with hs | hs <;> simp [hr, hs]
      next => split_ifs at h
      next => simp at h

theorem lensMoveBlocked_iff (d : Dev) : lensMoveBlocked d = true ↔ LensBlocked d := by
  have htrack := runIn_of_tracking (d := d)
  simp only [lensMoveBlocked, LensBlocked, Bool.or_eq_true, bne_iff_ne, beq_iff_eq, focusActivity_search_iff]
  tauto

theorem answerLensMove_blocked (hp : 2 ≤ p.length) (h : LensBlocked d) : answerLensMove p d = refuse .state d := by
  unfold answerLensMove needBytes
  dsimp only
  rw [if_neg (by omega), if_pos ((lensMoveBlocked_iff d).2 h)]

theorem answerLensMove_beyond (hp : 2 ≤ p.length) (h : ¬ LensBlocked d) (ht : 4095 < natAt p 0 2) :
    answerLensMove p d = refuse .badValue d := by
  unfold answerLensMove needBytes
  dsimp only
  rw [if_neg (by omega), if_neg (mt (lensMoveBlocked_iff d).1 h)]
  exact if_pos ht

theorem answerLensMove_taken (hp : 2 ≤ p.length) (h : ¬ LensBlocked d) (ht : natAt p 0 2 ≤ 4095) :
    answerLensMove p d = taken .accepted [] (serviceMove (natAt p 0 2) d) := by
  unfold answerLensMove needBytes
  dsimp only
  rw [if_neg (by omega), if_neg (mt (lensMoveBlocked_iff d).1 h)]
  exact if_neg (not_lt.2 ht)

/-- The record of a move that begins (R86). -/
def freshMove (target : Nat) (req : Requester) (d : Dev) : MoveRecord :=
  { target := target, requester := req, issued := 0, elapsed := 0, rate := d.focus.cfg.stepRate, settledAt := none }

/-- A lens at rest away from the target starts its move (R86). -/
theorem moveRequest_starts {target : Nat} (req : Requester) (hs : d.focus.lens.state = .idle) (ht : target ≠ d.focus.lens.step) :
    moveRequest target req d = (.moving, noteLensMoved (setLens
      { d.focus.lens with state := .moving, move := some (freshMove target req d) } d)) := by
  unfold moveRequest
  dsimp only
  rw [hs]
  exact if_neg ht

/-- A lens at rest at its target moves no more (R86). -/
theorem moveRequest_atTarget {target : Nat} (req : Requester) (hs : d.focus.lens.state = .idle) (ht : target = d.focus.lens.step) :
    moveRequest target req d = (.atTarget, d) := by
  unfold moveRequest
  dsimp only
  rw [hs]
  exact if_pos ht

/-- A lens that is UNHOMED, FAULT or HOMING takes no move (R86). -/
theorem moveRequest_refused (target : Nat) (req : Requester)
    (hs : d.focus.lens.state = .unhomed ∨ d.focus.lens.state = .fault ∨ d.focus.lens.state = .homing) :
    moveRequest target req d = (.refused, d) := by
  unfold moveRequest
  dsimp only
  rcases hs with hs | hs | hs <;> rw [hs]

theorem serviceMove_starts {target : Nat} (hs : d.focus.lens.state = .idle) (ht : target ≠ d.focus.lens.step)
    (hf : d.focus.frameLens = none) :
    serviceMove target d = d.setFocus { d.focus with lens :=
      { d.focus.lens with state := .moving, serviceWatch := true, move := some (freshMove target .service d) } } := by
  unfold serviceMove
  rw [moveRequest_starts .service hs ht, noteLensMoved_noFrame (by exact hf)]
  rfl

end

/-- Settles O41, by the order of the checks in the answer. -/
theorem lensMoveStartsTheMove : Obligations.LensMoveStartsTheMove := by
  intro s tag p x ht hp
  refine ⟨fun hb => ?_, fun hb htarget => ?_, fun hb htarget hne hframe hset => ?_⟩
  all_goals refine (takeFrame_takes .lensMove .service tag p x answerLensMove s ht rfl).trans ?_
  · rw [answerLensMove_blocked (d := heard .service (requestFrame tag p x) s) hp hb]
    rfl
  · rw [answerLensMove_beyond (d := heard .service (requestFrame tag p x) s) hp hb htarget]
    rfl
  · have hidle : s.dev.focus.lens.state = .idle := not_not.1 fun hn => hb (.inl hn)
    rw [answerLensMove_taken (d := heard .service (requestFrame tag p x) s) hp hb htarget,
      serviceMove_starts (by exact hidle) (by exact hne) (by exact hframe)]
    unfold taken
    rw [settle_setFocus ((settled_heard _ _ _).2 hset) (.inl rfl)]
    rfl

end Sys2Proof.Proofs

/-! The phases of a search and the track cycle: candidates, rounds and scores (R93 to R95, R101). -/

namespace Sys2Proof.Proofs

open Sys2Proof Sys2Proof.Machine

/-! ### What every phase keeps and bounds -/

/-- The steps that a search works from lie on the lens (R85). -/
def OnLens (s : SearchRecord) : Prop := s.startStep ≤ 4095 ∧ s.candidate ≤ 4095 ∧ ∀ b, s.best = some b → b.1 ≤ 4095

/-- A phase goes on from a scored probe: the count, the score and the best step stay, and the next candidate lies on the lens. -/
structure GoesOn (s : SearchRecord) (t : SearchRecord × Option Nat) : Prop where
  probes : t.1.probes = s.probes
  lastScore : t.1.lastScore = s.lastScore
  best : t.1.best = s.best
  onLens : OnLens s → ∀ c, t.2 = some c → c ≤ 4095

section
variable {s : SearchRecord}

theorem GoesOn.without (s : SearchRecord) : GoesOn s (s, none) := ⟨rfl, rfl, rfl, fun _ _ h => by simp at h⟩

theorem GoesOn.ite {p : Prop} [Decidable p] {t u : SearchRecord × Option Nat} (ht : GoesOn s t) (hu : GoesOn s u) :
    GoesOn s (if p then t else u) := by
  split
  · exact ht
  · exact hu

/-- A candidate within the bounds, under any phase and round. -/
theorem GoesOn.to {u : SearchRecord} {c : Nat} (hp : u.probes = s.probes) (hl : u.lastScore = s.lastScore) (hb : u.best = s.best)
    (hc : OnLens s → c ≤ 4095) : GoesOn s (u, some c) :=
  ⟨hp, hl, hb, fun h n hn => by obtain rfl := Option.some.inj hn; exact hc h⟩

theorem startRound_goesOn (f : Nat) : GoesOn s (startRound s f) := by
  unfold startRound
  split
  · exact .without s
  next b x hb =>
    refine .ite ⟨rfl, rfl, rfl, fun _ _ h => by simp at h⟩ (.ite (.to rfl rfl rfl fun h => ?_)
      (.ite (.to rfl rfl rfl fun _ => min_le_right _ _) ⟨rfl, rfl, rfl, fun _ _ h => by simp at h⟩))
    exact (Nat.sub_le b f).trans (h.2.2 _ hb)

theorem startFine_goesOn : GoesOn s (startFine s) := startRound_goesOn _

theorem startDown_goesOn : GoesOn s (startDown s) :=
  .ite startFine_goesOn (.to rfl rfl rfl fun h => (Nat.sub_le _ _).trans h.1)

theorem endUp_goesOn : GoesOn s (endUp s) := .ite startFine_goesOn startDown_goesOn

theorem goUp_goesOn (c : Nat) : GoesOn s (goUp s c) := .ite endUp_goesOn (.to rfl rfl rfl fun _ => min_le_right _ _)

theorem goDown_goesOn : GoesOn s (goDown s s.candidate) :=
  .ite startFine_goesOn (.to rfl rfl rfl fun h => (Nat.sub_le _ _).trans h.2.1)

theorem endRound_goesOn : GoesOn s (endRound s) := by
  unfold endRound
  split
  · exact .without s
  · exact .ite (startRound_goesOn _) (startRound_goesOn _)

end

/-! ### A probe scored -/

/-- A probe's score is strictly better than the best one, or the first. -/
def better (r : SearchRecord) (x : Nat) : Bool :=
  match r.best with
  | none => true
  | some (_, b) => decide (b < x)

/-- The record once a probe's score is taken, before its phase goes on (R93). -/
def probed (r : SearchRecord) (x : Nat) : SearchRecord :=
  { r with
    probes := r.probes + 1, lastScore := some x, lastProbed := some r.candidate, window := none
    best := if better r x then some (r.candidate, x) else r.best }

/-- The record once an upward probe is scored: whether any of them rose (R94). -/
def climbed (r : SearchRecord) (x : Nat) : SearchRecord :=
  { probed r x with rose := r.rose || (decide (r.probes ≠ 0) && better r x) }

section
variable {r : SearchRecord} {x : Nat}

theorem better_iff (r : SearchRecord) (x : Nat) : better r x = true ↔ r.best = none ∨ ∃ p, r.best = some p ∧ p.2 < x := by
  unfold better
  split <;> simp [*]

theorem probed_best (r : SearchRecord) (x : Nat) :
    (probed r x).best = match r.best with
      | none => some (r.candidate, x)
      | some (b, y) => if y < x then some (r.candidate, x) else some (b, y) := by
  cases hb : r.best with
  | none => simp [probed, better, hb]
  | some p => simp [probed, better, hb]

theorem probed_onLens (h : OnLens r) : OnLens (probed r x) := by
  obtain ⟨hs, hc, hb⟩ := h
  refine ⟨hs, hc, fun b h => ?_⟩
  dsimp only [probed] at h
  split at h
  · obtain rfl := Option.some.inj h
    exact hc
  · exact hb b h

theorem climbed_rose_iff (r : SearchRecord) (x : Nat) :
    (climbed r x).rose = true ↔ r.rose = true ∨ (r.probes ≠ 0 ∧ better r x = true) := by simp [climbed]

theorem takeProbe_up (hp : r.phase = .coarseUp) :
    takeProbe r x = if r.probes = 0 ∨ better r x = true then goUp (climbed r x) r.candidate else endUp (climbed r x) := by
  have hrecord : takeProbe r x = if r.probes = 0 then goUp (probed r x) r.candidate
      else if better r x = true then goUp { probed r x with rose := true } r.candidate else endUp (probed r x) := by
    cases r
    cases hp
    rfl
  rw [hrecord]
  by_cases h0 : r.probes = 0
  · simp [h0, climbed, probed]
  · cases hb : better r x <;> simp [h0, hb, climbed, probed]

theorem takeProbe_down (hp : r.phase = .coarseDown) :
    takeProbe r x = if better r x = true then goDown (probed r x) r.candidate else startFine (probed r x) := by
  cases r
  cases hp
  rfl

theorem takeProbe_fine (hp : r.phase = .fine) :
    takeProbe r x = if r.candidate < r.roundBest ∧ min (r.roundBest + r.fine) 4095 ≠ r.roundBest
      then (probed r x, some (min (r.roundBest + r.fine) 4095)) else endRound (probed r x) := by
  cases r
  cases hp
  rfl

/-- However the phase goes on, it does so from the scored probe. -/
theorem takeProbe_goesOn (r : SearchRecord) (x : Nat) : GoesOn (probed r x) (takeProbe r x) := by
  have hclimbed : ∀ {t}, GoesOn (climbed r x) t → GoesOn (probed r x) t := fun h => ⟨h.probes, h.lastScore, h.best, h.onLens⟩
  cases hp : r.phase with
  | coarseUp =>
    rw [takeProbe_up hp]
    exact hclimbed (.ite (goUp_goesOn _) endUp_goesOn)
  | coarseDown =>
    rw [takeProbe_down hp]
    exact .ite (goDown_goesOn (s := probed r x)) startFine_goesOn
  | fine =>
    rw [takeProbe_fine hp]
    exact .ite (.to rfl rfl rfl fun _ => min_le_right _ _) endRound_goesOn

/-! ### The next candidate -/

/-- A round of the fine phase about a best step begins with an offset (R95). -/
def BeginsRound (f b y : Nat) (t : SearchRecord × Option Nat) : Prop :=
  t.1.phase = .fine ∧ t.1.fine = f ∧ t.1.roundBest = b ∧ t.1.roundScore = y
    ∧ t.2 = if f = 0 then none else if 0 < b then some (b - f) else some (min f 4095)

/-- The lower candidate comes first; at step 0 there is none, and the upper one is taken (R95). -/
theorem startRound_begins {s : SearchRecord} {b y : Nat} (f : Nat) (hb : s.best = some (b, y)) : BeginsRound f b y (startRound s f) := by
  have hround : startRound s f = ({ s with phase := .fine, fine := f, roundBest := b, roundScore := y },
      if f = 0 then none else if 0 < b then some (b - f) else some (min f 4095)) := by
    unfold startRound
    rw [hb]
    dsimp only [Config.maxLensStep]
    rcases Nat.eq_zero_or_pos f with rfl | hf
    · rfl
    rcases Nat.eq_zero_or_pos b with rfl | hlow
    · simp [hf.ne']
    · have hlower : b - f ≠ b := by omega
      rw [if_neg hf.ne', if_pos hlower, if_neg hf.ne', if_pos hlow]
  rw [hround]
  exact ⟨rfl, rfl, rfl, rfl, rfl⟩

/-- An upward probe after which the walk goes on. -/
def Climbs (r : SearchRecord) (x : Nat) : Prop :=
  (r.probes = 0 ∨ better r x = true) ∧ min (r.candidate + r.coarse) 4095 ≠ r.candidate

theorem takeProbe_climbs (hp : r.phase = .coarseUp) (h : Climbs r x) :
    takeProbe r x = (climbed r x, some (min (r.candidate + r.coarse) 4095)) := by
  rw [takeProbe_up hp, if_pos h.1]
  exact if_neg h.2

theorem takeProbe_endsUp (hp : r.phase = .coarseUp) (h : ¬ Climbs r x) : takeProbe r x = endUp (climbed r x) := by
  rw [takeProbe_up hp]
  split
  next hclimbs => exact if_pos (not_not.1 fun hn => h ⟨hclimbs, hn⟩)
  next => rfl

theorem takeProbe_endsUp_risen (hp : r.phase = .coarseUp) (h : ¬ Climbs r x) (hr : (climbed r x).rose = true) :
    takeProbe r x = startFine (climbed r x) := by
  rw [takeProbe_endsUp hp h]
  exact if_pos hr

theorem takeProbe_endsUp_flat (hp : r.phase = .coarseUp) (h : ¬ Climbs r x) (hr : ¬ (climbed r x).rose = true) :
    takeProbe r x = if r.startStep - r.coarse = r.candidate then startFine (climbed r x)
      else ({ climbed r x with phase := .coarseDown }, some (r.startStep - r.coarse)) := by
  have hdown : endUp (climbed r x) = startDown (climbed r x) := if_neg hr
  rw [takeProbe_endsUp hp h, hdown]
  simp only [startDown, climbed, probed, Option.some.injEq, eq_comm (a := r.candidate)]

theorem takeProbe_descends (hp : r.phase = .coarseDown) (hb : better r x = true) (hc : r.candidate - r.coarse ≠ r.candidate) :
    takeProbe r x = (probed r x, some (r.candidate - r.coarse)) := by
  rw [takeProbe_down hp, if_pos hb]
  exact if_neg hc

theorem takeProbe_endsDown (hp : r.phase = .coarseDown) (h : ¬ (better r x = true ∧ r.candidate - r.coarse ≠ r.candidate)) :
    takeProbe r x = startFine (probed r x) := by
  rw [takeProbe_down hp]
  split
  next hb => exact if_pos (not_not.1 fun hn => h ⟨hb, hn⟩)
  next => rfl

theorem takeProbe_endsRound {b y : Nat} (hp : r.phase = .fine)
    (h : ¬ (r.candidate < r.roundBest ∧ min (r.roundBest + r.fine) 4095 ≠ r.roundBest)) (hb : (probed r x).best = some (b, y)) :
    takeProbe r x = startRound (probed r x) (if r.roundScore < y then r.fine else r.fine / 2) := by
  rw [takeProbe_fine hp, if_neg h]
  unfold endRound
  rw [hb]
  exact (apply_ite (startRound (probed r x)) _ _ _).symm

end

/-! ### The track cycle -/

section
variable {t : TrackContext} {threshold x held k : Nat}

theorem countedScore_expected (h : expectedStep t = some held) : countedScore t (some x) (some held) = some x := by
  unfold countedScore
  rw [h]
  exact if_pos rfl

theorem countedScore_elsewhere {e : Nat} (h : expectedStep t = some e) (hne : held ≠ e) : countedScore t (some x) (some held) = none := by
  unfold countedScore
  rw [h]
  exact if_neg hne

theorem expectedStep_steady (hs : t.state = .steady) : expectedStep t = some t.step := by
  unfold expectedStep
  rw [hs]

theorem expectedStep_probeUp (hs : t.state = .probeUp) (hk : t.probeOffset = some k) :
    expectedStep t = some (min (t.step + k) 4095) := by
  unfold expectedStep
  rw [hs, hk]
  rfl

theorem expectedStep_probeDown (hs : t.state = .probeDown) (hk : t.probeOffset = some k) : expectedStep t = some (t.step - k) := by
  unfold expectedStep
  rw [hs, hk]
  rfl

/-- A counted score of a frame without a splice, taken in STEADY (R101). -/
theorem trackCycle_steady (hs : t.state = .steady) :
    trackCycle threshold t (some x) (some t.step) false
      = if t.reference * threshold ≤ 100 * x then { t with lowCount := 0 }
        else if 2 ≤ t.lowCount + 1 then dueProbe { t with lowCount := 0, lowScore := some x } .probeUp
        else { t with lowCount := t.lowCount + 1, lowScore := some x } := by
  unfold trackCycle
  rw [countedScore_expected (expectedStep_steady hs), hs]
  rfl

theorem trackCycle_splice (hs : t.state = .steady) :
    trackCycle threshold t none none true = dueProbe { t with lowCount := 0, lowScore := some t.reference } .probeUp := by
  unfold trackCycle
  rw [hs]
  rfl

/-- A probe state of the cycle with the state that follows a probe that did not beat the low score. -/
def ProbeLeadsTo (st next : TrackState) : Prop := (st = .probeUp ∧ next = .probeDown) ∨ (st = .probeDown ∧ next = .goBack)

/-- A counted score of a probe: kept when it beats the low score, and else followed by the next state (R101). -/
theorem trackCycle_probe {next : TrackState} {low : Nat} (hs : ProbeLeadsTo t.state next) (he : expectedStep t = some held)
    (hl : t.lowScore = some low) :
    trackCycle threshold t (some x) (some held) false
      = if low < x then { t with step := held, reference := x, state := .steady } else dueProbe t next := by
  unfold trackCycle
  rw [countedScore_expected he, he, hl]
  obtain ⟨hst, rfl⟩ | ⟨hst, rfl⟩ := hs <;> rw [hst] <;> rfl

theorem trackCycle_probe_elsewhere {next : TrackState} {e : Nat} (hs : ProbeLeadsTo t.state next) (he : expectedStep t = some e)
    (hne : held ≠ e) : trackCycle threshold t (some x) (some held) false = t := by
  unfold trackCycle
  rw [countedScore_elsewhere he hne]
  obtain ⟨hst, -⟩ | ⟨hst, -⟩ := hs <;> rw [hst]

theorem trackCycle_goBack {score held : Option Nat} {splice : Bool} (hs : t.state = .goBack) :
    trackCycle threshold t score held splice = t := by
  unfold trackCycle
  rw [hs]

theorem pauseTrack_expected {d : Dev} {e : Nat} (ht : d.focus.track = some t) (hs : t.state ≠ .goBack) (hd : t.moveDue = false)
    (he : expectedStep t = some e) : (pauseTrack d).focus.track = some { t with restoreStep := e } := by
  unfold pauseTrack
  rw [ht]
  dsimp only
  rw [if_neg hs, Dev.setFocus_focus, ht]
  simp [hd, he]

end

end Sys2Proof.Proofs

/-! The focus search on the device, its windows, the pause of tracking and the preparation of a run: O42 and O43. -/

namespace Sys2Proof.Proofs

open Sys2Proof Sys2Proof.Machine

/-! ### Probes -/

/-- The device with a search record. -/
def searchingAs (k : SearchRecord) (d : Dev) : Dev := d.setFocus { d.focus with search := some k }

section
variable {d : Dev} {k : SearchRecord} {c : Nat}

/-- A probe asks for its move from the record with its candidate and no window (R93). -/
theorem probeAt_asks (hk : d.focus.search = some k) {a : MoveAnswer} {e : Dev}
    (hm : moveRequest c .search (searchingAs { k with candidate := c, window := none } d) = (a, e)) :
    probeAt c d = if a = .refused then endSearch true e else if a = .atTarget then beginProbeWindow e else e := by
  unfold searchingAs at hm
  unfold probeAt
  rw [hk]
  dsimp only [Option.map_some]
  rw [hm]
  cases a <;> rfl

/-- With the lens at the candidate the window begins at once, with the length in force (R93, R90). -/
theorem probeAt_begins (hk : d.focus.search = some k) (hs : d.focus.lens.state = .idle) (hstep : d.focus.lens.step = c) :
    probeAt c d = searchingAs { k with candidate := c, window := some (newWindow d) } d := by
  rw [probeAt_asks hk (moveRequest_atTarget .search (by exact hs) (by exact hstep.symm))]
  rfl

theorem probeAt_moves (hk : d.focus.search = some k) (hs : d.focus.lens.state = .idle) (hne : d.focus.lens.step ≠ c) :
    probeAt c d = noteLensMoved (setLens { d.focus.lens with state := .moving, move := some (freshMove c .search d) }
      (searchingAs { k with candidate := c, window := none } d)) := by
  rw [probeAt_asks hk (moveRequest_starts .search (by exact hs) (by exact hne.symm))]
  rfl

theorem probeAt_lost (hk : d.focus.search = some k)
    (hs : d.focus.lens.state = .unhomed ∨ d.focus.lens.state = .fault ∨ d.focus.lens.state = .homing) :
    probeAt c d = endSearch true (searchingAs { k with candidate := c, window := none } d) := by
  rw [probeAt_asks hk (moveRequest_refused c .search (by exact hs))]
  rfl

/-! ### Lines of a search -/

variable {w : Window} {st : LineStats} {r : LineResult}

/-- The window gathers a line that does not fill it (R90). -/
theorem searchLine_gathers (hk : d.focus.search = some k) (hw : k.window = some w) (hc : lineCounts r d = some st)
    (hf : (w.add st).full = false) : searchLine r d = searchingAs { k with window := some (w.add st) } d := by
  unfold searchLine
  rw [hk]
  dsimp only
  rw [hw, hc]
  exact if_neg (by simp [hf])

/-- The line that fills the window scores its probe: the search ends, or its next probe is made (R93, R95, R96). -/
theorem searchLine_scores (hk : d.focus.search = some k) (hw : k.window = some w) (hc : lineCounts r d = some st)
    (hf : (w.add st).full = true) :
    ((takeProbe k (w.add st).score).2 = none ∨ 64 ≤ (takeProbe k (w.add st).score).1.probes →
        searchLine r d = endSearch false (searchingAs (takeProbe k (w.add st).score).1 d))
      ∧ (∀ c, (takeProbe k (w.add st).score).2 = some c → (takeProbe k (w.add st).score).1.probes < 64 →
        searchLine r d = probeAt c (searchingAs (takeProbe k (w.add st).score).1 d)) := by
  have hline : searchLine r d = match (takeProbe k (w.add st).score).2 with
      | none => endSearch false (searchingAs (takeProbe k (w.add st).score).1 d)
      | some c =>
        if 64 ≤ (takeProbe k (w.add st).score).1.probes then endSearch false (searchingAs (takeProbe k (w.add st).score).1 d)
        else probeAt c (searchingAs (takeProbe k (w.add st).score).1 d) := by
    unfold searchLine
    rw [hk]
    dsimp only
    rw [hw, hc]
    exact if_pos hf
  rw [hline]
  refine ⟨fun h => ?_, fun c hnext hbudget => ?_⟩
  · cases hnext : (takeProbe k (w.add st).score).2 with
    | none => rfl
    | some c => exact if_pos (h.resolve_left (by simp [hnext]))
  · rw [hnext]
    exact if_neg (not_le.2 hbudget)

theorem searchLine_uncounted (hk : d.focus.search = some k) (h : k.window = none ∨ lineCounts r d = none) : searchLine r d = d := by
  unfold searchLine
  rw [hk]
  dsimp only
  split
  next hw hc => rcases h with h | h <;> simp_all
  next => rfl

end

theorem Window.add_full_iff (w : Window) (st : LineStats) : (w.add st).full = true ↔ w.length ≤ w.count + 1 := decide_eq_true_iff

theorem Window.score_eq (w : Window) :
    w.score = if 65535 < w.sumF * 256 / (w.sumL + 1) then 65535 else w.sumF * 256 / (w.sumL + 1) := by
  unfold Window.score
  split <;> omega

/-! ### The lens restored when a run is resumed -/

section
variable {d : Dev} {r : RunRecord} {q : ResumePoint} {t : TrackContext}

theorem restoreLens_track (hr : d.scan.run = some r) (hf : r.focus = .track) (hq : r.resume = some q) (ht : d.focus.track = some t) :
    restoreLens d = if lensMovable d = true then (moveRequest t.restoreStep .track d).2 else loseTrack d := by
  unfold restoreLens
  rw [hr]
  dsimp only
  rw [hf, hq, ht]

theorem lensMovable_idle (hs : d.focus.lens.state = .idle) : lensMovable d = true := by simp [lensMovable, hs]

theorem lensMovable_not (hs : d.focus.lens.state = .unhomed ∨ d.focus.lens.state = .fault ∨ d.focus.lens.state = .homing) :
    ¬ lensMovable d = true := by
  rcases hs with hs | hs | hs <;> simp [lensMovable, hs]

end

/-! ### The preparation of a run -/

section
variable {d : Dev} {r : RunRecord}

/-- A change of the run state is a change of the record, and of the ports by its event (R143). -/
theorem setRunState_eq_setPorts (st : RunState) (d : Dev) :
    ∃ ps, setRunState st d = (modifyRun (fun r => { r with state := st }) d).setPorts ps := by
  unfold setRunState
  split
  next hr => exact ⟨d.ports, by unfold modifyRun; rw [hr, Option.map_none, ← hr]; rfl⟩
  next r hr =>
    split
    next hs =>
      have hsame : { r with state := st } = r := by rw [← hs]
      exact ⟨d.ports, by unfold modifyRun; rw [hr, Option.map_some, hsame, ← hr]; rfl⟩
    next => exact ⟨_, rfl⟩

/-- The record of a run whose preparation has begun (R147). -/
def preparing (r : RunRecord) : RunRecord := { r with state := .preparing, resumePermitted := true }

/-- The device of a run whose preparation has begun. -/
def prepared (r : RunRecord) (ps : Ports) (d : Dev) : Dev := (d.setScan { d.scan with run := some (preparing r) }).setPorts ps

theorem startPreparation_eq (hr : d.scan.run = some r) :
    ∃ ps, startPreparation d = if searchNeeded (preparing r) (prepared r ps d) = true
      then giveOrder { owner := .scan, kind := .seek r.base none }
        (modifyRun (fun r => { r with prep := .searchSeek }) (prepared r ps d))
      else giveScanOrder (prepared r ps d) := by
  obtain ⟨ps, hps⟩ := setRunState_eq_setPorts .preparing (modifyRun (fun r => { r with resumePermitted := true }) d)
  have hprepared : setRunState .preparing (modifyRun (fun r => { r with resumePermitted := true }) d) = prepared r ps d := by
    rw [hps]
    unfold modifyRun
    rw [hr]
    rfl
  refine ⟨ps, ?_⟩
  unfold startPreparation
  rw [hprepared]
  rfl

/-- A search is made in a run that has not been RUNNING and has not got what its focus option asks for (R147). -/
theorem searchNeeded_iff (r : RunRecord) (d : Dev) :
    searchNeeded r d = true ↔ r.started = false ∧ ((r.focus = .search ∧ d.focus.runStep = none)
      ∨ (r.focus = .track ∧ d.focus.track = none ∧ r.trackLost = false)) := by
  simp [searchNeeded, and_assoc]

theorem giveScanOrder_eq (hr : d.scan.run = some r) :
    giveScanOrder d = giveOrder
      { owner := .scan, kind := .scan (runBase r) r.speed r.pitch r.savedLine (runStopPosition r) }
      (modifyRun (fun r => { r with prep := .scanOrder }) d) := by
  unfold giveScanOrder
  rw [hr]

/-- An order of SCAN that begins with a seek is in progress, in a preparation. -/
def PreparesWith (r : RunRecord) (kind : OrderKind) (step : PrepStep) (e : Dev) : Prop :=
  e.transport.motion = .seek ∧ e.scan.run = some { r with state := .preparing, resumePermitted := true, prep := step }
    ∧ ∃ c, e.transport.current = some c ∧ c.order = { owner := .scan, kind := kind }

theorem startPreparation_seeks (hr : d.scan.run = some r) (hg : d.transport.grant = .scan)
    (hm : d.transport.motion = .idle ∨ d.transport.motion = .parked) (hready : d.inputs.driveReady = true)
    (h : searchNeeded r d = true) : PreparesWith r (.seek r.base none) .searchSeek (startPreparation d) := by
  obtain ⟨ps, hstart⟩ := startPreparation_eq hr
  rw [hstart, if_pos (by exact h),
    giveOrder_starts (by exact hg) (by rcases hm with hm | hm <;> simp [prepared, modifyRun, hm]) (by simp),
    startOrder_seek rfl (by exact hready)]
  exact ⟨rfl, rfl, _, rfl, rfl⟩

theorem startPreparation_scans (hr : d.scan.run = some r) (hg : d.transport.grant = .scan)
    (hm : d.transport.motion = .idle ∨ d.transport.motion = .parked) (hready : d.inputs.driveReady = true)
    (h : ¬ searchNeeded r d = true) :
    PreparesWith r (.scan (runBase r) r.speed r.pitch r.savedLine (runStopPosition r)) .scanOrder (startPreparation d) := by
  obtain ⟨ps, hstart⟩ := startPreparation_eq hr
  rw [hstart, if_neg (by exact h), giveScanOrder_eq (r := preparing r) rfl,
    giveOrder_starts (by exact hg) (by rcases hm with hm | hm <;> simp [prepared, modifyRun, hm]) (by simp),
    startOrder_scan rfl (by exact hready)]
  exact ⟨rfl, rfl, _, rfl, rfl⟩

theorem runBase_eq (r : RunRecord) : runBase r = match r.resume with
    | some q => q.position
    | none => r.base := by
  unfold runBase
  cases r.resume <;> rfl

end

/-! ### FOCUS_SEARCH -/

section
variable {d : Dev} {p : List Byte}

theorem answerFocusSearch_taken (hg : d.transport.grant = .nobody) (hm : d.transport.motion = .idle ∨ d.transport.motion = .parked)
    (hroll : d.roll.state = .threaded) (hs : d.focus.lens.state = .idle) (hrun : d.scan.run = none) :
    answerFocusSearch p d = taken .accepted [] (beginSearch .service (giveGrant .service d)) := by
  unfold answerFocusSearch
  rw [serviceRefusal_none hg hm]
  exact if_neg (by simp [focusSearchBlocked, hroll, hs, runIn, hrun])

/-- The arm of a search, after the pulse that it gives at once (R92). -/
def probeArm (owner : Owner) (pitch : Nat) (d : Dev) : Arm :=
  { owner := owner, mode := .probe, base := d.metering.counter, pitch := pitch, stopAt := none, index := 1 }

/-- An arm made with its base at the counter gives its first pulse at once (R69). -/
theorem armTrigger_atCounter {owner : Owner} (pitch : Nat) (hg : d.transport.grant = owner) (ha : d.trigger.arm = none) :
    ∃ ls, armTrigger owner .probe d.metering.counter pitch none 0 d
      = ((d.setTrigger { d.trigger with pulses := d.trigger.pulses + 1, arm := some (probeArm owner pitch d) }).setLines ls).setInbox
        (d.inbox ++ [.armBegan owner 0]) := by
  have hfirst : firstIndex d.metering.counter pitch d.metering.counter = 0 := if_pos le_rfl
  have harm : newArm owner .probe d.metering.counter pitch d.metering.counter = { probeArm owner pitch d with index := 0 } := by
    unfold newArm
    rw [hfirst]
    rfl
  rw [armTrigger_made .probe _ _ 0 hg ha (by simp), harm, if_pos (by simp [probeArm, nextPosition, armPosition])]
  exact ⟨_, rfl⟩

/-- On a roll that is not READY a search starts from the lens step (R92). -/
theorem searchStartStep_lens (h : d.roll.state ≠ .ready) : searchStartStep d = d.focus.lens.step := by
  unfold searchStartStep
  rw [if_neg h]
  rfl

/-- The record of a search of SERVICE with its first probe window (R92, R93). -/
def firstProbe (d : Dev) : SearchRecord :=
  { requester := .service, start := d.metering.counter, startStep := d.focus.lens.step, coarse := d.focus.cfg.coarseStep
    phase := .coarseUp, best := none, fine := 0, probes := 0, lastScore := none, lastProbed := none
    candidate := d.focus.lens.step, rose := false, roundBest := d.focus.lens.step, roundScore := 0, window := some (newWindow d) }

/-- A creep of SERVICE held through re-tensioning (R30, R39). -/
def creepHeld (d : Dev) : Dev := d.setTransport { d.transport with held := some { owner := .service, kind := .creep .probe } }

/-- A search of SERVICE that has begun, with the segment that its first pulse expects. -/
def searchBegun (ls : Lines) (d : Dev) : Dev :=
  ((searchingAs (firstProbe d) (creepHeld d)).setTrigger
    { d.trigger with pulses := d.trigger.pulses + 1, arm := some (probeArm .service d.focus.cfg.searchPitch d) }).setLines ls

/-- The creep of a search that begins in RETENSIONING is held, and its arm is made before its first probe (R92). -/
theorem beginSearch_holds (hg : d.transport.grant = .service) (hm : d.transport.motion = .retensioning)
    (hs : d.focus.lens.state = .idle) (hroll : d.roll.state ≠ .ready) :
    beginSearch .service d = probeAt d.focus.lens.step (armTrigger .service .probe d.metering.counter d.focus.cfg.searchPitch none 0
      (searchingAs { firstProbe d with window := none } (creepHeld d))) := by
  have hheld : giveOrder { owner := .service, kind := .creep .probe } (searchingAs { firstProbe d with window := none } d)
      = searchingAs { firstProbe d with window := none } (creepHeld d) := giveOrder_held (by exact hg) (by exact hm) (by simp)
  have hwait : wouldHold (searchingAs { firstProbe d with window := none } d) = true := by
    simp [wouldHold, searchingAs, hm]
  unfold beginSearch
  rw [searchStartStep_lens hroll]
  unfold searchingAs firstProbe at hheld hwait
  dsimp only at hheld hwait ⊢
  rw [Dev.setFocus_focus, hs]
  dsimp only [searchGrant]
  rw [hheld, hwait]
  rfl

theorem beginSearch_retensioning (hg : d.transport.grant = .service) (hm : d.transport.motion = .retensioning)
    (hs : d.focus.lens.state = .idle) (hroll : d.roll.state ≠ .ready) (ha : d.trigger.arm = none) :
    ∃ ls, beginSearch .service d = (searchBegun ls d).setInbox (d.inbox ++ [.armBegan .service 0]) := by
  obtain ⟨ls, harmed⟩ := armTrigger_atCounter (d := searchingAs { firstProbe d with window := none } (creepHeld d))
    d.focus.cfg.searchPitch (by exact hg) (by exact ha)
  have hprobe := (beginSearch_holds hg hm hs hroll).trans (congrArg (probeAt d.focus.lens.step) harmed)
  exact ⟨ls, hprobe.trans (probeAt_begins (k := { firstProbe d with window := none }) rfl (by exact hs) rfl)⟩

/-- The search that has begun leaves only the report of its arm, which nobody acts on (R69). -/
theorem settle_searchBegun (ls : Lines) (h : Settled d) (hg : d.transport.grant ≠ .nobody) (hs : d.focus.lens.state ≠ .moving) :
    settle ((searchBegun ls d).setInbox (d.inbox ++ [.armBegan .service 0])) = searchBegun ls d := by
  have hinbox : d.inbox = [] := ((reaction_none_iff d).1 h.1).1
  have hheld : Settled (creepHeld d) :=
    settled_setTransport h (by simp [atRest]) hg (parkTimer_of_settled h (parkConditions_of_owned hg))
  have hlens : ¬ WaitsForLens d := not_waitsForLens h hs
  have hbegun : Settled (searchBegun ls d) :=
    (settled_setLines _ _).2 ((settled_setTrigger _ _).2 (settled_setFocus hheld (.inr hlens)))
  have htaken : (searchBegun ls d).setInbox [] = searchBegun ls d := by rw [← hinbox]; rfl
  refine (settle_of_report (r := .armBegan .service 0) (by rw [hinbox]; rfl) ?_).trans htaken
  show Settled ((searchBegun ls d).setInbox [])
  rw [htaken]
  exact hbegun

/-- The device that has given its grant to SERVICE with tension RELEASE. -/
def givenToService (d : Dev) : Dev := d.setTransport (retensionedForService (d.time + d.transport.cfg.tensionSettle) d.transport)

theorem answerFocusSearch_begins (hg : d.transport.grant = .nobody) (hm : d.transport.motion = .idle ∨ d.transport.motion = .parked)
    (hten : d.transport.tension = .release) (hroll : d.roll.state = .threaded) (hs : d.focus.lens.state = .idle)
    (hrun : d.scan.run = none) (ha : d.trigger.arm = none) (h : Settled d) :
    ∃ ls, answerFocusSearch p d = { dev := searchBegun ls (givenToService d), result := .accepted, payload := [] } := by
  have hgiven : giveGrant .service d = givenToService d := giveGrant_service_release hten
  have hsettled : Settled (givenToService d) := settled_retensionedForService _ h hm
  obtain ⟨ls, hbegun⟩ := beginSearch_retensioning (d := givenToService d) rfl rfl hs (by simp [givenToService, hroll]) ha
  refine ⟨ls, ?_⟩
  rw [answerFocusSearch_taken hg hm hroll hs hrun, hgiven, hbegun]
  unfold taken
  rw [settle_searchBegun ls hsettled (by exact fun hn => nomatch hn) (by simp [givenToService, hs])]

end

/-- Settles O42: the answer's device is written out, and the report of its arm is all that the step has left to take. -/
theorem focusSearchBegins : Obligations.FocusSearchBegins := by
  intro s tag p x ht hg hm hten hroll hs hrun ha hset
  obtain ⟨ls, hanswer⟩ := answerFocusSearch_begins (p := p) (d := heard .service (requestFrame tag p x) s) hg hm hten hroll hs hrun ha
    ((settled_heard _ _ _).2 hset)
  refine ⟨_, takeFrame_takes .focusSearch .service tag p x answerFocusSearch s ht rfl, rfl, ?_⟩
  rw [hanswer]
  exact ⟨congrArg (·.response) (respond_get _ _ _ _ _), rfl, rfl, rfl, ⟨_, rfl, rfl, rfl, rfl, rfl, rfl⟩,
    _, rfl, rfl, rfl, rfl, rfl, rfl, rfl, rfl, rfl⟩

/-- Settles O43: the candidates by the phase of the search, the cycle by its state, and the orders of a preparation by its record. -/
theorem searchScores : Obligations.SearchScores := by
  refine ⟨?bounds, ?candidates, ?lines, ?probes, Window.score_eq, ?cycle, ?restore, ?preparation⟩
  case bounds =>
    intro r x hc hs hb
    have h := takeProbe_goesOn r x
    exact ⟨h.probes, h.lastScore, h.best.trans (probed_best r x), h.onLens (probed_onLens ⟨hs, hc, hb⟩)⟩
  case candidates =>
    intro r x b y hbest
    have hprobed : (probed r x).best = some (b, y) := (takeProbe_goesOn r x).best.symm.trans hbest
    have hclimbed : (climbed r x).best = some (b, y) := hprobed
    simp only [← better_iff]
    refine ⟨fun hp => ?_, fun hp => ?_, fun hp => ?_⟩
    · refine ⟨fun h => ?_, fun h hr => ?_, fun h hr hc => ?_, fun h hr hc => ?_⟩
      · rw [takeProbe_climbs hp h]
        exact ⟨rfl, hp, climbed_rose_iff r x⟩
      · rw [takeProbe_endsUp_risen hp h ((climbed_rose_iff r x).2 hr)]
        exact startRound_begins _ hclimbed
      · rw [takeProbe_endsUp_flat hp h (mt (climbed_rose_iff r x).1 hr), if_pos hc]
        exact startRound_begins _ hclimbed
      · rw [takeProbe_endsUp_flat hp h (mt (climbed_rose_iff r x).1 hr), if_neg hc]
        exact ⟨rfl, rfl⟩
    · refine ⟨fun hb hc => ?_, fun h => ?_⟩
      · rw [takeProbe_descends hp hb hc]
        exact ⟨rfl, hp⟩
      · rw [takeProbe_endsDown hp h]
        exact startRound_begins _ hprobed
    · refine ⟨fun h => ?_, fun h => ?_⟩
      · rw [takeProbe_fine hp, if_pos h]
        exact ⟨rfl, hp, rfl, rfl, rfl⟩
      · rw [takeProbe_endsRound hp h hprobed]
        exact startRound_begins _ hprobed
  case lines =>
    intro d k w st r hk hw hr hc hs
    have hcounts := lineCounts_some (d := d) hr hc hs
    refine ⟨fun h => ?_, fun h => ?_, fun c h => ?_⟩
    · exact searchLine_gathers hk hw hcounts (Bool.eq_false_iff.2 (mt (Window.add_full_iff w st).1 (not_le.2 h)))
    · exact (searchLine_scores hk hw hcounts ((Window.add_full_iff w st).2 h)).1
    · exact (searchLine_scores hk hw hcounts ((Window.add_full_iff w st).2 h)).2 c
  case probes =>
    intro d k c hk
    refine ⟨probeAt_begins hk, fun hs hne => ?_, probeAt_lost hk, fun r h => ?_⟩
    · rw [probeAt_moves hk hs hne]
      exact ⟨rfl, rfl, _, rfl, rfl, rfl⟩
    · exact searchLine_uncounted hk (h.imp_right lineCounts_none)
  case cycle =>
    intro threshold t low x y k hk hdue
    refine ⟨fun hs hx => ?_, fun hs h0 hx hy => ?_, fun hs => trackCycle_splice hs, fun hs hl => ?_, fun hs hl => ?_,
      fun hs score held splice => trackCycle_goBack hs, fun d ht hs => ?_⟩
    · exact (trackCycle_steady hs).trans (if_pos hx)
    · have hfirst : trackCycle threshold t (some x) (some t.step) false = { t with lowCount := 1, lowScore := some x } := by
        rw [trackCycle_steady hs, if_neg (not_le.2 hx), if_neg (by omega), h0]
      dsimp only
      rw [hfirst]
      refine ⟨hs, rfl, ?_⟩
      rw [trackCycle_steady (t := { t with lowCount := 1, lowScore := some x }) (by exact hs), if_neg (not_le.2 hy), if_pos (by simp)]
      simp [dueProbe, h0]
    · have he := expectedStep_probeUp hs hk
      refine ⟨fun h => ?_, fun h => ?_, fun held => trackCycle_probe_elsewhere (.inl ⟨hs, rfl⟩) he⟩
      · exact (trackCycle_probe (.inl ⟨hs, rfl⟩) he hl).trans (if_pos h)
      · exact (trackCycle_probe (.inl ⟨hs, rfl⟩) he hl).trans (if_neg (not_lt.2 h))
    · have he := expectedStep_probeDown hs hk
      refine ⟨fun h => ?_, fun h => ?_, fun held => trackCycle_probe_elsewhere (.inr ⟨hs, rfl⟩) he⟩
      · exact (trackCycle_probe (.inr ⟨hs, rfl⟩) he hl).trans (if_pos h)
      · exact (trackCycle_probe (.inr ⟨hs, rfl⟩) he hl).trans (if_neg (not_lt.2 h))
    · cases hst : t.state with
      | steady => simpa [hst] using pauseTrack_expected ht hs hdue (expectedStep_steady hst)
      | probeUp => simpa [hst] using pauseTrack_expected ht hs hdue (expectedStep_probeUp hst hk)
      | probeDown => simpa [hst] using pauseTrack_expected ht hs hdue (expectedStep_probeDown hst hk)
      | goBack => exact absurd hst hs
  case restore =>
    intro d r q t hr hf hq ht
    refine ⟨fun hs hne => ?_, fun hs => ?_⟩
    · rw [restoreLens_track hr hf hq ht, if_pos (lensMovable_idle hs), moveRequest_starts .track hs hne]
      exact ⟨rfl, rfl, ht⟩
    · rw [restoreLens_track hr hf hq ht, if_neg (lensMovable_not hs)]
      exact ⟨rfl, rfl, raise_sets .capture .focus _ (by decide), congrArg (Option.map _) hr⟩
  case preparation =>
    intro d r hr hg hm hready
    refine ⟨fun h => startPreparation_seeks hr hg hm hready ((searchNeeded_iff r d).2 h), fun h => ?_⟩
    have hscans := startPreparation_scans hr hg hm hready (mt (searchNeeded_iff r d).1 h)
    rw [runBase_eq] at hscans
    exact hscans

end Sys2Proof.Proofs

/-! Marks and their levels, the class of a line, and the advance of the address: O56 (R110, R117 to R119, R121). -/

namespace Sys2Proof.Proofs

open Sys2Proof Sys2Proof.Machine

/-! ### Blip edges -/

section
variable {d : Dev} {x : Int}

/-- BLIP_IN at its active level is high where the active level is high, and low otherwise. -/
theorem setBlip_eq (active : Bool) (d : Dev) :
    setBlip active d
      = d.setInputs { d.inputs with blipIn := if d.detector.cfg.blipActive = .high then active else !active } := by
  unfold setBlip
  cases active <;> cases d.detector.cfg.blipActive <;> rfl

@[simp] theorem setBlip_detector (active : Bool) (d : Dev) : (setBlip active d).detector = d.detector := rfl
@[simp] theorem blipPosition_setBlip (active : Bool) (d : Dev) : blipPosition (setBlip active d) = blipPosition d := rfl
@[simp] theorem runIn_setBlip (active : Bool) (d : Dev) (l : List RunState) : runIn (setBlip active d) l = runIn d l := rfl

theorem blipStart_outsideRun (h : runIn d [.running, .suspending] = false) : blipStart d = setBlip true d := by
  simp [blipStart, h]

theorem blipStart_inRun (h : runIn d [.running, .suspending] = true) :
    blipStart d = (setBlip true d).setDetector { d.detector with openMark := some (blipPosition d) } := by
  simp [blipStart, h]

theorem blipEnd_outsideRun (h : runIn d [.running, .suspending] = false) : blipEnd d = setBlip false d := by
  simp [blipEnd, h]

theorem blipEnd_noOpenMark (h : runIn d [.running, .suspending] = true) (hx : d.detector.openMark = none) :
    blipEnd d = setBlip false d := by
  simp [blipEnd, h, hx]

/-- A mark that ends without a length, or with one that makes no mark, is dropped. -/
theorem blipEnd_ignores (h : runIn d [.running, .suspending] = true) (hx : d.detector.openMark = some x)
    (hlength : blipPosition d - x ≤ 0 ∨ markOf d.detector.cfg (blipPosition d - x) = none) :
    blipEnd d = (setBlip false d).setDetector { d.detector with openMark := none } := by
  by_cases hpos : blipPosition d - x ≤ 0
  · simp [blipEnd, h, hx, hpos]
  · simp [blipEnd, h, hx, hpos, hlength.resolve_left hpos]

/-- Any other mark is offered to the pending list. -/
theorem blipEnd_offers {level : Option Nat} (h : runIn d [.running, .suspending] = true) (hx : d.detector.openMark = some x)
    (hpos : 0 < blipPosition d - x) (hmark : markOf d.detector.cfg (blipPosition d - x) = some level) :
    blipEnd d = offerMark { position := x, level := level }
      ((setBlip false d).setDetector { d.detector with openMark := none }) := by
  simp [blipEnd, h, hx, hmark, not_le.2 hpos]

end

/-! ### The level of a mark (R118) -/

section
variable {c : DetectorConfig} {length : Int}

theorem markOf_short (h : length < c.l1Min) : markOf c length = none := if_pos h

/-- A mark that is long enough gets the level of the thresholds that it reaches, and none beyond the maximum. -/
theorem markOf_level {level : Option Nat} (hmin : (c.l1Min : Int) ≤ length)
    (h : (length < c.l2Min ∧ level = some 1)
      ∨ ((c.l2Min : Int) ≤ length ∧ length < c.l3Min ∧ level = some 2)
      ∨ ((c.l2Min : Int) ≤ length ∧ (c.l3Min : Int) ≤ length ∧ length ≤ c.maxMark ∧ level = some 3)
      ∨ ((c.l2Min : Int) ≤ length ∧ (c.l3Min : Int) ≤ length ∧ c.maxMark < length ∧ level = none)) :
    markOf c length = some level := by
  unfold markOf
  rw [if_neg (not_lt.2 hmin)]
  obtain ⟨h2, rfl⟩ | ⟨h2, h3, rfl⟩ | ⟨h2, h3, hmax, rfl⟩ | ⟨h2, h3, hmax, rfl⟩ := h
  · rw [if_pos h2]
  · rw [if_neg (not_lt.2 h2), if_pos h3]
  · rw [if_neg (not_lt.2 h2), if_neg (not_lt.2 h3), if_pos hmax]
  · rw [if_neg (not_lt.2 h2), if_neg (not_lt.2 h3), if_neg (not_le.2 hmax)]

theorem markOf_isSome (hmin : (c.l1Min : Int) ≤ length) : ∃ level, markOf c length = some level := by
  unfold markOf
  rw [if_neg (not_lt.2 hmin)]
  split_ifs <;> exact ⟨_, rfl⟩

end

/-! ### The pending list (R119) -/

theorem offerMark_room {m : Mark} {d : Dev} (h : d.detector.marks.length < 16) :
    offerMark m d = d.setDetector
      { d.detector with marks := insertMark m d.detector.marks, sinceClose := d.detector.sinceClose + 1 } :=
  if_neg (not_le.2 h)

theorem offerMark_full {m : Mark} {d : Dev} (h : 16 ≤ d.detector.marks.length) :
    offerMark m d = d.setDetector { d.detector with markLost := true } :=
  if_pos h

/-- In a list in order, a mark goes between the marks at or below its position and those above it. -/
theorem insertMark_splits (m : Mark) (marks : List Mark) (h : marks.Pairwise (fun a b => a.position ≤ b.position)) :
    ∃ below above, insertMark m marks = below ++ m :: above ∧ marks = below ++ above
      ∧ (∀ a ∈ below, a.position ≤ m.position) ∧ (∀ a ∈ above, m.position < a.position) := by
  induction marks with
  | nil => exact ⟨[], [], by simp [insertMark]⟩
  | cons y rest ih =>
    obtain ⟨hy, hrest⟩ := List.pairwise_cons.1 h
    unfold insertMark
    split
    next hbefore =>
      refine ⟨[], y :: rest, rfl, rfl, by simp, fun a ha => ?_⟩
      obtain rfl | ha := List.mem_cons.1 ha
      · exact hbefore
      · exact hbefore.trans_le (hy a ha)
    next hafter =>
      obtain ⟨below, above, hinsert, hmarks, hbelow, habove⟩ := ih hrest
      refine ⟨y :: below, above, by rw [hinsert, List.cons_append], by rw [hmarks, List.cons_append], ?_, habove⟩
      exact List.forall_mem_cons.2 ⟨not_lt.1 hafter, hbelow⟩

/-! ### The class of a line (R110) -/

theorem classify_negative_gapLike_iff (c : DetectorConfig) (prev : LineClass) (l : Nat) :
    classify .negative c prev (some l) = .gapLike ↔ c.enterNeg ≤ l ∨ (c.leaveNeg ≤ l ∧ prev = .gapLike) :=
  Ne.ite_eq_left_iff (by decide)

theorem classify_positive_gapLike_iff (c : DetectorConfig) (prev : LineClass) (l : Nat) :
    classify .positive c prev (some l) = .gapLike ↔ l ≤ c.enterPos ∨ (l ≤ c.leavePos ∧ prev = .gapLike) :=
  Ne.ite_eq_left_iff (by decide)

/-! ### The advance of the address (R121) -/

section
variable {a b : Address}

theorem advanceAddress_page (h : a.page ≠ 65535) : advanceAddress a 1 = ({ a with page := a.page + 1 }, false) := if_neg h
theorem advanceAddress_doc (h : a.doc ≠ 65535) :
    advanceAddress a 2 = ({ batch := a.batch, doc := a.doc + 1, page := 1 }, false) := if_neg h
theorem advanceAddress_batch (n : Nat) (h : a.batch ≠ 65535) :
    advanceAddress a (n + 3) = ({ batch := a.batch + 1, doc := 1, page := 1 }, false) := if_neg h
theorem advanceAddress_page_held (h : a.page = 65535) : advanceAddress a 1 = (a, true) := if_pos h
theorem advanceAddress_doc_held (h : a.doc = 65535) : advanceAddress a 2 = (a, true) := if_pos h
theorem advanceAddress_batch_held (n : Nat) (h : a.batch = 65535) : advanceAddress a (n + 3) = (a, true) := if_pos h

theorem addressBelow_iff : addressBelow a b = true ↔
    a.batch < b.batch ∨ a.batch = b.batch ∧ (a.doc < b.doc ∨ a.doc = b.doc ∧ a.page < b.page) := by
  simp [addressBelow]

/-- The parts of the address stay in 16 bits, and the result does not lie below the address. -/
def AdvancesTo (a b : Address) : Prop :=
  b.batch ≤ 65535 ∧ b.doc ≤ 65535 ∧ b.page ≤ 65535 ∧ addressBelow b a = false

theorem advancesTo_iff : AdvancesTo a b ↔ b.batch ≤ 65535 ∧ b.doc ≤ 65535 ∧ b.page ≤ 65535
    ∧ ¬ (b.batch < a.batch ∨ b.batch = a.batch ∧ (b.doc < a.doc ∨ b.doc = a.doc ∧ b.page < a.page)) := by
  rw [← addressBelow_iff, Bool.not_eq_true, AdvancesTo]

theorem advanceAddress_advancesTo (level : Nat) (hb : a.batch ≤ 65535) (hd : a.doc ≤ 65535) (hp : a.page ≤ 65535) :
    AdvancesTo a (advanceAddress a level).1 := by
  have hstays : AdvancesTo a a := advancesTo_iff.2 ⟨hb, hd, hp, by omega⟩
  match level with
  | 0 => exact hstays
  | 1 =>
    by_cases h : a.page = 65535
    · rwa [advanceAddress_page_held h]
    · rw [advanceAddress_page h, advancesTo_iff]
      dsimp only
      omega
  | 2 =>
    by_cases h : a.doc = 65535
    · rwa [advanceAddress_doc_held h]
    · rw [advanceAddress_doc h, advancesTo_iff]
      dsimp only
      omega
  | n + 3 =>
    by_cases h : a.batch = 65535
    · rwa [advanceAddress_batch_held n h]
    · rw [advanceAddress_batch n h, advancesTo_iff]
      dsimp only
      omega

end

/-! ### O56 -/

theorem exec_blipStartEdge (s : State) : exec .blipStartEdge s = .next (s.setDev (blipStart s.dev)) := rfl
theorem exec_blipEndEdge (s : State) : exec .blipEndEdge s = .next (s.setDev (blipEnd s.dev)) := rfl

/-- Settles O56: an edge by the cases of the run, of the open mark and of its length; the pending list by induction; the address by
the level of the mark. -/
theorem marksClassesAndAddresses : Obligations.MarksClassesAndAddresses := by
  unfold Obligations.MarksClassesAndAddresses
  refine ⟨fun s => ⟨fun hrun => ⟨?_, ?_⟩, fun hrun => ⟨?_, fun hx => ?_, fun x hx => ⟨fun hlen => ?_, ?_, ?_⟩⟩⟩, insertMark_splits,
    fun c prev l => ⟨classify_negative_gapLike_iff c prev l, classify_positive_gapLike_iff c prev l, fun _ => rfl⟩,
    fun a => ⟨rfl, fun h => advanceAddress_page h.ne, fun h => advanceAddress_doc h.ne, fun h => advanceAddress_batch 0 h.ne,
      advanceAddress_page_held, advanceAddress_doc_held, advanceAddress_batch_held 0⟩,
    fun a level => advanceAddress_advancesTo level⟩
  · rw [exec_blipStartEdge, blipStart_outsideRun hrun, setBlip_eq]
  · rw [exec_blipEndEdge, blipEnd_outsideRun hrun, setBlip_eq]
  · rw [exec_blipStartEdge, blipStart_inRun hrun, setBlip_eq]
    rfl
  · rw [exec_blipEndEdge, blipEnd_noOpenMark hrun hx, setBlip_eq]
  · rw [exec_blipEndEdge, blipEnd_ignores hrun hx (hlen.imp_right markOf_short), setBlip_eq]
  · intro level hpos hmin hroom hlevel
    rw [exec_blipEndEdge, blipEnd_offers hrun hx hpos (markOf_level hmin hlevel), offerMark_room (by exact hroom), setBlip_eq]
    rfl
  · intro hpos hmin hfull
    obtain ⟨level, hmark⟩ := markOf_isSome hmin
    rw [exec_blipEndEdge, blipEnd_offers hrun hx hpos hmark, offerMark_full (by exact hfull), setBlip_eq]
    rfl

end Sys2Proof.Proofs

/-! The frame index at the service port: INDEX_CLOSE and INDEX_REOPEN, and the import (O53, O52). -/

namespace Sys2Proof.Proofs

open Sys2Proof Sys2Proof.Machine

/-! ### Changes of the index that give no reaction its turn -/

section
variable {d : Dev} {x : FrameIndex}

/-- The reactions read no more of the index than whether the newest hint names an entry. -/
theorem settled_setIndex (h : indexedHint (d.setIndex x) = indexedHint d) : Settled (d.setIndex x) ↔ Settled d := by
  have hreaction : reaction (d.setIndex x) = none ↔ reaction d = none := by
    simp [reaction_none_iff, runReaction_none_iff, retrievalReaction_none_iff, grantReaction_none_iff, hintClaim, h]
  unfold Settled
  rw [hreaction, stopParkTimer_eq_iff, stopParkTimer_eq_iff]
  rfl

/-- A change of the index told at all three ports leaves a settled device settled. -/
theorem settle_raiseAll_setIndex (h : indexedHint (d.setIndex x) = indexedHint d) (hd : Settled d) :
    settle (raiseAll .index (d.setIndex x)) = raiseAll .index (d.setIndex x) := by
  refine settle_of_settled _ ?_
  unfold raiseAll
  rw [settled_raise, settled_raise, settled_raise, settled_setIndex h]
  exact hd

theorem failDeferred_of_empty (h : d.retrieval.queue = []) : failDeferred d = d := by
  unfold failDeferred
  rw [h]
  rfl

theorem resolveDeferred_of_empty (h : d.retrieval.queue = []) : resolveDeferred d = d := by
  unfold resolveDeferred modifyRequests
  rw [h, List.map_nil, ← h]
  rfl

end

/-! ### INDEX_CLOSE and INDEX_REOPEN -/

section
variable {d : Dev} {p : List Byte}

theorem answerIndexClose_empty (h : d.index.state = .empty) : answerIndexClose p d = refuse .state d := by
  unfold answerIndexClose
  rw [h]

theorem answerIndexClose_closed (h : d.index.state = .closed) : answerIndexClose p d = answered [] d := by
  unfold answerIndexClose
  rw [h]

theorem answerIndexClose_closes (h : d.index.state = .open_ ∨ d.index.state = .imported) :
    answerIndexClose p d = taken .ok [] (closeIndex .request d) := by
  unfold answerIndexClose
  rcases h with h | h <;> rw [h]

/-- With no request waiting, the close of an index that is not CLOSED tells the ports and does nothing else. -/
theorem closeIndex_of_empty {cause : CloseCause} (hs : d.index.state ≠ .closed) (hq : d.retrieval.queue = []) :
    closeIndex cause d = raiseAll .index (d.setIndex { d.index with state := .closed, closeCause := some cause }) := by
  unfold closeIndex
  rw [setIndexState_of_ne hs]
  exact failDeferred_of_empty hq

theorem answerIndexReopen_blocked (h : d.index.state ≠ .closed ∨ d.roll.state = .runout ∨ d.index.entries.length = 8192) :
    answerIndexReopen p d = refuse .state d := if_pos h

theorem answerIndexReopen_reopens (hs : d.index.state = .closed) (hr : d.roll.state ≠ .runout) (hl : d.index.entries.length ≠ 8192) :
    answerIndexReopen p d
      = answered [] (raiseAll .index (d.setIndex { d.index with state := .open_, closeCause := none })) := by
  refine (if_neg ?_).trans (congrArg (answered []) (setIndexState_of_ne (by simp [hs])))
  rintro (h | h | h)
  · exact h hs
  · exact hr h
  · exact hl h

end

section
variable {s : State} (tag : Byte) {p : List Byte} (x : List Byte) (ht : takes s .service p)
include ht

theorem exec_indexClose : exec (.indexClose .service (requestFrame tag p x)) s
    = nextAnswer s tag (answerIndexClose p (heard .service (requestFrame tag p x) s)) :=
  takeFrame_takes .indexClose .service tag p x answerIndexClose s ht rfl

theorem exec_indexReopen : exec (.indexReopen .service (requestFrame tag p x)) s
    = nextAnswer s tag (answerIndexReopen p (heard .service (requestFrame tag p x) s)) :=
  takeFrame_takes .indexReopen .service tag p x answerIndexReopen s ht rfl

theorem exec_indexImportBegin : exec (.indexImportBegin .service (requestFrame tag p x)) s
    = nextAnswer s tag (answerImportBegin p (heard .service (requestFrame tag p x) s)) :=
  takeFrame_takes .indexImportBegin .service tag p x answerImportBegin s ht rfl

theorem exec_indexImportEntry : exec (.indexImportEntry .service (requestFrame tag p x)) s
    = nextAnswer s tag (answerImportEntry p (heard .service (requestFrame tag p x) s)) :=
  takeFrame_takes .indexImportEntry .service tag p x answerImportEntry s ht rfl

theorem exec_indexImportEnd : exec (.indexImportEnd .service (requestFrame tag p x)) s
    = nextAnswer s tag (answerImportEnd p (heard .service (requestFrame tag p x) s)) :=
  takeFrame_takes .indexImportEnd .service tag p x answerImportEnd s ht rfl

end

/-- Settles O53, by the index state: the close of an index with no request waiting leaves the device settled. -/
theorem indexClosesAndReopens : Obligations.IndexClosesAndReopens := by
  intro s tag p x ht hset hq d becomes
  have hclose : exec (.indexClose .service (requestFrame tag p x)) s = nextAnswer s tag (answerIndexClose p d) :=
    exec_indexClose tag x ht
  have hreopen : exec (.indexReopen .service (requestFrame tag p x)) s = nextAnswer s tag (answerIndexReopen p d) :=
    exec_indexReopen tag x ht
  have hd : Settled d := (settled_heard .service _ s).2 hset
  refine ⟨fun hs => ?_, fun hs => ?_, fun hs => ?_, fun h => ?_, fun hs hr hl => ?_⟩
  · rw [hclose, answerIndexClose_empty (d := d) hs]
    rfl
  · rw [hclose, answerIndexClose_closed (d := d) hs]
    rfl
  · have hopen : d.index.state ≠ .closed := by
      show s.dev.index.state ≠ .closed
      rcases hs with hs | hs <;> simp [hs]
    rw [hclose, answerIndexClose_closes (d := d) hs, closeIndex_of_empty hopen hq]
    exact congrArg (fun e => Host.Outcome.next (answers s .service tag .ok [] e)) (settle_raiseAll_setIndex rfl hd)
  · rw [hreopen, answerIndexReopen_blocked (d := d) h]
    rfl
  · rw [hreopen, answerIndexReopen_reopens (d := d) hs hr hl]
    rfl

/-! ### The checks of an imported entry -/

theorem testBit_eq_true_iff_div_mod (n k : Nat) : n.testBit k = true ↔ n / 2 ^ k % 2 = 1 := by
  rw [Nat.testBit_eq_decide_div_mod_eq, decide_eq_true_iff]

/-- The low `k` bits are all clear exactly when `2 ^ k` divides the number. -/
theorem mod_two_pow_eq_zero_iff (n k : Nat) : n % 2 ^ k = 0 ↔ ∀ i, i < k → n.testBit i = false := by
  constructor
  · intro h i hi
    have := Nat.testBit_mod_two_pow n k i
    simpa [h, hi] using this.symm
  · intro h
    refine Nat.eq_of_testBit_eq fun i => ?_
    rw [Nat.testBit_mod_two_pow, Nat.zero_testBit]
    by_cases hi : i < k
    · simp [h i hi]
    · simp [hi]

theorem packedOk_iff (n : Nat) :
    packedOk n = true ↔ n < 32768 ∧ (n.testBit 14 = true → ∀ k, k < 12 → n.testBit k = false) := by
  rw [testBit_eq_true_iff_div_mod, ← mod_two_pow_eq_zero_iff]
  simp only [packedOk, Bool.and_eq_true, decide_eq_true_eq, Bool.not_eq_true', Bool.and_eq_false_iff, beq_eq_false_iff_ne,
    bne_eq_false_iff_eq]
  omega

theorem not_addressBelow_iff (a b : Address) : addressBelow a b = false ↔
    b.batch < a.batch ∨ (b.batch = a.batch ∧ (b.doc < a.doc ∨ (b.doc = a.doc ∧ b.page ≤ a.page))) := by
  rw [← Bool.not_eq_true, addressBelow_iff]
  omega

theorem importEntryOk_iff (declared : Nat) (received : List IndexEntry) (e : ImportedEntry) :
    importEntryOk declared received e = true ↔
      e.frame = received.length ∧ e.frame < declared ∧ 1 ≤ e.entry.length ∧ e.entry.length ≤ 1000000
        ∧ e.entry.stop ≤ 2147483647 ∧ e.packed < 32768
        ∧ (e.packed.testBit 14 = true → ∀ k, k < 12 → e.packed.testBit k = false)
        ∧ ∀ prev, received.getLast? = some prev →
          prev.stop < e.entry.start ∧ addressBelow e.entry.address prev.address = false := by
  have hnumber : e.frame = received.length ∧ received.length < declared ↔ e.frame = received.length ∧ e.frame < declared := by
    omega
  unfold importEntryOk
  simp only [Bool.and_eq_true, decide_eq_true_eq, packedOk_iff, hnumber, and_assoc]
  cases received.getLast? <;> simp [Config.maxPosition]

/-! ### The answers of the import -/

section
variable {d : Dev} {p : List Byte} {session : ImportSession}

theorem answerImportBegin_begins {record : RollRecord} (hp : 6 ≤ p.length) (hrecord : d.roll.record = some record)
    (hident : record.ident = natAt p 0 4) (hroll : d.roll.state = .threaded ∨ d.roll.state = .ready) (hs : d.index.state = .empty)
    (hrun : d.scan.run = none) (hlow : 1 ≤ natAt p 4 2) (hhigh : natAt p 4 2 ≤ 8192) :
    answerImportBegin p d = answered [] (d.setIndex { d.index with session := some { declared := natAt p 4 2, received := [] } }) := by
  have hmatch : rollMatches d (natAt p 0 4) = true := by simp [rollMatches, hrecord, hident]
  have hstate : ¬ ((d.roll.state ≠ .threaded ∧ d.roll.state ≠ .ready) ∨ d.index.state ≠ .empty
      ∨ (d.scan.run.isSome ∧ runIn d [.ended] = false)) := by
    rcases hroll with h | h <;> simp [h, hs, hrun]
  have hcount : ¬ (natAt p 4 2 = 0 ∨ Config.indexCapacity < natAt p 4 2) := by
    simp only [Config.indexCapacity]
    omega
  unfold answerImportBegin needBytes
  rw [if_neg (by omega)]
  simp only [hmatch, if_neg hstate, if_neg hcount, Bool.not_true, Bool.false_eq_true, if_false]

/-- The answer to an INDEX_IMPORT_ENTRY, once its entries are checked. -/
def importOutcome (session : ImportSession) (d : Dev) : Sum Nat (List IndexEntry) → Answer
  | .inl failing => abortImport failing d
  | .inr received =>
    answered (leBytes 2 received.length) (d.setIndex { d.index with session := some { session with received := received } })

/-- A whole INDEX_IMPORT_ENTRY of one or two entries is answered by their checks (R135). -/
theorem answerImportEntry_checks {c : Nat} (hc : natAt p 0 1 = c) (hcount : c = 1 ∨ c = 2) (hp : 1 + 19 * c ≤ p.length)
    (hsession : d.index.session = some session) :
    answerImportEntry p d
      = importOutcome session d (takeImported session.declared session.received (carriedEntries p c)) := by
  subst hc
  unfold answerImportEntry needBytes
  rw [if_neg (by omega)]
  dsimp only
  rw [if_neg (by omega), hsession]
  dsimp only
  rw [if_neg (by omega)]
  cases takeImported session.declared session.received (carriedEntries p (natAt p 0 1)) <;> rfl

theorem answerImportEntry_badCount (hp : 1 ≤ p.length) (hcount : natAt p 0 1 = 0 ∨ 2 < natAt p 0 1)
    (hsession : d.index.session = some session) : answerImportEntry p d = abortImport session.received.length d := by
  unfold answerImportEntry needBytes
  rw [if_neg (by omega)]
  dsimp only
  rw [if_neg (by omega), hsession]
  exact if_pos hcount

variable {declared : Nat} {received : List IndexEntry} {e : ImportedEntry} {rest : List ImportedEntry}

theorem takeImported_passes (h : importEntryOk declared received e = true) :
    takeImported declared received (e :: rest) = takeImported declared (received ++ [e.entry]) rest := if_pos h

theorem takeImported_fails (h : importEntryOk declared received e = false) :
    takeImported declared received (e :: rest) = .inl e.frame := if_neg (by simp [h])

/-- The entries that do not fill the table become the table, and no index is closed after them. -/
theorem finishImport_of_room {entries : List IndexEntry} (h : entries.length ≠ 8192) :
    finishImport entries d
      = resolveDeferred (setIndexState .imported none (d.setIndex { d.index with entries := entries, session := none })) :=
  if_neg h

/-- An import that is complete and does not fill the table (R136): with no request and no hint waiting nothing else is left to do. -/
theorem answerImportEnd_ends (hsession : d.index.session = some session) (hall : session.received.length = session.declared)
    (hroom : session.declared < 8192) (hs : d.index.state = .empty) (hq : d.retrieval.queue = []) (hh : d.retrieval.hints = [])
    (hset : Settled d) :
    answerImportEnd p d = { result := .ok, payload := leBytes 2 session.declared, dev := raiseAll .index (d.setIndex
      { entries := session.received, state := .imported, closeCause := none, session := none }) } := by
  have hstate : (d.setIndex { d.index with entries := session.received, session := none }).index.state ≠ .imported := by simp [hs]
  have hfinish : finishImport session.received d = raiseAll .index (d.setIndex
      { entries := session.received, state := .imported, closeCause := none, session := none }) := by
    rw [finishImport_of_room (by omega), setIndexState_of_ne hstate]
    exact resolveDeferred_of_empty hq
  have hhint (x : FrameIndex) : indexedHint (d.setIndex x) = indexedHint d := by simp [indexedHint, hh]
  unfold answerImportEnd
  rw [hsession]
  dsimp only
  rw [if_neg (by omega), hfinish, taken, settle_raiseAll_setIndex (hhint _) hset, hall]

end

/-- Settles O52: the checks of an entry one by one, then the answers by the order of the checks. -/
theorem importBuildsTheIndex : Obligations.ImportBuildsTheIndex := by
  refine ⟨fun declared received e => ?_, fun s tag p x ht => ?_⟩
  · simp only [importEntryOk_iff, not_addressBelow_iff]
    rfl
  · intro d ok
    have hentry : exec (.indexImportEntry .service (requestFrame tag p x)) s = nextAnswer s tag (answerImportEntry p d) :=
      exec_indexImportEntry tag x ht
    refine ⟨?_, ?_, ?_, fun session hp hcount hsession => ?_, fun session hsession hall hroom hs hq hh hset => ?_⟩
    · intro record hp hrecord hident hroll hs hrun hlow hhigh
      rw [exec_indexImportBegin tag x ht, answerImportBegin_begins (d := d) hp hrecord hident hroll hs hrun hlow hhigh]
      rfl
    · rintro session e hp hc hsession rfl
      rw [hentry, answerImportEntry_checks (d := d) hc (.inl rfl) hp hsession]
      refine ⟨fun h => ?_, fun h => ?_⟩
      · rw [carriedEntries, takeImported_passes h]
        simp [takeImported, importOutcome, nextAnswer, answered, ok]
      · rw [carriedEntries, takeImported_fails h]
        rfl
    · rintro session e f hp hc hsession rfl rfl fails
      have hexec : exec (.indexImportEntry .service (requestFrame tag p x)) s = nextAnswer s tag (importOutcome session d
          (takeImported session.declared session.received [importedEntryOf (p.drop 1), importedEntryOf (p.drop 20)])) := by
        rw [hentry, answerImportEntry_checks (d := d) hc (.inr rfl) hp hsession]
        rfl
      refine ⟨fun h => ?_, fun h => ⟨fun h' => ?_, fun h' => ?_⟩⟩
      · show exec _ s = _
        rw [hexec, takeImported_fails h]
        rfl
      · show exec _ s = _
        rw [hexec, takeImported_passes h, takeImported_fails h']
        rfl
      · rw [hexec, takeImported_passes h, takeImported_passes h']
        simp [takeImported, importOutcome, nextAnswer, answered, ok]
    · rw [hentry, answerImportEntry_badCount (d := d) hp hcount hsession]
      rfl
    · have hd : Settled d := (settled_heard .service _ s).2 hset
      rw [exec_indexImportEnd tag x ht, answerImportEnd_ends (d := d) hsession hall hroom hs hq hh hd]
      rfl

end Sys2Proof.Proofs

/-! The frame index at a frame close: the match, the drift report, the placement and the append (O57). -/

namespace Sys2Proof.Proofs

open Sys2Proof Sys2Proof.Machine

/-! ### The nearest candidate -/

/-- An entry that the span of a closed frame, widened by the match window, touches (R128). -/
def Candidate (m : Int) (l window : Nat) (e : IndexEntry) : Prop := e.start < m + l + window ∧ m - window < e.stop

/-- The entry at place `n` is a candidate, and no candidate starts nearer, nor as near at a lower place (R128). -/
structure Nearest (m : Int) (l window : Nat) (entries : List IndexEntry) (n : Nat) (e : IndexEntry) : Prop where
  entry : entries[n]? = some e
  candidate : Candidate m l window e
  nearest : ∀ k g, entries[k]? = some g → Candidate m l window g →
    (m - e.start).natAbs < (m - g.start).natAbs ∨ ((m - e.start).natAbs = (m - g.start).natAbs ∧ n ≤ k)

section
variable {m : Int} {l window n : Nat} {e f : IndexEntry} {rest : List IndexEntry}

theorem nearestCandidate_skips (h : ¬ Candidate m l window e) :
    nearestCandidate m l window n (e :: rest) = nearestCandidate m l window (n + 1) rest := if_neg h

theorem nearestCandidate_only (h : Candidate m l window e) (hr : nearestCandidate m l window (n + 1) rest = none) :
    nearestCandidate m l window n (e :: rest) = some (n, e) := by
  refine (if_pos h).trans ?_
  rw [hr]

theorem nearestCandidate_chooses {k : Nat} (h : Candidate m l window e)
    (hr : nearestCandidate m l window (n + 1) rest = some (k, f)) :
    nearestCandidate m l window n (e :: rest)
      = if (m - e.start).natAbs ≤ (m - f.start).natAbs then some (n, e) else some (k, f) := by
  refine (if_pos h).trans ?_
  rw [hr]

/-- The head is the nearest when it is as near as every candidate after it. -/
theorem Nearest.head (h : Candidate m l window e)
    (hrest : ∀ (k : Nat) (g : IndexEntry), rest[k]? = some g → Candidate m l window g →
      (m - e.start).natAbs ≤ (m - g.start).natAbs) :
    Nearest m l window (e :: rest) 0 e := by
  refine ⟨rfl, h, fun k g hk hg => ?_⟩
  cases k with
  | zero =>
    obtain rfl : e = g := by simpa using hk
    exact .inr ⟨rfl, le_rfl⟩
  | succ k =>
    have := hrest k g hk hg
    omega

/-- A nearest entry of the rest stays the nearest behind a head that is no candidate or starts farther off. -/
theorem Nearest.tail {j : Nat} (h : Nearest m l window rest j f)
    (he : Candidate m l window e → (m - f.start).natAbs < (m - e.start).natAbs) : Nearest m l window (e :: rest) (j + 1) f := by
  refine ⟨h.entry, h.candidate, fun k g hk hg => ?_⟩
  cases k with
  | zero =>
    obtain rfl : e = g := by simpa using hk
    exact .inl (he hg)
  | succ k =>
    have := h.nearest k g hk hg
    omega

/-- The search of R128 finds the nearest candidate, or there is none. -/
theorem nearestCandidate_spec (entries : List IndexEntry) (n : Nat) :
    (nearestCandidate m l window n entries = none ∧ ∀ e ∈ entries, ¬ Candidate m l window e)
      ∨ ∃ j e, nearestCandidate m l window n entries = some (n + j, e) ∧ Nearest m l window entries j e := by
  induction entries generalizing n with
  | nil => exact .inl ⟨rfl, by simp⟩
  | cons e rest ih =>
    by_cases hc : Candidate m l window e
    · right
      rcases ih (n + 1) with ⟨hnone, hno⟩ | ⟨j, f, hsome, hf⟩
      · exact ⟨0, e, nearestCandidate_only hc hnone, .head hc fun k g hk hg => absurd hg (hno g (List.mem_of_getElem? hk))⟩
      · rw [nearestCandidate_chooses hc hsome]
        split
        next hle =>
          refine ⟨0, e, rfl, .head hc fun k g hk hg => ?_⟩
          have := hf.nearest k g hk hg
          omega
        next hlt => exact ⟨j + 1, f, by rw [Nat.add_right_comm, Nat.add_assoc], hf.tail fun _ => by omega⟩
    · rw [nearestCandidate_skips hc]
      rcases ih (n + 1) with ⟨hnone, hno⟩ | ⟨j, f, hsome, hf⟩
      · exact .inl ⟨hnone, by simpa [hc] using hno⟩
      · exact .inr ⟨j + 1, f, by rw [hsome, Nat.add_right_comm, Nat.add_assoc], hf.tail fun h => absurd h hc⟩

end

section
variable {d : Dev} {m : Int} {l : Nat}

theorem matchEntry_of_some {n : Nat} {e : IndexEntry}
    (h : nearestCandidate m l d.roll.cfg.matchWindow 0 d.index.entries = some (n, e)) :
    matchEntry d m l = if (m - e.start).natAbs ≤ d.roll.cfg.matchWindow then some (n, e) else none := by
  unfold matchEntry
  rw [h]

/-- A frame matches the nearest candidate, when that one starts within the match window (R128). -/
theorem nearest_of_matchEntry {n : Nat} {e : IndexEntry} (h : matchEntry d m l = some (n, e)) :
    Nearest m l d.roll.cfg.matchWindow d.index.entries n e ∧ (m - e.start).natAbs ≤ d.roll.cfg.matchWindow := by
  rcases nearestCandidate_spec (m := m) (l := l) (window := d.roll.cfg.matchWindow) d.index.entries 0
    with ⟨hnone, -⟩ | ⟨j, f, hsome, hf⟩
  · simp [matchEntry, hnone] at h
  · rw [matchEntry_of_some hsome] at h
    split at h
    next hle =>
      obtain ⟨rfl, rfl⟩ : 0 + j = n ∧ f = e := by simpa using h
      exact ⟨by rwa [Nat.zero_add], hle⟩
    next => contradiction

/-- A frame that matches no entry has no candidate that starts within the match window. -/
theorem far_of_matchEntry_none (h : matchEntry d m l = none) {k : Nat} {g : IndexEntry} (hk : d.index.entries[k]? = some g)
    (hg : Candidate m l d.roll.cfg.matchWindow g) : d.roll.cfg.matchWindow < (m - g.start).natAbs := by
  rcases nearestCandidate_spec (m := m) (l := l) (window := d.roll.cfg.matchWindow) d.index.entries 0
    with ⟨-, hno⟩ | ⟨j, f, hsome, hf⟩
  · exact absurd hg (hno g (List.mem_of_getElem? hk))
  · rw [matchEntry_of_some hsome] at h
    have hfar : ¬ (m - f.start).natAbs ≤ d.roll.cfg.matchWindow := fun hle => by simp [hle] at h
    have := hf.nearest k g hk hg
    omega

end

/-! ### The answer of the index by its cases -/

section
variable {d : Dev} {run n : Nat} {f : ClosedFrame} {e : IndexEntry}

theorem indexTakes_matched (h : matchEntry d f.start f.length = some (n, e)) :
    indexTakes run f d =
      ({ kind := if (driftReport n (f.start - e.start) d).1 then .verified else .mismatch, frame := some n
         address := some e.address }, (driftReport n (f.start - e.start) d).2) := by
  unfold indexTakes
  rw [h]

theorem indexTakes_unmatched (h : matchEntry d f.start f.length = none) (hb : beyondIndex d f.start = false) :
    indexTakes run f d = ({ kind := .unmatched, frame := none, address := none }, d) := by
  unfold indexTakes
  rw [h]
  exact if_pos (by simp [hb])

theorem indexTakes_unindexed (h : matchEntry d f.start f.length = none) (hb : beyondIndex d f.start = true)
    (hs : d.index.state = .closed) : indexTakes run f d = ({ kind := .unindexed, frame := none, address := none }, d) := by
  unfold indexTakes
  rw [h]
  exact (if_neg (by simp [hb])).trans (if_pos hs)

theorem indexTakes_appends (h : matchEntry d f.start f.length = none) (hb : beyondIndex d f.start = true)
    (hs : d.index.state ≠ .closed) (ha : appendAddressOk d f = true) : indexTakes run f d = appendFrame run f d := by
  unfold indexTakes
  rw [h]
  exact (if_neg (by simp [hb])).trans ((if_neg hs).trans (if_pos ha))

theorem indexTakes_notAppended (h : matchEntry d f.start f.length = none) (hb : beyondIndex d f.start = true)
    (hs : d.index.state ≠ .closed) (ha : appendAddressOk d f = false) :
    indexTakes run f d = ({ kind := .notAppended, frame := none, address := (lastEntry d).map (·.address) }, d) := by
  unfold indexTakes
  rw [h]
  exact (if_neg (by simp [hb])).trans ((if_neg hs).trans (if_neg (by simp [ha])))

/-- A frame that matches no entry is appended beyond the last entry, or it leaves the device as it was (R129, R130). -/
theorem indexTakes_cases (h : matchEntry d f.start f.length = none) :
    (indexTakes run f d = appendFrame run f d ∧ beyondIndex d f.start = true)
      ∨ ((indexTakes run f d).2 = d ∧ (indexTakes run f d).1.frame = none
        ∧ ((indexTakes run f d).1.kind = .unmatched ∨ (indexTakes run f d).1.kind = .unindexed
          ∨ (indexTakes run f d).1.kind = .notAppended)) := by
  cases hb : beyondIndex d f.start with
  | false => simp [indexTakes_unmatched h hb]
  | true =>
    by_cases hs : d.index.state = .closed
    · simp [indexTakes_unindexed h hb hs]
    · cases ha : appendAddressOk d f with
      | true => exact .inl ⟨indexTakes_appends h hb hs ha, rfl⟩
      | false => simp [indexTakes_notAppended h hb hs ha]

/-- Only a frame that matches no entry and lies beyond the last one is appended. -/
theorem indexTakes_of_appended (h : (indexTakes run f d).1.kind = .appended) :
    indexTakes run f d = appendFrame run f d ∧ beyondIndex d f.start = true := by
  cases hm : matchEntry d f.start f.length with
  | some found =>
    rw [indexTakes_matched (n := found.1) (e := found.2) hm] at h
    dsimp only at h
    split at h <;> contradiction
  | none =>
    rcases indexTakes_cases (run := run) hm with happends | ⟨-, -, hkind⟩
    · exact happends
    · simp [h] at hkind

/-! ### The drift report under an arm -/

theorem markEntry_eq {verified : Bool} (h : d.index.entries[n]? = some e) :
    markEntry n verified d = d.setIndex
      { d.index with
        entries := d.index.entries.set n { e with flags := { e.flags with verified := verified, mismatch := !verified } } } := by
  unfold markEntry
  rw [List.modify_eq_set_getElem?, h]
  rfl

theorem driftReport_correcting {delta : Int} {a : Arm} (h : delta.natAbs ≤ d.roll.cfg.correctionWindow) (ha : d.trigger.arm = some a) :
    driftReport n delta d = (true, markEntry n true (d.setRoll { d.roll with pendingCorrection := some delta })) := by
  refine (if_pos h).trans (congrArg (Prod.mk true) (if_neg ?_))
  show ¬ (d.trigger.arm.isNone = true)
  simp [ha]

theorem driftReport_mismatch {delta : Int} (h : d.roll.cfg.correctionWindow < delta.natAbs) :
    driftReport n delta d = (false, raise .service .drift (markEntry n false d)) := if_neg (by omega)

end

/-! ### What the steps after an append leave -/

/-- The index stays, and so does an INDEX event at each port. -/
structure IndexStays (d e : Dev) : Prop where
  index : e.index = d.index
  event : ∀ port, eventSet d port .index → eventSet e port .index

section
variable {d e : Dev}

theorem IndexStays.refl (d : Dev) : IndexStays d d := ⟨rfl, fun _ => id⟩

theorem IndexStays.trans {f : Dev} (h : IndexStays d e) (h' : IndexStays e f) : IndexStays d f :=
  ⟨h'.index.trans h.index, fun port hp => h'.event port (h.event port hp)⟩

theorem indexStays_setRetrieval (x : Retrieval) : IndexStays d (d.setRetrieval x) := ⟨rfl, fun _ => id⟩
theorem indexStays_modifyRun (g : RunRecord → RunRecord) : IndexStays d (modifyRun g d) := ⟨rfl, fun _ => id⟩
theorem indexStays_raise (id : PortId) (k : EventKind) : IndexStays d (raise id k d) := ⟨rfl, fun _ => eventSet_raise id k⟩

theorem indexStays_completeRequest (r : RetrievalRequest) (result : CompletionResult) (flags : CompletionFlags) (c : Int) :
    IndexStays d (completeRequest r result flags c d) := by
  unfold completeRequest
  split
  · exact .refl d
  · dsimp only
    split
    · exact (indexStays_setRetrieval _).trans (indexStays_raise .request .done)
    · exact indexStays_setRetrieval _

theorem indexStays_completeAll (result : CompletionResult) (rs : List RetrievalRequest) :
    IndexStays d (completeAll result rs d) := by
  induction rs generalizing d with
  | nil => exact .refl d
  | cons r rest ih => exact (indexStays_completeRequest r result _ 0).trans ih

theorem indexStays_failDeferred : IndexStays d (failDeferred d) := indexStays_completeAll _ _
theorem indexStays_resolveDeferred : IndexStays d (resolveDeferred d) := indexStays_setRetrieval _

theorem indexStays_setRunState (st : RunState) : IndexStays d (setRunState st d) := by
  unfold setRunState
  split
  · exact .refl d
  · split
    · exact .refl d
    · exact (indexStays_modifyRun _).trans (indexStays_raise .capture .run)

theorem indexStays_beginSuspending (c : RunCause) : IndexStays d (beginSuspending c d) :=
  (indexStays_modifyRun _).trans (indexStays_setRunState .suspending)

/-! ### The append -/

@[simp] theorem setIndexState_index (st : IndexState) (cause : Option CloseCause) (d : Dev) :
    (setIndexState st cause d).index = { d.index with state := st, closeCause := cause } := by
  obtain ⟨ps, hps⟩ := setIndexState_eq st cause d
  rw [hps]
  rfl

theorem setIndexState_event {st : IndexState} {cause : Option CloseCause} (port : PortId) (h : d.index.state ≠ st) :
    eventSet (setIndexState st cause d) port .index := by
  rw [setIndexState_of_ne h]
  exact eventSet_raiseAll_index port _

theorem closeIndex_index (cause : CloseCause) :
    (closeIndex cause d).index = { d.index with state := .closed, closeCause := some cause } :=
  indexStays_failDeferred.index.trans (setIndexState_index _ _ _)

theorem closeIndex_event (cause : CloseCause) (port : PortId) (h : d.index.state ≠ .closed) :
    eventSet (closeIndex cause d) port .index :=
  indexStays_failDeferred.event port (setIndexState_event port h)

end

/-- The table with the frame appended and the index OPEN, before the operations that this brings about. -/
def withAppended (run : Nat) (f : ClosedFrame) (d : Dev) : Dev :=
  setIndexState .open_ none (d.setIndex { d.index with entries := d.index.entries ++ [appendedEntry run f] })

section
variable (run : Nat) (f : ClosedFrame) {d : Dev}

theorem withAppended_index : (withAppended run f d).index =
    { d.index with entries := d.index.entries ++ [appendedEntry run f], state := .open_, closeCause := none } :=
  setIndexState_index _ _ _

/-- The device after an append and what it brings about at once: the waiting requests resolved, and the run told to yield. -/
def afterAppend (d : Dev) : Dev :=
  let e := resolveDeferred (withAppended run f d)
  if runIn e [.running] && yieldDemand e then beginSuspending .yield e else e

theorem indexStays_afterAppend : IndexStays (withAppended run f d) (afterAppend run f d) := by
  unfold afterAppend
  dsimp only
  split
  · exact indexStays_resolveDeferred.trans (indexStays_beginSuspending .yield)
  · exact indexStays_resolveDeferred

theorem afterAppend_index : (afterAppend run f d).index =
    { d.index with entries := d.index.entries ++ [appendedEntry run f], state := .open_, closeCause := none } :=
  (indexStays_afterAppend run f).index.trans (withAppended_index run f)

/-- An append answers the number of entries so far; the 8,192nd entry closes the table (R130, R131). -/
theorem appendFrame_eq : appendFrame run f d = ({ kind := .appended, frame := some d.index.entries.length, address := none },
    if d.index.entries.length + 1 = 8192 then closeIndex .full (afterAppend run f d) else afterAppend run f d) := by
  have hfull : (afterAppend run f d).index.entries.length = d.index.entries.length + 1 := by
    rw [afterAppend_index, List.length_append]
    rfl
  rw [← hfull]
  rfl

/-- What an append makes of the index (R130, R131, R127). -/
structure Appends (run : Nat) (f : ClosedFrame) (d : Dev) (result : IndexAnswer × Dev) : Prop where
  answer : result.1 = { kind := .appended, frame := some d.index.entries.length, address := none }
  entries : result.2.index.entries = d.index.entries ++ [appendedEntry run f]
  opens : d.index.entries.length + 1 ≠ 8192 → result.2.index.state = .open_
  fills : d.index.entries.length + 1 = 8192 → result.2.index.state = .closed ∧ result.2.index.closeCause = some .full
  event : d.index.state ≠ .open_ ∨ d.index.entries.length + 1 = 8192 → ∀ port, eventSet result.2 port .index

theorem appendFrame_appends : Appends run f d (appendFrame run f d) := by
  rw [appendFrame_eq]
  by_cases hfull : d.index.entries.length + 1 = 8192
  · rw [if_pos hfull]
    have hopen : (afterAppend run f d).index.state ≠ .closed := by simp [afterAppend_index]
    refine ⟨rfl, ?_, fun h => absurd hfull h, fun _ => ?_, fun _ port => closeIndex_event .full port hopen⟩
    · rw [closeIndex_index, afterAppend_index]
    · rw [closeIndex_index]
      exact ⟨rfl, rfl⟩
  · rw [if_neg hfull]
    refine ⟨rfl, ?_, fun _ => ?_, fun h => absurd h hfull, fun h port => ?_⟩
    · rw [afterAppend_index]
    · rw [afterAppend_index]
    · have hclosed : d.index.state ≠ .open_ := h.resolve_right hfull
      exact (indexStays_afterAppend run f).event port (setIndexState_event port hclosed)

end

/-! ### The placement of a frame -/

section
variable {d : Dev} {run : Nat} {f : ClosedFrame} {last : IndexEntry}

theorem beyondIndex_of_last {m : Int} (h : d.index.entries.getLast? = some last) : beyondIndex d m = decide (last.stop < m) := by
  unfold beyondIndex lastEntry
  rw [h]

theorem beyondIndex_of_nil {m : Int} (h : d.index.entries = []) : beyondIndex d m = true := by
  unfold beyondIndex lastEntry
  rw [h]
  rfl

theorem appendAddressOk_of_last (h : d.index.entries.getLast? = some last) :
    appendAddressOk d f = !addressBelow f.address last.address := by
  unfold appendAddressOk lastEntry
  rw [h]

theorem appendAddressOk_of_nil (h : d.index.entries = []) : appendAddressOk d f = true := by
  unfold appendAddressOk lastEntry
  rw [h]
  rfl

/-- Spans that are ascending and apart stay so when an entry beyond the last one follows them. -/
theorem pairwise_append_of_beyond (h : d.index.entries.Pairwise (fun a b => a.stop ≤ b.start))
    (hb : beyondIndex d f.start = true) :
    (d.index.entries ++ [appendedEntry run f]).Pairwise (fun a b => a.stop ≤ b.start) := by
  refine List.pairwise_append.2 ⟨h, List.pairwise_singleton _ _, fun a ha b hb' => ?_⟩
  obtain rfl : b = appendedEntry run f := by simpa using hb'
  show a.stop ≤ f.start
  rcases List.eq_nil_or_concat d.index.entries with hnil | ⟨front, last, heq⟩
  · simp [hnil] at ha
  · have hlast : last.stop < f.start := by
      rw [beyondIndex_of_last (last := last) (by simp [heq])] at hb
      exact of_decide_eq_true hb
    rw [heq, List.concat_eq_append] at h ha
    rcases List.mem_append.1 ha with hfront | hself
    · obtain ⟨-, -, hacross⟩ := List.pairwise_append.1 h
      have hbefore : a.stop ≤ last.start := hacross a hfront last (by simp)
      have hspan : last.start ≤ last.stop := by simp [IndexEntry.stop]
      omega
    · obtain rfl : a = last := by simpa using hself
      omega

end

/-- Settles O57, by the cases of the index's answer. -/
theorem appendKeepsTheTableInOrder : Obligations.AppendKeepsTheTableInOrder := by
  refine ⟨fun d run f hpair hkind => ?_, fun d m l => ⟨fun n e h => ?_, fun h k g => far_of_matchEntry_none h⟩, ?_,
    fun d run f hm => ?_, fun d run f hm => ⟨fun last hlast hle => ?_, fun last hlast hlt hs => ?_, fun last hlast hlt hs => ?_,
      fun hnil hs => ?_⟩⟩
  · obtain ⟨happends, hb⟩ := indexTakes_of_appended hkind
    rw [happends]
    exact ⟨(appendFrame_appends run f).entries, pairwise_append_of_beyond hpair hb⟩
  · obtain ⟨hnear, hle⟩ := nearest_of_matchEntry h
    exact ⟨hnear.entry, hnear.candidate, hle, hnear.nearest⟩
  · intro d run n f e a hm ha delta marked
    have hentry : d.index.entries[n]? = some e := (nearest_of_matchEntry hm).1.entry
    refine ⟨fun hle => ?_, fun hlt => ?_⟩
    · rw [indexTakes_matched hm, driftReport_correcting hle ha]
      exact congrArg (Prod.mk _) (markEntry_eq (d := d.setRoll { d.roll with pendingCorrection := some delta }) hentry)
    · rw [indexTakes_matched hm, driftReport_mismatch hlt, markEntry_eq hentry]
      rfl
  · rcases indexTakes_cases (run := run) hm with ⟨happends, -⟩ | ⟨hdev, hframe, hkind⟩
    · rw [happends]
      exact ⟨.inl rfl, fun h => absurd rfl h, rfl⟩
    · refine ⟨.inr hkind, fun _ => ⟨hdev, hframe⟩, ?_⟩
      show noticeAddress f (indexTakes run f d).1 = f.address
      unfold noticeAddress
      rcases hkind with h | h | h <;> rw [h]
  · exact indexTakes_unmatched hm ((beyondIndex_of_last hlast).trans (decide_eq_false (not_lt.2 hle)))
  · exact indexTakes_unindexed hm ((beyondIndex_of_last hlast).trans (decide_eq_true hlt)) hs
  · have hb : beyondIndex d f.start = true := (beyondIndex_of_last hlast).trans (decide_eq_true hlt)
    refine ⟨fun hbelow => ?_, fun hbelow => ?_⟩
    · have ha : appendAddressOk d f = false := by simp [appendAddressOk_of_last hlast, addressBelow_iff.2 hbelow]
      rw [indexTakes_notAppended hm hb hs ha]
      simp [lastEntry, hlast]
    · have ha : appendAddressOk d f = true := by
        rw [appendAddressOk_of_last hlast, Bool.not_eq_true', ← Bool.not_eq_true]
        exact fun h => hbelow (addressBelow_iff.1 h)
      rw [indexTakes_appends hm hb hs ha]
      obtain ⟨hanswer, hentries, hopens, hfills, hevent⟩ := appendFrame_appends (d := d) run f
      exact ⟨hanswer, hentries, hopens, hfills, hevent⟩
  · rw [indexTakes_appends hm (beyondIndex_of_nil hnil) hs (appendAddressOk_of_nil hnil)]
    obtain ⟨hanswer, hentries, hopens, hfills, hevent⟩ := appendFrame_appends (d := d) run f
    exact ⟨hanswer, hentries, hopens, hfills, hevent⟩

end Sys2Proof.Proofs

/-! The requests that are answered from state, with the STATUS and SLOT_READ records (O12). -/

namespace Sys2Proof.Proofs

open Sys2Proof Sys2Proof.Machine

/-! ### Records as fields one after another -/

@[simp] theorem length_leBytes (n v : Nat) : (leBytes n v).length = n := by
  induction n generalizing v with
  | zero => rfl
  | succ n ih => exact congrArg (· + 1) (ih (v / 256))

@[simp] theorem length_leSigned (n : Nat) (v : Int) : (leSigned n v).length = n := length_leBytes n _

@[simp] theorem length_optBytes (n : Nat) (v : Option Nat) : (optBytes n v).length = n := by
  cases v <;> exact length_leBytes n _

@[simp] theorem length_slotStatusByte (g : GuardSlot) : (slotStatusByte g).length = 1 := length_leBytes 1 _

/-- The bytes that a record holds from an offset on. -/
def HoldsAt (record : List Byte) (offset : Nat) (bytes : List Byte) : Prop := (record.drop offset).take bytes.length = bytes

/-- A field of a record stands behind the widths of the fields before it. -/
theorem holdsAt_flatten {fields : List (List Byte)} {widths : List Nat} (hw : fields.map List.length = widths) {k : Nat}
    {bytes : List Byte} (hk : fields[k]? = some bytes) : HoldsAt fields.flatten (widths.take k).sum bytes := by
  obtain ⟨hlt, rfl⟩ := List.getElem?_eq_some_iff.1 hk
  have hsplit : fields.flatten = (fields.take k).flatten ++ (fields[k] ++ (fields.drop (k + 1)).flatten) := by
    conv_lhs => rw [← List.take_append_drop k fields, List.drop_eq_getElem_cons hlt, List.flatten_append, List.flatten_cons]
  have hoffset : (widths.take k).sum = (fields.take k).flatten.length := by
    rw [List.length_flatten, List.map_take, hw]
  unfold HoldsAt
  rw [hsplit, hoffset, List.drop_left, List.take_left]

/-! ### The STATUS record -/

/-- The fields of the STATUS record, in the order of section 11.4. -/
def statusFields (d : Dev) : List (List Byte) :=
  [leBytes 1 (rollStateCode d.roll.state), leBytes 1 d.roll.datum.toNat, leSigned 4 d.metering.counter
    , leSigned 2 d.roll.lastCorrection, leBytes 1 (motionStateCode d.transport.motion), leBytes 1 (motionCauseCode d.transport)
    , leBytes 1 (ownerCode d.transport.grant), leBytes 1 (runStateCode (runState d))
    , optBytes 1 ((d.scan.run.bind (·.cause)).map runCauseCode), leBytes 1 (indexStateCode d.index.state)
    , optBytes 1 (d.index.closeCause.map closeCauseCode), leBytes 2 d.index.entries.length, leBytes 1 d.retrieval.queue.length
    , leBytes 1 d.retrieval.completions.length, leBytes 1 (lensStateCode d.focus.lens.state), leBytes 2 d.focus.lens.step
    , leBytes 1 (focusOutcomeCode d.focus.outcome), optBytes 4 d.focus.bestScore, slotStatusByte d.guard.slot0
    , slotStatusByte d.guard.slot1, slotStatusByte d.guard.slot2, slotStatusByte d.guard.slot3]

/-- The widths of the fields of the STATUS record. -/
def statusWidths : List Nat := [1, 1, 4, 2, 1, 1, 1, 1, 1, 1, 1, 2, 1, 1, 1, 2, 1, 4, 1, 1, 1, 1]

section
variable (d : Dev)

theorem statusRecord_eq : statusRecord d = (statusFields d).flatten := by
  unfold statusRecord statusFields
  simp only [List.flatten_cons, List.flatten_nil, List.append_assoc, List.append_nil]

theorem statusFields_widths : (statusFields d).map List.length = statusWidths := by
  simp only [statusFields, statusWidths, List.map_cons, List.map_nil, length_leBytes, length_leSigned, length_optBytes,
    length_slotStatusByte]

theorem length_statusRecord : (statusRecord d).length = 31 := by
  rw [statusRecord_eq, List.length_flatten, statusFields_widths]
  rfl

variable {d}

theorem statusRecord_holds (k : Nat) {bytes : List Byte} (hk : (statusFields d)[k]? = some bytes) :
    HoldsAt (statusRecord d) (statusWidths.take k).sum bytes := by
  rw [statusRecord_eq]
  exact holdsAt_flatten (statusFields_widths d) hk

/-- The cause field while HALTED (R22). -/
theorem motionCauseCode_halted {c : HaltCause} (h : d.transport.motion = .halted) (hc : d.transport.haltCause = some c) :
    motionCauseCode d.transport = haltCauseCode c := by
  unfold motionCauseCode
  rw [h, hc]

/-- The cause field in every other motion state (R22). -/
theorem motionCauseCode_outcome (h : d.transport.motion ≠ .halted) :
    motionCauseCode d.transport = (d.transport.serviceOutcome.map outcomeCode).getD 0 := by
  unfold motionCauseCode
  cases hm : d.transport.motion with
  | halted => exact absurd hm h
  | _ => cases d.transport.serviceOutcome <;> rfl

theorem slotStatusByte_eq (g : GuardSlot) :
    slotStatusByte g = leBytes 1 (slotStateCode g.state + if g.trip = .tripped then 16 else 0) := by
  unfold slotStatusByte
  cases g.trip <;> rfl

theorem statusRecord_holds_slot (n : Fin 4) : HoldsAt (statusRecord d) (27 + n.val) (slotStatusByte (d.guard.get n)) := by
  match n with
  | 0 => exact statusRecord_holds 18 rfl
  | 1 => exact statusRecord_holds 19 rfl
  | 2 => exact statusRecord_holds 20 rfl
  | 3 => exact statusRecord_holds 21 rfl

end

/-! ### The SLOT_READ record -/

@[simp] theorem length_slotRecordBytes (r : SlotRecord) : (slotRecordBytes r).length = 23 := by simp [slotRecordBytes]

@[simp] theorem length_lastSampleBytes (v : Option Int) : (lastSampleBytes v).length = 4 := by cases v <;> rfl

/-- The fields of the answer of SLOT_READ (Table 11-2). -/
def slotReadFields (n : Fin 4) (g : GuardSlot) : List (List Byte) :=
  [leBytes 1 n.val, slotRecordBytes g.record, leBytes 1 (slotStateCode g.state), leBytes 1 (tripCode g.trip), leBytes 1 g.runCount
    , lastSampleBytes g.lastSample]

section
variable (n : Fin 4) (g : GuardSlot)

theorem slotReadBytes_eq : slotReadBytes n g = (slotReadFields n g).flatten := by
  simp [slotReadBytes, slotReadFields]

theorem slotReadFields_widths : (slotReadFields n g).map List.length = [1, 23, 1, 1, 1, 4] := by
  simp [slotReadFields]

theorem length_slotReadBytes : (slotReadBytes n g).length = 31 := by
  rw [slotReadBytes_eq, List.length_flatten, slotReadFields_widths]
  rfl

variable {n g}

theorem slotReadBytes_holds (k : Nat) {bytes : List Byte} (hk : (slotReadFields n g)[k]? = some bytes) :
    HoldsAt (slotReadBytes n g) (([1, 23, 1, 1, 1, 4] : List Nat).take k).sum bytes := by
  rw [slotReadBytes_eq]
  exact holdsAt_flatten (slotReadFields_widths n g) hk

end

theorem tripByte_eq (t : TripStatus) : leBytes 1 (tripCode t) = [if t = .tripped then 1 else 0] := by cases t <;> rfl

/-! ### INDEX_READ and INDEX_FIND -/

section
variable {d : Dev} {p : List Byte}

theorem answerIndexRead_badCount (hp : 3 ≤ p.length) (h : natAt p 2 1 < 1 ∨ 2 < natAt p 2 1) :
    answerIndexRead p d = refuse .badValue d :=
  (if_neg (by omega)).trans (if_pos (by omega))

theorem answerIndexRead_beyond (hp : 3 ≤ p.length) (hlow : 1 ≤ natAt p 2 1) (hhigh : natAt p 2 1 ≤ 2)
    (h : d.index.entries.length ≤ natAt p 0 2) : answerIndexRead p d = refuse .notFound d :=
  (if_neg (by omega)).trans ((if_neg (by omega)).trans (if_pos h))

theorem answerIndexRead_reads (hp : 3 ≤ p.length) (hlow : 1 ≤ natAt p 2 1) (hhigh : natAt p 2 1 ≤ 2)
    (h : natAt p 0 2 < d.index.entries.length) :
    answerIndexRead p d = answered
      (leBytes 1 (indexStateCode d.index.state) ++ leBytes 2 d.index.entries.length
        ++ entriesBytes (natAt p 0 2) ((d.index.entries.drop (natAt p 0 2)).take (natAt p 2 1))) d :=
  (if_neg (by omega)).trans ((if_neg (by omega)).trans (if_neg (by omega)))

end

section
variable {q : IndexEntry → Bool}

theorem findFrom_none {entries : List IndexEntry} (n : Nat) (h : ∀ e ∈ entries, q e = false) : findFrom q n entries = none := by
  induction entries generalizing n with
  | nil => rfl
  | cons e rest ih =>
    obtain ⟨he, hrest⟩ := List.forall_mem_cons.1 h
    exact (if_neg (by simp [he])).trans (ih (n + 1) hrest)

theorem findFrom_first {entries : List IndexEntry} {j : Nat} {e : IndexEntry} (n : Nat) (hj : entries[j]? = some e) (he : q e = true)
    (hbefore : ∀ (k : Nat) (f : IndexEntry), k < j → entries[k]? = some f → q f = false) :
    findFrom q n entries = some (n + j, e) := by
  induction entries generalizing n j with
  | nil => simp at hj
  | cons f rest ih =>
    cases j with
    | zero =>
      obtain rfl : f = e := by simpa using hj
      exact if_pos he
    | succ j =>
      have hf : q f = false := hbefore 0 f (Nat.succ_pos j) rfl
      have hrest := ih (n + 1) (j := j) hj fun k g hk hg => hbefore (k + 1) g (Nat.succ_lt_succ hk) hg
      rw [Nat.add_right_comm, Nat.add_assoc] at hrest
      exact (if_neg (by simp [hf])).trans hrest

end

section
variable {d : Dev} {p : List Byte}

/-- The address that an INDEX_FIND names (Table 11-2). -/
def soughtAddress (p : List Byte) : Address := { batch := natAt p 0 2, doc := natAt p 2 2, page := natAt p 4 2 }

/-- The condition of the lookup fails at an entry that has no mark, or another address (R139). -/
theorem findCondition_false {e : IndexEntry} {a : Address} (h : 0 < e.markLevel → e.address ≠ a) :
    (e.address == a && decide (0 < e.markLevel)) = false := by
  rw [Bool.and_eq_false_iff, beq_eq_false_iff_ne, decide_eq_false_iff_not]
  exact or_iff_not_imp_right.2 fun hm => h (not_not.1 hm)

theorem answerIndexFind_notFound (hp : 6 ≤ p.length)
    (h : ∀ e ∈ d.index.entries, 0 < e.markLevel → e.address ≠ soughtAddress p) : answerIndexFind p d = refuse .notFound d := by
  have hfind : findAddress d (soughtAddress p) = none :=
    findFrom_none 0 fun e he => findCondition_false (h e he)
  unfold soughtAddress at hfind
  unfold answerIndexFind needBytes
  rw [if_neg (by omega)]
  dsimp only
  rw [hfind]

theorem answerIndexFind_found {n : Nat} {e : IndexEntry} (hp : 6 ≤ p.length) (hn : d.index.entries[n]? = some e)
    (hmark : 0 < e.markLevel) (he : e.address = soughtAddress p)
    (hfirst : ∀ (k : Nat) (f : IndexEntry), k < n → d.index.entries[k]? = some f → 0 < f.markLevel → f.address ≠ e.address) :
    answerIndexFind p d = answered (entryBytes n e) d := by
  have hfind : findAddress d (soughtAddress p) = some (n, e) := by
    rw [← he, ← Nat.zero_add n]
    exact findFrom_first 0 hn (by simp [hmark]) fun k f hk hf => findCondition_false (hfirst k f hk hf)
  unfold soughtAddress at hfind
  unfold answerIndexFind needBytes
  rw [if_neg (by omega)]
  dsimp only
  rw [hfind]

/-! ### SLOT_READ, SCRIPT_READ and CONFIG_READ -/

theorem answerSlotRead_eq {n : Fin 4} (hp : 1 ≤ p.length) (hn : natAt p 0 1 = n.val) :
    answerSlotRead p d = answered (slotReadBytes n (d.guard.get n)) d := by
  refine (if_neg (Nat.not_lt.2 hp)).trans ?_
  rw [slotOf_eq hn]

theorem load_eq_map (m : List Host.Cell) (a n : Nat) :
    Memory.load m a n = (List.range n).map fun j => Memory.read m ((a + j) % 256) := by
  induction n generalizing a with
  | zero => rfl
  | succ n ih =>
    rw [List.range_succ_eq_map, List.map_cons, List.map_map, Memory.load, ih (a + 1)]
    refine congrArg _ (List.map_congr_left fun j _ => ?_)
    show Memory.read m ((a + 1 + j) % 256) = Memory.read m ((a + (j + 1)) % 256)
    rw [Nat.add_assoc, Nat.add_comm 1 j]

theorem answerScriptRead_reads (hp : 2 ≤ p.length) (hlow : 1 ≤ natAt p 1 1) (hhigh : natAt p 1 1 ≤ 56) :
    answerScriptRead p d
      = answered ((List.range (natAt p 1 1)).map fun j => Memory.read d.guard.script ((natAt p 0 1 + j) % 256)) d := by
  rw [← load_eq_map]
  exact (if_neg (by omega)).trans (if_pos (decide_eq_true ⟨hlow, hhigh⟩))

theorem configItemId_of_configItemOf {b : Byte} {c : ConfigItem} (h : configItemOf b = some c) :
    BitVec.ofNat 8 (configItemId c) = b := by
  have hid : configItemId c = b.toNat := by simpa using List.find?_some h
  rw [hid, BitVec.ofNat_toNat, BitVec.setWidth_eq]

theorem answerConfigRead_reads {b : Byte} {c : ConfigItem} (hb : p.head? = some b) (hc : configItemOf b = some c) :
    answerConfigRead p d = answered (b :: configBytes d c) d := by
  obtain ⟨rest, rfl⟩ : ∃ rest, p = b :: rest := by
    cases p with
    | nil => simp at hb
    | cons a rest => exact ⟨rest, by simpa using hb⟩
  have hlen : ¬ (b :: rest).length < 1 := Nat.not_lt.2 (Nat.succ_pos _)
  have hstored : stored c d = answered (b :: configBytes d c) d := by
    rw [stored, configAnswer, configItemId_of_configItemOf hc]
  unfold answerConfigRead needBytes
  rw [if_neg hlen]
  dsimp only
  rw [List.headD_cons, hc]
  exact hstored

end

/-- A reading request that its port takes and carries is answered over the device as it stands. -/
theorem takeFrame_reads {r : Request} {port : PortId} {s : State} {p : List Byte} {h : Handler} {result : Result}
    {payload : List Byte} (tag : Byte) (x : List Byte) (ht : takes s port p) (hr : permitted r port = true)
    (ha : h p (heard port (requestFrame tag p x) s)
      = { result := result, payload := payload, dev := heard port (requestFrame tag p x) s }) :
    onDev (takeFrame (some r) port (requestFrame tag p x) h) s
      = .next (answers s port tag result payload (heard port (requestFrame tag p x) s)) := by
  rw [takeFrame_takes r port tag p x h s ht hr, ha]

/-- Settles O12, by the answer of each request and by the fields of the two records. -/
theorem readsAnswerFromState : Obligations.ReadsAnswerFromState := by
  intro s port tag p x ht
  refine ⟨takeFrame_reads tag x ht rfl rfl, ?_, ⟨rfl, rfl, rfl, rfl, rfl, rfl, rfl, rfl, rfl, rfl, rfl, rfl⟩,
    takeFrame_reads tag x ht rfl rfl, ?_, fun hp h => takeFrame_reads tag x ht rfl (answerIndexRead_badCount hp h),
    fun hp hlow hhigh h => takeFrame_reads tag x ht rfl (answerIndexRead_beyond hp hlow hhigh h), ?_, ?_, ?_, fun n g => ?_, ?_, ?_⟩
  · intro d holds
    refine ⟨length_statusRecord d, statusRecord_holds 0 rfl, ?_, statusRecord_holds 2 rfl, statusRecord_holds 3 rfl,
      statusRecord_holds 4 rfl, fun c hm hc => ?_, fun o hm ho => ?_, fun hm ho => ?_, statusRecord_holds 6 rfl,
      statusRecord_holds 7 rfl, fun r c hr hc => ?_, fun hr => ?_, statusRecord_holds 9 rfl, fun c hc => ?_, fun hc => ?_,
      statusRecord_holds 11 rfl, statusRecord_holds 12 rfl, statusRecord_holds 13 rfl, statusRecord_holds 14 rfl,
      statusRecord_holds 15 rfl, statusRecord_holds 16 rfl, fun b hb => ?_, fun hb => ?_, fun n => ?_⟩
    · rw [show [if d.roll.datum = true then (1 : Byte) else 0] = leBytes 1 d.roll.datum.toNat by cases d.roll.datum <;> rfl]
      exact statusRecord_holds 1 rfl
    · rw [← motionCauseCode_halted hm hc]
      exact statusRecord_holds 5 rfl
    · have hcode : motionCauseCode d.transport = outcomeCode o := by rw [motionCauseCode_outcome hm, ho]; rfl
      rw [← hcode]
      exact statusRecord_holds 5 rfl
    · have hcode : motionCauseCode d.transport = 0 := by rw [motionCauseCode_outcome hm, ho]; rfl
      exact statusRecord_holds 5 (by rw [statusFields, hcode]; rfl)
    · have hcause : d.scan.run.bind (·.cause) = some c := by rw [hr]; exact hc
      exact statusRecord_holds 8 (by rw [statusFields, hcause]; rfl)
    · have hcause : d.scan.run.bind (·.cause) = none := by
        cases hrun : d.scan.run with
        | none => rfl
        | some r => exact hr r hrun
      exact statusRecord_holds 8 (by rw [statusFields, hcause]; rfl)
    · exact statusRecord_holds 10 (by rw [statusFields, hc]; rfl)
    · exact statusRecord_holds 10 (by rw [statusFields, hc]; rfl)
    · exact statusRecord_holds 17 (by rw [statusFields, hb]; rfl)
    · exact statusRecord_holds 17 (by rw [statusFields, hb]; rfl)
    · rw [← slotStatusByte_eq]
      exact statusRecord_holds_slot n
  · rintro n c hp rfl rfl hlow hhigh hn
    exact takeFrame_reads tag x ht rfl (answerIndexRead_reads hp hlow hhigh hn)
  · rintro rfl hp hno
    exact takeFrame_reads tag x ht rfl (answerIndexFind_notFound hp hno)
  · rintro n e rfl hp hn hmark he hfirst
    exact takeFrame_reads tag x ht rfl (answerIndexFind_found hp hn hmark he hfirst)
  · rintro n rfl hp hn
    exact takeFrame_reads tag x ht rfl (answerSlotRead_eq hp hn)
  · intro holds
    refine ⟨length_slotReadBytes n g, slotReadBytes_holds 0 rfl, slotReadBytes_holds 1 rfl, slotReadBytes_holds 2 rfl, ?_,
      slotReadBytes_holds 4 rfl, fun v hv => ?_, fun hv => ?_⟩
    · rw [← tripByte_eq]
      exact slotReadBytes_holds 3 rfl
    · exact slotReadBytes_holds 5 (by rw [slotReadFields, hv]; rfl)
    · exact slotReadBytes_holds 5 (by rw [slotReadFields, hv]; rfl)
  · rintro offset c rfl hp rfl rfl hlow hhigh
    exact takeFrame_reads tag x ht rfl (answerScriptRead_reads hp hlow hhigh)
  · rintro b c rfl hb hc
    exact takeFrame_reads tag x ht rfl (answerConfigRead_reads hb hc)

end Sys2Proof.Proofs

/-! The notice queue, the completion list and their records, and a frame close in a RUNNING run: O46 (R150, R151, R156, R173). -/

namespace Sys2Proof.Proofs

open Sys2Proof Sys2Proof.Machine

/-! ### NOTICES_READ and COMPLETIONS_READ -/

section
variable {d : Dev} {p : List Byte}

theorem answerNoticesRead_empty (h : d.scan.notices = []) : answerNoticesRead p d = refuse .notFound d := by
  unfold answerNoticesRead
  rw [h]

/-- The oldest notice leaves the queue, and the backlog hold ends at 8 or fewer (R151). -/
theorem answerNoticesRead_oldest {n : Notice} {rest : List Notice} (h : d.scan.notices = n :: rest) :
    answerNoticesRead p d = taken .ok (leBytes 1 rest.length ++ noticeBytes n)
      (d.setScan { d.scan with notices := rest, backlog := d.scan.backlog && decide (8 < rest.length) }) := by
  unfold answerNoticesRead
  rw [h]
  rfl

theorem answerCompletionsRead_empty (h : d.retrieval.completions = []) : answerCompletionsRead p d = refuse .notFound d :=
  if_pos (List.isEmpty_iff.2 h)

/-- The first four completion records leave the list (R173). -/
theorem answerCompletionsRead_first (h : d.retrieval.completions ≠ []) :
    answerCompletionsRead p d = answered
      (leBytes 1 (d.retrieval.completions.length - 4) ++ (d.retrieval.completions.take 4).flatMap completionBytes)
      (d.setRetrieval { d.retrieval with completions := d.retrieval.completions.drop 4 }) := by
  rw [← List.length_drop]
  exact if_neg (mt List.isEmpty_iff.1 h)

end

theorem exec_noticesRead {s : State} (tag : Byte) {p : List Byte} (x : List Byte) (ht : takes s .capture p) {a : Answer}
    (ha : answerNoticesRead p (heard .capture (requestFrame tag p x) s) = a) :
    exec (.noticesRead .capture (requestFrame tag p x)) s = .next (answers s .capture tag a.result a.payload a.dev) :=
  ha ▸ takeFrame_takes .noticesRead .capture tag p x answerNoticesRead s ht rfl

theorem exec_completionsRead {s : State} (tag : Byte) {p : List Byte} (x : List Byte) (ht : takes s .request p) {a : Answer}
    (ha : answerCompletionsRead p (heard .request (requestFrame tag p x) s) = a) :
    exec (.completionsRead .request (requestFrame tag p x)) s = .next (answers s .request tag a.result a.payload a.dev) :=
  ha ▸ takeFrame_takes .completionsRead .request tag p x answerCompletionsRead s ht rfl

/-! ### A notice queued -/

section
variable (n : Notice) (d : Dev)

theorem pushNotice_scan :
    (pushNotice n d).scan
      = { d.scan with notices := d.scan.notices ++ [n], backlog := d.scan.backlog || decide (28 ≤ d.scan.notices.length + 1) } := by
  have hlength : (d.scan.notices ++ [n]).length = d.scan.notices.length + 1 := by simp
  rw [← hlength]
  unfold pushNotice
  dsimp only
  split <;> rfl

variable {d}

theorem pushNotice_raises (h : d.scan.notices = []) : eventSet (pushNotice n d) .capture .notice := by
  unfold pushNotice
  rw [h]
  exact raise_sets .capture .notice _ (by decide)

theorem pushNotice_ports (h : d.scan.notices ≠ []) : (pushNotice n d).ports = d.ports := by
  unfold pushNotice
  dsimp only
  rw [if_neg (mt List.isEmpty_iff.1 h)]
  rfl

theorem pushNotice_trigger : (pushNotice n d).trigger = d.trigger := by
  obtain ⟨b, ps, h⟩ := pushNotice_eq n d
  rw [h]
  rfl

end

/-! ### A close taken by the scan run controller -/

section
variable {d : Dev} {f : ClosedFrame} {i : IndexAnswer} {r : RunRecord}

/-- The record of a run with the closed frame counted and its boundary point (R150). -/
def frameCounted (f : ClosedFrame) (r : RunRecord) : RunRecord :=
  { r with framesClosed := r.framesClosed + 1, boundary := some { position := f.boundary, state := f.resumeState } }

/-- The close noticed and counted, before the run acts on it (R150). -/
def closeNoted (f : ClosedFrame) (i : IndexAnswer) (r : RunRecord) (d : Dev) : Dev :=
  modifyRun (fun r' => { r' with framesClosed := r.framesClosed + 1, boundary := some { position := f.boundary, state := f.resumeState } })
    (pushNotice (frameNotice r.number f i) (setGate false d))

/-- Whether so many closed frames reach the frame count of an end condition (R156). -/
def countReached (n : Nat) : EndCondition → Bool
  | .frameCount k => decide (k ≤ n)
  | _ => false

theorem countReached_iff (n : Nat) (e : EndCondition) : countReached n e = true ↔ ∃ k, e = .frameCount k ∧ k ≤ n := by
  cases e <;> simp [countReached]

theorem closeNoted_scan (hr : d.scan.run = some r) :
    (closeNoted f i r d).scan
      = { d.scan with
          run := some (frameCounted f r), gate := false, notices := d.scan.notices ++ [frameNotice r.number f i]
          backlog := d.scan.backlog || decide (28 ≤ d.scan.notices.length + 1) } := by
  unfold closeNoted modifyRun
  rw [Dev.setScan_scan, pushNotice_scan]
  simp [setGate, hr, frameCounted]

theorem closeNoted_trigger : (closeNoted f i r d).trigger = d.trigger := pushNotice_trigger _

/-- A close in its three outcomes: the count reached, a suspension completed, a backlog hold begun (R150). -/
theorem scanTakesClose_eq (hr : d.scan.run = some r) :
    scanTakesClose f i d = if countReached (r.framesClosed + 1) r.endCondition then endAtCount (closeNoted f i r d)
      else if r.state = .suspending then completeSuspension (closeNoted f i r d)
      else if r.state = .running ∧ d.scan.backlog = false ∧ 28 ≤ d.scan.notices.length + 1
        then beginSuspending .backlog (closeNoted f i r d)
      else closeNoted f i r d := by
  have hscan := closeNoted_scan (f := f) (i := i) hr
  have hin : ∀ st, runIn (closeNoted f i r d) [st] = decide (r.state = st) := fun st => by
    unfold runIn
    rw [hscan]
    simp [frameCounted, List.contains_eq_mem]
  have hfull : (closeNoted f i r d).scan.backlog = (d.scan.backlog || decide (28 ≤ d.scan.notices.length + 1)) := by rw [hscan]
  unfold scanTakesClose
  rw [hr]
  show (if countReached (r.framesClosed + 1) r.endCondition then endAtCount (closeNoted f i r d)
    else if runIn (closeNoted f i r d) [.suspending] then completeSuspension (closeNoted f i r d)
    else if runIn (closeNoted f i r d) [.running] && (closeNoted f i r d).scan.backlog && !d.scan.backlog
      then beginSuspending .backlog (closeNoted f i r d)
    else closeNoted f i r d) = _
  rw [hin, hin, hfull]
  cases d.scan.backlog <;> simp

/-- A disarm inside a close hands no frame on: the notices stay, and the gate with them where it is off. -/
theorem disarm_atClose (why : DisarmCause) (d : Dev) :
    (disarm why true d).scan.notices = d.scan.notices ∧ (d.scan.gate = false → (disarm why true d).scan.gate = false) := by
  cases ha : d.trigger.arm with
  | none =>
    rw [disarm_of_unarmed why true d ha]
    exact ⟨rfl, id⟩
  | some a =>
    rw [disarm_armed why true ha, disarmSteps, dropBoundary_saveLine, show handOnFrame true d = d from if_neg (by simp)]
    exact ⟨applyPending_notices _, fun _ => applyPending_gate _⟩

/-- What a disarm leaves of the run's record: the line counter, the boundary and the correction touch nothing else. -/
theorem disarm_keepsRun (why : DisarmCause) (atClose : Bool) (hr : d.scan.run = some r) :
    ∃ n b q, (disarm why atClose d).scan.run = some { r with savedLine := n, boundary := b, resume := q }
      ∧ (d.roll.pendingCorrection = none → q = r.resume) := by
  cases ha : d.trigger.arm with
  | none =>
    rw [disarm_of_unarmed why atClose d ha]
    exact ⟨r.savedLine, r.boundary, r.resume, hr, fun _ => rfl⟩
  | some a =>
    have hrun := (disarm_disarmed why atClose ha (pending_getD d)).run
    rw [hr] at hrun
    exact ⟨_, _, _, hrun, fun hp => by simp [hp]⟩

/-- At its frame count the run is ENDING with cause COMPLETE (R156). -/
theorem endAtCount_run (hr : d.scan.run = some r) (hs : r.state ≠ .ending) :
    (endAtCount d).trigger.arm = none ∧ (endAtCount d).scan.notices = d.scan.notices
      ∧ (d.scan.gate = false → (endAtCount d).scan.gate = false)
      ∧ ∃ r', (endAtCount d).scan.run = some r' ∧ r'.state = .ending ∧ r'.cause = some .complete ∧ r'.framesClosed = r.framesClosed := by
  obtain ⟨n, b, q, hrun, -⟩ := disarm_keepsRun .command true hr
  obtain ⟨hnotices, hgate⟩ := disarm_atClose .command d
  have hstop := (giveStop_sameScan (o := .scan) (.refl (disarm .command true d))).scan
  unfold endAtCount
  rw [beginEnding_eq .complete (d := giveStop .scan (disarm .command true d)) (r := { r with savedLine := n, boundary := b, resume := q })
    (by rw [hstop]; exact hrun) hs]
  refine ⟨giveStop_arm (disarm_unarms _ _ _), ?_, fun h => ?_, _, rfl, rfl, rfl, rfl⟩
  · exact (congrArg (·.notices) hstop).trans hnotices
  · exact (congrArg (·.gate) hstop).trans (hgate h)

/-- A run that leaves another state for SUSPENDING raises RUN (R152). -/
theorem beginSuspending_eq (c : RunCause) (hr : d.scan.run = some r) (hs : r.state ≠ .suspending) :
    beginSuspending c d = raise .capture .run (d.setScan { d.scan with run := some { r with cause := some c, state := .suspending } }) := by
  unfold beginSuspending setRunState setRunCause modifyRun
  rw [hr]
  exact if_neg hs

end

/-! ### The records -/

/-- The fields of the frame notice, in the order of section 11.4. -/
def noticeFields (n : Notice) : List (List Byte) :=
  [leBytes 1 n.run, leBytes 1 (noticeKindCode n.kind), optBytes 2 n.frame, leBytes 4 n.firstLine, leBytes 4 n.lastLine
    , leSigned 4 n.start, leBytes 3 n.length, leBytes 2 n.address.batch, leBytes 2 n.address.doc, leBytes 2 n.address.page
    , packedStep n.focusStep n.markLevel, leBytes 2 (frameFlagBits n.flags), leBytes 1 (matchKindCode n.matchKind)]

/-- The widths of the fields of the frame notice. -/
def noticeWidths : List Nat := [1, 1, 2, 4, 4, 4, 3, 2, 2, 2, 2, 2, 1]

/-- The fields of the completion record, in the order of section 11.4. -/
def completionFields (c : Completion) : List (List Byte) :=
  [leBytes 1 c.ticket, leBytes 1 (completionResultCode c.result), leBytes 1 (completionFlagBits c.flags), optBytes 2 c.frame
    , leSigned 4 c.position, leSigned 2 c.correction, leBytes 2 c.lensStep]

/-- The widths of the fields of the completion record. -/
def completionWidths : List Nat := [1, 1, 1, 2, 4, 2, 2]

/-- An absent number is sent as all ones (R195). -/
theorem optBytes_two (v : Option Nat) : optBytes 2 v = leBytes 2 (v.getD 0xFFFF) := by cases v <;> rfl

theorem packedStep_eq (step : Option Nat) (level : Nat) : packedStep step level = leBytes 2 (step.getD 16384 + 4096 * level) := by
  cases step <;> rfl

section
variable (n : Notice) (c : Completion)

theorem noticeBytes_eq : noticeBytes n = (noticeFields n).flatten := by simp [noticeBytes, noticeFields, addressBytes]

theorem noticeFields_widths : (noticeFields n).map List.length = noticeWidths := by
  simp [noticeFields, noticeWidths, packedStep_eq]

theorem length_noticeBytes : (noticeBytes n).length = 30 := by
  rw [noticeBytes_eq, List.length_flatten, noticeFields_widths]
  rfl

theorem completionBytes_eq : completionBytes c = (completionFields c).flatten := by simp [completionBytes, completionFields]

theorem completionFields_widths : (completionFields c).map List.length = completionWidths := by
  simp [completionFields, completionWidths]

theorem length_completionBytes : (completionBytes c).length = 13 := by
  rw [completionBytes_eq, List.length_flatten, completionFields_widths]
  rfl

variable {n c}

theorem noticeBytes_holds (k : Nat) {bytes : List Byte} (hk : (noticeFields n)[k]? = some bytes) :
    HoldsAt (noticeBytes n) (noticeWidths.take k).sum bytes := by
  rw [noticeBytes_eq]
  exact holdsAt_flatten (noticeFields_widths n) hk

theorem completionBytes_holds (k : Nat) {bytes : List Byte} (hk : (completionFields c)[k]? = some bytes) :
    HoldsAt (completionBytes c) (completionWidths.take k).sum bytes := by
  rw [completionBytes_eq]
  exact holdsAt_flatten (completionFields_widths c) hk

end

/-! ### The completion flags -/

/-- The completion flags, bit 0 first (section 11.4). -/
def completionFlagList (f : CompletionFlags) : List Bool :=
  [decide (f.edge = some .confirmed), decide (f.edge = some .unconfirmed), decide (f.edge = some .mismatch),
    decide (f.recallReport = .recalled), decide (f.recallReport = .notStored), f.retried]

/-- The flag bits are the number that has the flags as its bits. -/
theorem completionFlagBits_eq (f : CompletionFlags) :
    completionFlagBits f = Nat.ofBits fun j : Fin 6 => (completionFlagList f)[j.val]'j.isLt := by
  simp [completionFlagBits, completionFlagList, Nat.ofBits, Fin.foldr_succ, beq_eq_decide]
  omega

theorem completionFlagBits_lt (f : CompletionFlags) : completionFlagBits f < 64 := by
  rw [completionFlagBits_eq]
  exact Nat.ofBits_lt_two_pow _

theorem completionFlagBits_testBit (f : CompletionFlags) :
    (List.range 6).map (fun i => (completionFlagBits f).testBit i) = completionFlagList f := by
  refine List.ext_getElem rfl fun j hj _ => ?_
  have hj6 : j < 6 := by simpa using hj
  rw [List.getElem_map, List.getElem_range, completionFlagBits_eq]
  exact Nat.testBit_ofBits_lt _ _ hj6

/-- Settles O46: the answers by the queue, the close by its outcome, and the records by their fields. -/
theorem queuesAreReadOldestFirst : Obligations.QueuesAreReadOldestFirst := by
  intro s tag p x
  refine ⟨fun ht => ⟨fun h => ?_, fun n rest h => ?_⟩, fun ht => ⟨fun h => ?_, fun h => ?_⟩,
    fun d n => ⟨pushNotice_scan n d, pushNotice_raises n, pushNotice_ports n⟩, fun d f i r hr hs => ?close, fun n => ?notice,
    fun c => ?completion, fun f => ⟨completionFlagBits_lt f, completionFlagBits_testBit f⟩, rfl, rfl, rfl⟩
  · exact exec_noticesRead tag x ht (answerNoticesRead_empty (d := heard .capture (requestFrame tag p x) s) h)
  · exact exec_noticesRead tag x ht (answerNoticesRead_oldest (d := heard .capture (requestFrame tag p x) s) h)
  · exact exec_completionsRead tag x ht (answerCompletionsRead_empty (d := heard .request (requestFrame tag p x) s) h)
  · exact exec_completionsRead tag x ht (answerCompletionsRead_first (d := heard .request (requestFrame tag p x) s) h)
  case close =>
    have hscan := closeNoted_scan (f := f) (i := i) hr
    have htrigger : (closeNoted f i r d).trigger = d.trigger := closeNoted_trigger
    have hclose := scanTakesClose_eq (f := f) (i := i) hr
    rw [if_neg (c := r.state = .suspending) (by simp [hs])] at hclose
    dsimp only
    rw [← countReached_iff, hclose]
    generalize closeNoted f i r d = e at hscan htrigger
    have hrun : e.scan.run = some (frameCounted f r) := congrArg (·.run) hscan
    have hnotices : e.scan.notices = d.scan.notices ++ [frameNotice r.number f i] := congrArg (·.notices) hscan
    have hgate : e.scan.gate = false := congrArg (·.gate) hscan
    cases hcount : countReached (r.framesClosed + 1) r.endCondition with
    | true =>
      obtain ⟨harm, hkept, hoff, r', hr', hstate, hcause, hclosed⟩ := endAtCount_run hrun (by simp [frameCounted, hs])
      exact ⟨hoff hgate, hkept.trans hnotices, fun h => absurd rfl h, fun h => absurd rfl h,
        fun _ => ⟨harm, r', hr', hstate, hcause, hclosed⟩⟩
    | false =>
      by_cases hfull : d.scan.backlog = false ∧ 28 ≤ d.scan.notices.length + 1
      · rw [if_neg Bool.false_ne_true, if_pos ⟨hs, hfull⟩, beginSuspending_eq .backlog hrun (by simp [frameCounted, hs])]
        refine ⟨hgate, hnotices, fun _ h => ?_, fun _ _ _ => ⟨?_, htrigger, raise_sets .capture .run _ (by decide), rfl⟩,
          fun h => nomatch h⟩
        · exact absurd hfull.2 (h.resolve_left (by simp [hfull.1]))
        · exact (congrArg (·.backlog) hscan).trans (Bool.or_eq_true_iff.2 (.inr (decide_eq_true hfull.2)))
      · rw [if_neg Bool.false_ne_true, if_neg fun h => hfull h.2]
        exact ⟨hgate, hnotices, fun _ _ => ⟨hrun, htrigger⟩, fun _ hb h => absurd ⟨hb, h⟩ hfull, fun h => nomatch h⟩
  case notice =>
    intro holds
    refine ⟨length_noticeBytes n, noticeBytes_holds 0 rfl, noticeBytes_holds 1 rfl, ?_, noticeBytes_holds 3 rfl, noticeBytes_holds 4 rfl,
      noticeBytes_holds 5 rfl, noticeBytes_holds 6 rfl, noticeBytes_holds 7 rfl, noticeBytes_holds 8 rfl, noticeBytes_holds 9 rfl, ?_,
      noticeBytes_holds 11 rfl, noticeBytes_holds 12 rfl⟩
    · rw [← optBytes_two]
      exact noticeBytes_holds 2 rfl
    · rw [← packedStep_eq]
      exact noticeBytes_holds 10 rfl
  case completion =>
    intro holds
    refine ⟨length_completionBytes c, completionBytes_holds 0 rfl, completionBytes_holds 1 rfl, completionBytes_holds 2 rfl, ?_,
      completionBytes_holds 4 rfl, completionBytes_holds 5 rfl, completionBytes_holds 6 rfl⟩
    rw [← optBytes_two]
    exact completionBytes_holds 3 rfl

end Sys2Proof.Proofs

/-! The reactions after a run has come to rest: while it is ENDING, ENDED, or SUSPENDED and not permitted to resume, with no arm and no
search, they leave its record but for the end of ENDING (R146, R155, R156, R158). -/

namespace Sys2Proof.Proofs

open Sys2Proof Sys2Proof.Machine

/-- A report that begins no search, no confirmation and no correction: neither an arrival nor a measured start. -/
def Calm : Report → Prop
  | .orderEnded _ .arrived _ => False
  | .measuredStart _ => False
  | _ => True

/-- A run that claims nothing and waits for no report. -/
def RunRests (r : RunRecord) : Prop :=
  r.state = .ending ∨ r.state = .ended ∨ (r.state = .suspended ∧ r.resumePermitted = false)

/-- The record of a run that has become ENDED (R160). -/
def endedRecord (r : RunRecord) : RunRecord := { r with resume := none, boundary := none, prep := .none, state := .ended }

/-- The run is as `r` says, or has ended from there; nothing is searched or armed, and only calm reports wait. -/
structure Rests (r : RunRecord) (d : Dev) : Prop where
  run : d.scan.run = some r ∨ (r.state = .ending ∧ d.scan.run = some (endedRecord r))
  search : d.focus.search = none
  arm : d.trigger.arm = none
  inbox : ∀ x ∈ d.inbox, Calm x

section
variable {r : RunRecord} {d e : Dev}

/-- A change outside the run, the search, the generator and the inbox. -/
theorem Rests.same (h : Rests r d) (hs : e.scan.run = d.scan.run) (hf : e.focus.search = d.focus.search)
    (ht : e.trigger.arm = d.trigger.arm) (hi : e.inbox = d.inbox) : Rests r e :=
  ⟨hs ▸ h.run, hf.trans h.search, ht.trans h.arm, hi ▸ h.inbox⟩

theorem Rests.ite {p : Prop} [Decidable p] (hd : Rests r d) (he : Rests r e) : Rests r (if p then d else e) := by
  split
  · exact hd
  · exact he

theorem Rests.snd_ite {α : Type} {p : Prop} [Decidable p] {x y : α × Dev} (hx : Rests r x.2) (hy : Rests r y.2) :
    Rests r (if p then x else y).2 := by
  split
  · exact hx
  · exact hy

/-! ### Updates of a block -/

theorem setTransport_rests {x : Transport} (h : Rests r d) : Rests r (d.setTransport x) := h.same rfl rfl rfl rfl
theorem setRetrieval_rests {x : Retrieval} (h : Rests r d) : Rests r (d.setRetrieval x) := h.same rfl rfl rfl rfl
theorem raise_rests {id : PortId} {k : EventKind} (h : Rests r d) : Rests r (raise id k d) := h.same rfl rfl rfl rfl
theorem setLens_rests {l : Lens} (h : Rests r d) : Rests r (setLens l d) := h.same rfl rfl rfl rfl

theorem report_rests {x : Report} (hx : Calm x) (h : Rests r d) : Rests r (report x d) :=
  ⟨h.run, h.search, h.arm, fun x' hx' => (List.mem_append.1 hx').elim (h.inbox x') fun hnew => List.mem_singleton.1 hnew ▸ hx⟩

/-! ### The lens -/

theorem lensRest_rests (h : Rests r d) : Rests r (lensRest d) := .ite (raise_rests (setLens_rests h)) (setLens_rests h)

theorem beginSettle_rests {m : MoveRecord} (h : Rests r d) : Rests r (beginSettle m d) :=
  .ite (lensRest_rests (setLens_rests h)) (setLens_rests h)

theorem moveRequest_rests {n : Nat} {q : Requester} (h : Rests r d) : Rests r (moveRequest n q d).2 := by
  have hreported : ∀ b : Bool, Rests r (if b then report .searchSuperseded d else d) := fun _ => .ite (report_rests trivial h) h
  unfold moveRequest
  dsimp only
  split
  · exact h
  · exact h
  · exact h
  · exact .snd_ite h (h.same rfl rfl rfl rfl)
  · exact .snd_ite (beginSettle_rests (hreported _)) (setLens_rests (hreported _))

/-! ### The grant and the orders -/

theorem dropGrant_rests (h : Rests r d) : Rests r (dropGrant d) := by
  unfold dropGrant
  dsimp only
  rw [Dev.setTransport_trigger, h.arm]
  exact setTransport_rests h

theorem releaseGrant_rests {o : Owner} (h : Rests r d) : Rests r (releaseGrant o d) :=
  .ite h (.ite (dropGrant_rests h) (setTransport_rests h))

theorem giveGrant_rests {o : Owner} (h : Rests r d) : Rests r (giveGrant o d) := .ite (h.same rfl rfl rfl rfl) (setTransport_rests h)

theorem startOrder_rests {o : Order} (h : Rests r d) : Rests r (startOrder o d) := by
  unfold startOrder
  split
  · exact report_rests trivial h
  · split
    · exact setTransport_rests h
    · exact report_rests trivial (setTransport_rests h)
    · exact setTransport_rests h
    · exact setTransport_rests h
    · exact h

/-- A STOP changes the transport and makes at most a report that the order was stopped or is not the owner's (R38). -/
theorem giveStop_eq (o : Owner) (d : Dev) :
    ∃ x i, giveStop o d = (d.setTransport x).setInbox i ∧ x.grant = d.transport.grant ∧ ∀ y ∈ i, y ∈ d.inbox ∨ Calm y := by
  have hsame : ∀ y ∈ d.inbox, y ∈ d.inbox ∨ Calm y := fun y hy => .inl hy
  have hadded : ∀ z, Calm z → ∀ y ∈ d.inbox ++ [z], y ∈ d.inbox ∨ Calm y := fun z hz y hy =>
    (List.mem_append.1 hy).imp_right fun hnew => by rwa [List.mem_singleton.1 hnew]
  have hbrakes : ∃ x i, enterStopping .order (some (stopOrder o)) d = (d.setTransport x).setInbox i ∧ x.grant = d.transport.grant
      ∧ ∀ y ∈ i, y ∈ d.inbox ∨ Calm y :=
    ⟨{ d.transport with motion := .stopping, stopReason := some .order, current := some (stopOrder o) }, d.inbox, rfl, rfl, hsame⟩
  unfold giveStop
  split
  · exact ⟨d.transport, _, rfl, rfl, hadded _ trivial⟩
  · split
    · exact hbrakes
    · exact hbrakes
    · exact hbrakes
    · exact hbrakes
    · exact ⟨d.transport, _, rfl, rfl, hadded _ trivial⟩
    · exact ⟨d.transport, _, rfl, rfl, hadded _ trivial⟩
    · exact ⟨{ d.transport with held := none }, _, rfl, rfl, hadded _ trivial⟩
    · split
      · exact ⟨d.transport, d.inbox, rfl, rfl, hsame⟩
      · exact ⟨{ d.transport with held := none, current := some (stopOrder o) }, d.inbox, rfl, rfl, hsame⟩
    · exact ⟨d.transport, d.inbox, rfl, rfl, hsame⟩

theorem giveStop_rests {o : Owner} (h : Rests r d) : Rests r (giveStop o d) := by
  obtain ⟨x, i, he, -, hi⟩ := giveStop_eq o d
  rw [he]
  exact ⟨h.run, h.search, h.arm, fun y hy => (hi y hy).elim (h.inbox y) id⟩

theorem giveOrder_rests {o : Order} (h : Rests r d) : Rests r (giveOrder o d) := by
  refine .ite (report_rests trivial h) ?_
  split
  · exact giveStop_rests h
  · split
    · exact setTransport_rests h
    · exact setTransport_rests h
    · exact report_rests trivial h
    · exact startOrder_rests h

/-! ### The retrieval scheduler -/

theorem completeActive_rests {c : CompletionResult} (h : Rests r d) : Rests r (completeActive c d) := by
  unfold completeActive completeRequest
  split
  · exact setRetrieval_rests h
  · split
    · exact setRetrieval_rests h
    · exact setRetrieval_rests (.ite (raise_rests (setRetrieval_rests h)) (setRetrieval_rests h))

theorem requestRecall_rests {n : Option Nat} (h : Rests r d) : Rests r (requestRecall n d).2 := by
  unfold requestRecall
  split
  · exact h
  · exact .snd_ite (moveRequest_rests h) h

theorem startAttempt_rests {q : RetrievalRequest} (h : Rests r d) : Rests r (startAttempt q d) := by
  have hseek : ∀ x a, Rests r (retrievalSeek x (setAttempt a (markChosen q d))) :=
    fun _ _ => giveOrder_rests (h.same rfl rfl rfl rfl)
  refine .ite (setRetrieval_rests (setRetrieval_rests (requestRecall_rests ?_))) ?_ <;> split <;> exact hseek _ _

theorem selectNext_rests (h : Rests r d) : Rests r (selectNext d) := by
  unfold selectNext
  split
  · exact startAttempt_rests h
  · exact releaseGrant_rests h

theorem keepDecision_rests (h : Rests r d) : Rests r (keepDecision d) := .ite h (.ite (selectNext_rests h) (releaseGrant_rests h))

theorem completeDone_rests (h : Rests r d) : Rests r (completeDone d) := by
  unfold completeDone
  split
  · exact h
  · exact .ite (keepDecision_rests (completeActive_rests h)) (setRetrieval_rests (completeActive_rests h))

theorem Rests.disarmConfirm_eq (h : Rests r d) : disarmConfirm d = d := by
  unfold disarmConfirm
  rw [h.arm]

theorem failAttempt_rests (h : Rests r d) : Rests r (failAttempt d) := by
  unfold failAttempt
  rw [h.disarmConfirm_eq]
  dsimp only
  split
  · exact h
  · exact keepDecision_rests (.ite (completeActive_rests h) (h.same rfl rfl rfl rfl))

theorem giveUpConfirm_rests (h : Rests r d) : Rests r (giveUpConfirm d) := by
  unfold giveUpConfirm presentActive
  rw [h.disarmConfirm_eq]
  split
  · exact setRetrieval_rests h
  · exact giveOrder_rests (h.same rfl rfl rfl rfl)

theorem takeConfirmLine_rests {x : Int} (h : Rests r d) : Rests r (takeConfirmLine x d) := by
  unfold takeConfirmLine
  split
  · exact h
  · refine .ite h ?_
    split
    · exact h
    · exact .ite (giveUpConfirm_rests h) h

theorem endHint_rests (h : Rests r d) : Rests r (endHint d) := keepDecision_rests (setRetrieval_rests h)

theorem serveHint_rests (h : Rests r d) : Rests r (serveHint d) := by
  unfold serveHint
  split
  · exact releaseGrant_rests h
  · exact requestRecall_rests (giveOrder_rests (setRetrieval_rests h))

theorem retrievalReport_rests {o : OrderOutcome} {b : Bool} (ho : o ≠ .arrived) (h : Rests r d) : Rests r (retrievalReport o b d) := by
  unfold retrievalReport
  split
  · exact h
  · split
    · exact h
    · exact endHint_rests h
    · exact endHint_rests h
    · exact endHint_rests h
    · exact absurd rfl ho
    · exact failAttempt_rests h
    · exact giveUpConfirm_rests h
    · exact .ite (failAttempt_rests h) (giveUpConfirm_rests h)
    · exact failAttempt_rests h
    · exact absurd rfl ho
    · exact failAttempt_rests h
    · exact keepDecision_rests (completeActive_rests h)
    · exact h

/-- There is no search to end. -/
theorem endSearch_rests {lost : Bool} (h : Rests r d) : Rests r (endSearch lost d) := by
  unfold endSearch
  rwa [h.search]

theorem serviceReport_rests {o : OrderOutcome} (h : Rests r d) : Rests r (serviceReport o d) := by
  have hended : Rests r (raise .service .motionEnd (d.setTransport { d.transport with serviceOutcome := some o })) :=
    h.same rfl rfl rfl rfl
  cases o with
  | failed c =>
    have hraised : Rests r (raise .service .fault _) := raise_rests hended
    exact .ite (endSearch_rests hraised) (.ite hraised (releaseGrant_rests hraised))
  | arrived | stopped | atLimit => exact .ite (endSearch_rests hended) (.ite hended (releaseGrant_rests hended))

/-! ### The run -/

/-- A run that rests keeps resting. -/
theorem Rests.resting (hr : RunRests r) (h : Rests r d) : ∃ r', d.scan.run = some r' ∧ RunRests r' := by
  rcases h.run with hrun | ⟨-, hrun⟩
  · exact ⟨r, hrun, hr⟩
  · exact ⟨_, hrun, .inr (.inl rfl)⟩

theorem Rests.unmoved (hr : RunRests r) (h : Rests r d) : RunUnmoved d := by
  obtain ⟨r', hrun, hrests⟩ := h.resting hr
  intro r'' hr''
  obtain rfl := Option.some.inj (hrun.symm.trans hr'')
  rcases hrests with hs | hs | ⟨hs, -⟩ <;> simp [hs]

/-- A run that rests is not under way. -/
theorem runIn_unmoved (h : RunUnmoved d) :
    runIn d [.preparing] = false ∧ runIn d [.preparing, .running, .suspending] = false := by
  unfold runIn
  cases hrun : d.scan.run with
  | none => exact ⟨rfl, rfl⟩
  | some r =>
    obtain ⟨hp, hrunning, hs⟩ := h r hrun
    simp [hp, hrunning, hs]

/-- A run that rests raises no claim (R146). -/
theorem Rests.scanClaim_eq (hr : RunRests r) (h : Rests r d) : scanClaim d = false := by
  obtain ⟨r', hrun, hrests⟩ := h.resting hr
  unfold scanClaim
  rw [hrun]
  rcases hrests with hs | hs | ⟨hs, hp⟩ <;> simp_all

/-- The end of a run, written out (R160). -/
theorem endRun_eq (hrun : d.scan.run = some r) (hs : r.state ≠ .ended) :
    endRun d = ((raise .capture .run (d.setScan { d.scan with run := some (endedRecord r) })).setFocus
      { d.focus with track := none, runStep := none }).setDetector { d.detector with marks := [], openMark := none, markLost := false } := by
  unfold endRun setRunState modifyRun
  rw [hrun]
  dsimp only [Option.map_some, Dev.setScan_scan]
  rw [if_neg hs]
  rfl

/-- The end of ENDING leaves the run ENDED with its cause (R156). -/
theorem finishEnding_rests (hs : r.state = .ending) (hrun : d.scan.run = some r) (h : Rests r d) : Rests r (finishEnding d) := by
  have hreleased := releaseGrant_rests (o := .scan) h
  have hkept : (releaseGrant .scan d).scan.run = some r := by rw [(releaseGrant_sameScan h.arm (.refl d)).scan]; exact hrun
  unfold finishEnding
  rw [endRun_eq hkept (by simp [hs])]
  exact ⟨.inr ⟨hs, rfl⟩, hreleased.search, hreleased.arm, hreleased.inbox⟩

theorem takeDisarm_rests {o : Owner} {c : DisarmCause} (hr : RunRests r) (h : Rests r d) : Rests r (takeDisarm o c d) := by
  have hended : ∀ cause, endAtDisarm cause d = d := fun cause => if_neg (by simp [(runIn_unmoved (h.unmoved hr)).2])
  unfold takeDisarm
  split
  · rwa [hended]
  · rwa [hended]
  · exact h

theorem runReachesBase_unmoved (h : RunUnmoved d) : runReachesBase d = d := by
  unfold runReachesBase
  cases hrun : d.scan.run with
  | none => rfl
  | some r => exact if_neg (h r hrun).1

/-! ### The chain of reactions -/

theorem takeReport_rests {x : Report} (hr : RunRests r) (hx : Calm x) (h : Rests r d) : Rests r (takeReport x d) := by
  have hunmoved := h.unmoved hr
  have harrived : ∀ {w o b}, x = .orderEnded w o b → o ≠ .arrived := by
    rintro w o b rfl rfl
    exact hx
  unfold takeReport
  split
  · rwa [scanReport_unmoved hunmoved]
  · exact retrievalReport_rests (harrived rfl) h
  · exact serviceReport_rests h
  · exact h
  · rw [(runIn_unmoved hunmoved).1]
    exact h
  · exact h
  · rwa [runReachesBase_unmoved hunmoved]
  · exact h
  · exact h
  · exact takeDisarm_rests hr h
  · rwa [searchHandedBack_unmoved hunmoved]
  · unfold abandonSearch
    rw [h.search]
    exact h
  · exact hx.elim
  · exact takeConfirmLine_rests h

theorem runReaction_rests (hr : RunRests r) (he : runReaction d = some e) (h : Rests r d) : Rests r e := by
  obtain ⟨r', hrun, hrests⟩ := h.resting hr
  obtain ⟨hp, hrunning, -⟩ := h.unmoved hr r' hrun
  unfold runReaction at he
  rw [hrun] at he
  dsimp only at he
  split at he
  next hs =>
    have hsame : r' = r := by
      rcases h.run with hrun' | ⟨-, hrun'⟩
      · exact Option.some.inj (hrun.symm.trans hrun')
      · obtain rfl := Option.some.inj (hrun.symm.trans hrun')
        cases hs
    subst hsame
    split at he
    · exact Option.some.inj he ▸ finishEnding_rests hs hrun h
    · contradiction
  next hs => exact absurd hs hp
  next hs => exact absurd hs hrunning
  next => contradiction

theorem retrievalReaction_rests (he : retrievalReaction d = some e) (h : Rests r d) : Rests r e := by
  unfold retrievalReaction at he
  dsimp only at he
  split_ifs at he <;> obtain rfl := Option.some.inj he
  · exact keepDecision_rests (setRetrieval_rests h)
  · exact completeDone_rests h
  · exact giveStop_rests (setRetrieval_rests h)
  · exact setRetrieval_rests h

theorem grantReaction_rests (hr : RunRests r) (he : grantReaction d = some e) (h : Rests r d) : Rests r e := by
  unfold grantReaction at he
  rw [h.scanClaim_eq hr, if_neg Bool.false_ne_true] at he
  split_ifs at he <;> obtain rfl := Option.some.inj he
  · exact selectNext_rests (giveGrant_rests h)
  · exact selectNext_rests (giveGrant_rests h)
  · exact serveHint_rests (giveGrant_rests h)

theorem reaction_rests (hr : RunRests r) (he : reaction d = some e) (h : Rests r d) : Rests r e := by
  unfold reaction at he
  split at he
  next x rest hi =>
    obtain rfl := Option.some.inj he
    have hcalm : ∀ x' ∈ x :: rest, Calm x' := hi ▸ h.inbox
    exact takeReport_rests hr (hcalm x (List.mem_cons_self ..))
      ⟨h.run, h.search, h.arm, fun x' hx' => hcalm x' (List.mem_cons_of_mem _ hx')⟩
  · split_ifs at he
    · obtain rfl := Option.some.inj he
      exact dropGrant_rests h
    · split at he
      next hrun => exact Option.some.inj he ▸ runReaction_rests hr hrun h
      · split at he
        next hret => exact Option.some.inj he ▸ retrievalReaction_rests hret h
        · exact grantReaction_rests hr he h

theorem settleFor_rests (n : Nat) (hr : RunRests r) (h : Rests r d) : Rests r (settleFor n d) := by
  induction n generalizing d with
  | zero => exact h
  | succ n ih =>
    unfold settleFor
    split
    next he => exact ih (reaction_rests hr he h)
    · exact h

/-- Whatever an event brings about in its step leaves a run that rests as it is, but for the end of ENDING. -/
theorem settle_rests (hr : RunRests r) (h : Rests r d) : Rests r (settle d) :=
  .ite (settleFor_rests Config.cascadeBound hr h) (setTransport_rests (settleFor_rests Config.cascadeBound hr h))

end
end Sys2Proof.Proofs

/-! SCAN_PAUSE, SCAN_RESUME and SCAN_ABORT, the yield, the end of a suspension and a halt of a run: O45 (R148, R152 to R155, R158, R159). -/

namespace Sys2Proof.Proofs

open Sys2Proof Sys2Proof.Machine

/-! ### The three requests -/

section
variable {s : State} {p : List Byte} {a : Answer}

theorem exec_scanPause (tag : Byte) (x : List Byte) (ht : takes s .capture p)
    (ha : answerScanPause p (heard .capture (requestFrame tag p x) s) = a) :
    exec (.scanPause .capture (requestFrame tag p x)) s = .next (answers s .capture tag a.result a.payload a.dev) :=
  ha ▸ takeFrame_takes .scanPause .capture tag p x answerScanPause s ht rfl

theorem exec_scanResume (tag : Byte) (x : List Byte) (ht : takes s .capture p)
    (ha : answerScanResume p (heard .capture (requestFrame tag p x) s) = a) :
    exec (.scanResume .capture (requestFrame tag p x)) s = .next (answers s .capture tag a.result a.payload a.dev) :=
  ha ▸ takeFrame_takes .scanResume .capture tag p x answerScanResume s ht rfl

/-- SCAN_ABORT is carried at every port but the Request port (Table 10-2). -/
theorem exec_scanAbort {port : PortId} (tag : Byte) (x : List Byte) (ht : takes s port p) (hport : port ≠ .request)
    (ha : answerScanAbort p (heard port (requestFrame tag p x) s) = a) :
    exec (.scanAbort port (requestFrame tag p x)) s = .next (answers s port tag a.result a.payload a.dev) := by
  have hcarried : permitted .scanAbort port = true := by
    cases port with
    | request => exact absurd rfl hport
    | capture | service => rfl
  exact ha ▸ takeFrame_takes .scanAbort port tag p x answerScanAbort s ht hcarried

end

/-! ### The answers by the state of the run -/

section
variable {d : Dev} {p : List Byte} {r : RunRecord}

theorem answerScanPause_none (h : d.scan.run = none) : answerScanPause p d = refuse .state d := by simp only [answerScanPause, h]
theorem answerScanResume_none (h : d.scan.run = none) : answerScanResume p d = refuse .state d := by simp only [answerScanResume, h]
theorem answerScanAbort_none (h : d.scan.run = none) : answerScanAbort p d = refuse .state d := by simp only [answerScanAbort, h]

section
variable (hr : d.scan.run = some r)
include hr

theorem answerScanPause_queued (hs : r.state = .queued) : answerScanPause p d = taken .ok [] (suspendRun .pause false d) := by
  simp only [answerScanPause, hr, hs]

theorem answerScanPause_preparing (hs : r.state = .preparing) :
    answerScanPause p d = taken .ok [] (cutPreparation .pause false d) := by simp only [answerScanPause, hr, hs]

theorem answerScanPause_running (hs : r.state = .running) : answerScanPause p d = taken .ok [] (beginSuspending .pause d) := by
  simp only [answerScanPause, hr, hs]

theorem answerScanPause_suspending (hs : r.state = .suspending) : answerScanPause p d = taken .ok [] (setRunCause .pause d) := by
  simp only [answerScanPause, hr, hs]

theorem answerScanPause_suspended (hs : r.state = .suspended) : answerScanPause p d = taken .ok [] (pauseSuspended r d) := by
  simp only [answerScanPause, hr, hs]

theorem answerScanPause_over (hs : r.state = .ending ∨ r.state = .ended) : answerScanPause p d = refuse .state d := by
  rcases hs with hs | hs <;> simp only [answerScanPause, hr, hs]

theorem answerScanResume_elsewhere (hs : r.state ≠ .suspended) : answerScanResume p d = refuse .state d := by
  simp only [answerScanResume, hr]
  exact if_pos hs

theorem answerScanResume_yielded (hs : r.state = .suspended) (hc : r.cause = some .yield ∨ r.cause = some .backlog) :
    answerScanResume p d = answered [] d := by
  simp only [answerScanResume, hr]
  exact (if_neg (not_not.2 hs)).trans (if_neg (by rcases hc with hc | hc <;> simp [hc]))

theorem answerScanResume_paused (hs : r.state = .suspended) (hc : r.cause = some .pause ∨ r.cause = some .fault) :
    answerScanResume p d = if d.transport.motion = .halted ∨ d.roll.state ≠ .ready then refuse .state d
      else taken .ok [] (modifyRun (fun r => { r with resumePermitted := true }) d) := by
  simp only [answerScanResume, hr]
  exact (if_neg (not_not.2 hs)).trans (if_pos hc)

theorem answerScanAbort_waiting (hs : r.state = .queued ∨ r.state = .suspended) :
    answerScanAbort p d = taken .ok [] (endRun (setRunCause .aborted d)) := by
  rcases hs with hs | hs <;> simp only [answerScanAbort, hr, hs]

theorem answerScanAbort_underWay (hs : r.state = .preparing ∨ r.state = .running ∨ r.state = .suspending) :
    answerScanAbort p d = taken .ok [] (abortActive d) := by
  rcases hs with hs | hs | hs <;> simp only [answerScanAbort, hr, hs]

theorem answerScanAbort_ending (hs : r.state = .ending) : answerScanAbort p d = answered [] d := by
  simp only [answerScanAbort, hr, hs]

theorem answerScanAbort_ended (hs : r.state = .ended) : answerScanAbort p d = refuse .state d := by
  simp only [answerScanAbort, hr, hs]

end
end

/-! ### A run put to wait -/

section
variable {d : Dev} {r r' : RunRecord}

/-- A run that becomes SUSPENDED raises RUN (R148, R153, R154). -/
theorem suspendRun_eq (c : RunCause) (permitted : Bool) (hr : d.scan.run = some r) (hs : r.state ≠ .suspended) :
    suspendRun c permitted d = raise .capture .run (d.setScan { d.scan with
      run := some { r with state := .suspended, cause := some c, resumePermitted := permitted, boundary := none, prep := .none } }) := by
  unfold suspendRun setRunState modifyRun
  rw [hr]
  exact if_neg hs

/-- The record of the run replaced. -/
def withRecord (r : RunRecord) (d : Dev) : Dev := d.setScan { d.scan with run := some r }

/-- A run put to wait: it is SUSPENDING, or SUSPENDED and not permitted to resume, and it was not under way before (R146). -/
def PutToWait (r r' : RunRecord) : Prop :=
  r'.state = .suspending ∨ (r'.state = .suspended ∧ r'.resumePermitted = false ∧ (r.state = .queued ∨ r.state = .suspended))

/-- A run that waits raises no claim (R146). -/
theorem scanClaim_waiting (h : PutToWait r r') : scanClaim (withRecord r' d) = false := by
  unfold scanClaim withRecord
  rcases h with hs | ⟨hs, hp, -⟩
  · simp [hs]
  · simp [hs, hp]

/-- A hint that could be served while the run waits could be served before: with the grant free there was no scan claim (R179). -/
theorem hintConditions_waiting (hset : Settled d) (hr : d.scan.run = some r) (h : PutToWait r r')
    (hh : hintConditions (withRecord r' d) = true) : hintConditions d = true := by
  obtain ⟨-, -, -, -, hgrant⟩ := (reaction_none_iff d).1 hset.1
  have hidle : runIn (withRecord r' d) [.preparing, .running, .suspending] = false → runIn d [.preparing, .running, .suspending] = false := by
    rcases h with hs | ⟨hs, -, hs' | hs'⟩ <;> simp [runIn, withRecord, *]
  simp only [hintConditions, Bool.and_eq_true, Bool.not_eq_true'] at hh ⊢
  obtain ⟨⟨⟨⟨⟨⟨⟨hhints, heligible⟩, -⟩, hrun⟩, hnobody⟩, hmotion⟩, htension⟩, hdatum⟩ := hh
  have hfree : grantFree d = true := by
    unfold grantFree
    rw [show d.transport.grant == .nobody from hnobody, show d.transport.motion == .idle from hmotion]
    rfl
  obtain ⟨-, hclaim, -⟩ := (grantReaction_none_iff d).1 hgrant hfree
  exact ⟨⟨⟨⟨⟨⟨⟨hhints, heligible⟩, hclaim⟩, hidle hrun⟩, hnobody⟩, hmotion⟩, htension⟩, hdatum⟩

/-- A run put to wait gives no reaction its turn. -/
theorem settled_waiting (hset : Settled d) (hr : d.scan.run = some r) (h : PutToWait r r') : Settled (withRecord r' d) := by
  obtain ⟨hinbox, hrelease, -, hretrieval, hgrant⟩ := (reaction_none_iff d).1 hset.1
  obtain ⟨hhold, hlens, hseek, hdrop⟩ := (retrievalReaction_none_iff d).1 hretrieval
  have hclaim : scanClaim (withRecord r' d) = false := scanClaim_waiting h
  have hhint := hintConditions_waiting hset hr h
  refine ⟨(reaction_none_iff _).2 ⟨hinbox, hrelease, ?run, ?retrieval, ?grant⟩, (stopParkTimer_eq_iff _).2 ((stopParkTimer_eq_iff d).1 hset.2)⟩
  case run =>
    refine (runReaction_none_iff _).2 fun x hx => ?_
    obtain rfl := Option.some.inj hx
    rcases h with hs | ⟨hs, -⟩ <;> simp [hs]
  case retrieval =>
    refine (retrievalReaction_none_iff _).2 ⟨hhold, hlens, ?_, ?_⟩
    · rw [hclaim]
      simp only [Bool.and_eq_false_iff, Bool.or_eq_false_iff] at hseek ⊢
      exact hseek.imp_right fun hboth => ⟨hboth.1, trivial⟩
    · rw [Bool.and_eq_false_iff] at hdrop ⊢
      exact hdrop.imp_left fun hno => Bool.eq_false_iff.2 fun hyes => by simp [hhint hyes] at hno
  case grant =>
    refine (grantReaction_none_iff _).2 fun hfree => ?_
    obtain ⟨hurgent, -, hretrievalClaim, hhintClaim⟩ := (grantReaction_none_iff d).1 hgrant hfree
    refine ⟨hurgent, hclaim, hretrievalClaim, ?_⟩
    unfold hintClaim at hhintClaim ⊢
    rw [Bool.and_eq_false_iff] at hhintClaim ⊢
    exact hhintClaim.imp_left fun hno => Bool.eq_false_iff.2 fun hyes => by simp [hhint hyes] at hno

theorem settle_waiting (hset : Settled d) (hr : d.scan.run = some r) (h : PutToWait r r') :
    settle (withRecord r' d) = withRecord r' d ∧ settle (raise .capture .run (withRecord r' d)) = raise .capture .run (withRecord r' d) :=
  ⟨settle_of_settled _ (settled_waiting hset hr h), settle_of_settled _ ((settled_raise _ _ _).2 (settled_waiting hset hr h))⟩

end
end Sys2Proof.Proofs

/-! The preparation cut short and the run aborted, up to the reactions (R148, R158). -/

namespace Sys2Proof.Proofs

open Sys2Proof Sys2Proof.Machine

/-- What the close of an arm, of a search and of an order under way leaves of a run with the record `r` in the device `o`: the saved line,
the boundary and, under a pending correction, the resume point may change; a grant of SCAN stays; only calm reports come. -/
structure Winding (r : RunRecord) (o e : Dev) : Prop where
  run : ∃ n b q, e.scan.run = some { r with savedLine := n, boundary := b, resume := q }
    ∧ (o.roll.pendingCorrection = none → q = r.resume)
  pending : o.roll.pendingCorrection = none → e.roll.pendingCorrection = none
  grant : o.transport.grant = .scan → e.transport.grant = .scan
  inbox : (∀ x ∈ o.inbox, Calm x) → ∀ x ∈ e.inbox, Calm x

section
variable {r : RunRecord} {o d e : Dev}

theorem Winding.refl (hr : o.scan.run = some r) : Winding r o o := ⟨⟨r.savedLine, r.boundary, r.resume, hr, fun _ => rfl⟩, id, id, id⟩

theorem Winding.ite {p : Prop} [Decidable p] (hd : Winding r o d) (he : Winding r o e) : Winding r o (if p then d else e) := by
  split
  · exact hd
  · exact he

/-- A change outside the run, the roll, the grant and the inbox. -/
theorem Winding.same (h : Winding r o d) (hs : e.scan.run = d.scan.run) (hp : e.roll = d.roll)
    (hg : e.transport.grant = d.transport.grant) (hi : e.inbox = d.inbox) : Winding r o e :=
  ⟨hs ▸ h.run, hp ▸ h.pending, hg ▸ h.grant, hi ▸ h.inbox⟩

theorem disarm_winding {why : DisarmCause} {atClose : Bool} (h : Winding r o d) : Winding r o (disarm why atClose d) := by
  cases ha : d.trigger.arm with
  | none => rwa [disarm_of_unarmed why atClose d ha]
  | some a =>
    obtain ⟨n, b, q, hrun, hq⟩ := h.run
    obtain ⟨n', b', q', hrun', hq'⟩ := disarm_keepsRun why atClose hrun
    have hd := disarm_disarmed why atClose ha (pending_getD d)
    refine ⟨⟨n', b', q', hrun', fun hp => (hq' (h.pending hp)).trans (hq hp)⟩, fun _ => hd.pending, fun hg => ?_, fun hi x hx => ?_⟩
    · rw [hd.transport]
      exact h.grant hg
    · rw [hd.inbox] at hx
      rcases List.mem_append.1 hx with hold | hnew
      · exact h.inbox hi x hold
      · exact List.mem_singleton.1 hnew ▸ trivial

theorem giveStop_winding {w : Owner} (h : Winding r o d) : Winding r o (giveStop w d) := by
  obtain ⟨x, i, he, hg, hi⟩ := giveStop_eq w d
  rw [he]
  exact ⟨h.run, h.pending, fun ho => hg.trans (h.grant ho), fun ho y hy => (hi y hy).elim (h.inbox ho y) id⟩

theorem stopIfRunning_winding {w : Owner} (h : Winding r o d) : Winding r o (stopIfRunning w d) := .ite (giveStop_winding h) h

/-- While SCAN holds the grant another owner's release does nothing (R26). -/
theorem releaseGrant_winding {w : Owner} (hw : w ≠ .scan) (h : Winding r o d) : Winding r o (releaseGrant w d) := by
  by_cases ho : o.transport.grant = .scan
  · have hkept : releaseGrant w d = d := if_pos (.inl (by rw [h.grant ho]; exact hw.symm))
    rwa [hkept]
  · have hset : ∀ x, Winding r o (d.setTransport x) := fun x => ⟨h.run, h.pending, fun hg => absurd hg ho, h.inbox⟩
    refine .ite h (.ite ?_ (hset _))
    unfold dropGrant
    dsimp only
    split
    · exact .ite (disarm_winding (hset _)) (hset _)
    · exact hset _

theorem closeSearchMotion_winding {w : SearchOwner} (h : Winding r o d) : Winding r o (closeSearchMotion w d) := by
  have hclosed : Winding r o (match d.trigger.arm with
      | some a => if a.mode = .probe then disarm .command false d else d
      | none => d) := by
    split
    · exact .ite (disarm_winding h) h
    · exact h
  exact .ite (giveStop_winding hclosed) hclosed

theorem abandonSearch_winding (h : Winding r o d) : Winding r o (abandonSearch d) := by
  unfold abandonSearch
  split
  · exact h
  · have hclosed := fun w => closeSearchMotion_winding (w := w) h
    dsimp only
    split
    · exact (hclosed _).same rfl rfl rfl rfl
    · exact releaseGrant_winding (by decide) ((hclosed _).same rfl rfl rfl rfl)

/-! ### No search and no arm after it -/

theorem disarm_search (why : DisarmCause) (atClose : Bool) (h : d.focus.search = none) : (disarm why atClose d).focus.search = none := by
  cases ha : d.trigger.arm with
  | none => rwa [disarm_of_unarmed why atClose d ha]
  | some a => exact (disarm_disarmed why atClose ha (pending_getD d)).search h

theorem releaseGrant_search (w : Owner) (h : d.focus.search = none) : (releaseGrant w d).focus.search = none := by
  unfold releaseGrant dropGrant
  dsimp only
  split
  · exact h
  · split
    · split
      · split
        · exact disarm_search _ _ h
        · exact h
      · exact h
    · exact h

theorem search_abandonSearch (d : Dev) : (abandonSearch d).focus.search = none := by
  unfold abandonSearch
  split
  next hs => exact hs
  next =>
    dsimp only
    split
    · rfl
    · exact releaseGrant_search _ rfl

theorem stopIfRunning_search {w : Owner} (h : d.focus.search = none) : (stopIfRunning w d).focus.search = none := by
  obtain ⟨x, i, he, -⟩ := giveStop_eq w d
  unfold stopIfRunning
  split
  · rw [he]
    exact h
  · exact h

theorem stopIfRunning_arm {w : Owner} (h : d.trigger.arm = none) : (stopIfRunning w d).trigger.arm = none := by
  unfold stopIfRunning
  split
  · exact giveStop_arm h
  · exact h

/-- An owner with no arm that releases the grant changes the transport alone: the grant is NONE, or its release is noted (R26). -/
theorem releaseGrant_unarmed_eq (w : Owner) (hw : w ≠ .nobody) (h : d.trigger.arm = none) :
    ∃ x, releaseGrant w d = d.setTransport x ∧ (d.transport.grant = w → x.grant = .nobody ∨ x.releasePending = true) := by
  unfold releaseGrant dropGrant
  dsimp only
  rw [Dev.setTransport_trigger, h]
  split
  next hno => exact ⟨d.transport, rfl, fun hg => absurd hno (by simp [hg, hw])⟩
  next =>
    split
    · exact ⟨{ d.transport with grant := .nobody, releasePending := false }, rfl, fun _ => .inl rfl⟩
    · exact ⟨{ d.transport with releasePending := true }, rfl, fun _ => .inr rfl⟩

theorem closeSearchMotion_arm {w : SearchOwner} (h : d.trigger.arm = none) : (closeSearchMotion w d).trigger.arm = none := by
  unfold closeSearchMotion
  rw [h]
  dsimp only
  split
  · exact giveStop_arm h
  · exact h

theorem abandonSearch_arm (h : d.trigger.arm = none) : (abandonSearch d).trigger.arm = none := by
  unfold abandonSearch
  split
  · exact h
  next k _ =>
    have hclosed : (recordOutcome k.requester .abandoned k.best (closeSearchMotion k.requester d)).trigger.arm = none :=
      closeSearchMotion_arm h
    dsimp only
    split
    · exact hclosed
    · obtain ⟨x, hx, -⟩ := releaseGrant_unarmed_eq .service (by decide) hclosed
      rw [hx]
      exact hclosed

/-! ### The run aborted, and the preparation cut short -/

/-- A run under way that is aborted rests, ENDING with cause ABORTED (R158). -/
theorem abortActive_rests (hr : d.scan.run = some r) (hs : r.state ≠ .ending) (hi : ∀ x ∈ d.inbox, Calm x) :
    ∃ r', Rests r' (abortActive d) ∧ r'.state = .ending ∧ r'.cause = some .aborted ∧ eventSet (abortActive d) .capture .run := by
  have hclosed : Winding r d (stopIfRunning .scan (abandonSearch (disarm .command false d))) :=
    stopIfRunning_winding (abandonSearch_winding (disarm_winding (.refl hr)))
  have hsearch := stopIfRunning_search (w := .scan) (search_abandonSearch (disarm .command false d))
  have harm : (stopIfRunning .scan (abandonSearch (disarm .command false d))).trigger.arm = none :=
    stopIfRunning_arm (abandonSearch_arm (disarm_unarms .command false d))
  obtain ⟨n, b, q, hrun, -⟩ := hclosed.run
  unfold abortActive
  rw [beginEnding_eq .aborted hrun hs]
  exact ⟨_, ⟨.inl rfl, hsearch, harm, hclosed.inbox hi⟩, rfl, rfl, raise_sets .capture .run _ (by decide)⟩

/-- What a preparation cut short leaves (R148). -/
structure PreparationCut (c : RunCause) (permitted : Bool) (r : RunRecord) (d e : Dev) (r' : RunRecord) : Prop where
  run : e.scan.run = some r'
  state : r'.state = .suspended
  cause : r'.cause = some c
  permitted : r'.resumePermitted = permitted
  resume : d.roll.pendingCorrection = none → r'.resume = some (r.resume.getD { position := r.base, state := r.initialGap })
  arm : e.trigger.arm = none
  search : e.focus.search = none
  event : eventSet e .capture .run
  grant : d.transport.grant = .scan → e.transport.grant = .nobody ∨ e.transport.releasePending = true
  inbox : (∀ x ∈ d.inbox, Calm x) → ∀ x ∈ e.inbox, Calm x

theorem cutPreparation_cut (c : RunCause) (permitted : Bool) (hr : d.scan.run = some r) (hs : r.state = .preparing) :
    ∃ r', PreparationCut c permitted r d (cutPreparation c permitted d) r' := by
  have hclosed : Winding r d (stopIfRunning .scan (disarm .command false (abandonSearch d))) :=
    stopIfRunning_winding (disarm_winding (abandonSearch_winding (.refl hr)))
  have hsearch := stopIfRunning_search (w := .scan) (disarm_search .command false (search_abandonSearch d))
  have harm := stopIfRunning_arm (w := .scan) (disarm_unarms .command false (abandonSearch d))
  obtain ⟨n, b, q, hrun, hq⟩ := hclosed.run
  obtain ⟨x, hreleased, hgrant⟩ := releaseGrant_unarmed_eq .scan (by decide) harm
  unfold cutPreparation
  dsimp only
  rw [hreleased]
  generalize stopIfRunning .scan (disarm .command false (abandonSearch d)) = e at *
  have hrun' : (modifyRun resumeOrBase (e.setTransport x)).scan.run
      = some (resumeOrBase { r with savedLine := n, boundary := b, resume := q }) := congrArg (Option.map _) hrun
  rw [suspendRun_eq c permitted hrun' (by simp [resumeOrBase, hs])]
  refine ⟨_, rfl, rfl, rfl, rfl, fun hp => ?_, harm, hsearch, raise_sets .capture .run _ (by decide), fun hg => hgrant (hclosed.grant hg),
    hclosed.inbox⟩
  rw [← hq hp]
  rfl

end
end Sys2Proof.Proofs

/-! The end of a suspension, a halt of a run and the yield (R146, R148, R152 to R154): O45. -/

namespace Sys2Proof.Proofs

open Sys2Proof Sys2Proof.Machine

/-! ### The close that completes a suspension -/

section
variable {d : Dev} {r : RunRecord} {a : Arm} {c : RunCause} {delta : Int} {q : ResumePoint}

/-- The record of a run whose suspension completes at a boundary point (R153). -/
def suspendedAt (line : Nat) (q : ResumePoint) (c : RunCause) (r : RunRecord) : RunRecord :=
  { r with
    state := .suspended, cause := some c, savedLine := line, boundary := none, resume := some q
    resumePermitted := decide (c ≠ .pause), prep := .none }

/-- The transport brakes for STOP, and the grant is released when the stop ends (R26, R38). -/
def brakedToRelease (t : Transport) : Transport :=
  { t with motion := .stopping, stopReason := some .order, current := some (stopOrder .scan), releasePending := true }

theorem releaseGrant_giveStop (hg : d.transport.grant = .scan) (hm : d.transport.motion = .scan) :
    releaseGrant .scan (giveStop .scan d) = d.setTransport (brakedToRelease d.transport) := by
  rw [giveStop_moving hg (congrArg movingState hm), releaseGrant_pending (by exact hg) (by decide) (by simp [atRest, enterStopping])]
  rfl

/-- The last boundary point becomes the resume point (R153). -/
def resumeAtBoundary (d : Dev) : Dev := modifyRun (fun r => { r with resume := r.boundary, boundary := none }) d

theorem completeSuspension_eq (hr : (disarm .command true (resumeAtBoundary d)).scan.run = some r) (hc : r.cause = some c)
    (hs : r.state = .suspending) (hg : d.transport.grant = .scan) (hm : d.transport.motion = .scan) :
    completeSuspension d = raise .capture .run (((disarm .command true (resumeAtBoundary d)).setTransport
      (brakedToRelease d.transport)).setScan { (disarm .command true (resumeAtBoundary d)).scan with
        run := some { r with state := .suspended, cause := some c, resumePermitted := c != .pause, boundary := none, prep := .none } }) := by
  have htransport : (disarm .command true (resumeAtBoundary d)).transport = d.transport := disarm_transport _ _ _
  have hbraked := releaseGrant_giveStop (d := disarm .command true (resumeAtBoundary d)) (by rw [htransport]; exact hg)
    (by rw [htransport]; exact hm)
  have hsuspends : completeSuspension d = match (releaseGrant .scan (giveStop .scan (disarm .command true (resumeAtBoundary d)))).scan.run with
      | none => releaseGrant .scan (giveStop .scan (disarm .command true (resumeAtBoundary d)))
      | some r => suspendRun (r.cause.getD .yield) (r.cause.getD .yield != .pause)
          (releaseGrant .scan (giveStop .scan (disarm .command true (resumeAtBoundary d)))) := rfl
  rw [hsuspends, hbraked, htransport, Dev.setTransport_scan, hr]
  dsimp only
  rw [hc, suspendRun_eq _ _ (by exact hr) (by simp [hs])]
  rfl

/-- What the end of a suspension leaves of the device, but for its run (R153). -/
structure SuspensionDone (d e : Dev) : Prop where
  arm : e.trigger.arm = none
  motion : e.transport.motion = .stopping
  stopReason : e.transport.stopReason = some .order
  grant : e.transport.grant = .scan
  release : e.transport.releasePending = true
  activity : e.detector.activity = .idle
  gate : e.scan.gate = false
  notices : e.scan.notices = d.scan.notices
  event : eventSet e .capture .run

/-- A suspension completes under the arm of its SCAN order: disarm, STOP, and the run SUSPENDED at its boundary point, less an applied
correction (R153, log entry 25). -/
theorem completeSuspension_done (hr : d.scan.run = some r) (hs : r.state = .suspending) (hc : r.cause = some c)
    (hq : r.boundary = some q) (ha : d.trigger.arm = some a) (hmode : a.mode = .scan) (hg : d.transport.grant = .scan)
    (hm : d.transport.motion = .scan) (hp : d.roll.pendingCorrection.getD 0 = delta) :
    SuspensionDone d (completeSuspension d)
      ∧ (completeSuspension d).scan.run
        = some (suspendedAt d.trigger.lineCounter { q with position := q.position - delta } c r) := by
  subst hp
  have h := disarm_disarmed (d := resumeAtBoundary d) .command true (by exact ha) (pending_getD d)
  have hnotices := (disarm_atClose .command (resumeAtBoundary d)).1
  have hrun := h.run
  rw [resumeAtBoundary, modifyRun_run, hr] at hrun
  rw [completeSuspension_eq (by exact hrun) (by exact hc) (by exact hs) hg hm]
  refine ⟨⟨congrArg (·.arm) h.trigger, rfl, rfl, hg, rfl, h.activity, h.gate, hnotices, raise_sets .capture .run _ (by decide)⟩, ?_⟩
  have hpermitted : (c != .pause) = decide (c ≠ .pause) := by cases c <;> rfl
  simp [suspendedAt, lineSaved, raise, hmode, hq, hpermitted]

/-- The close noted changes the scan run controller and the ports alone. -/
theorem closeNoted_eq {f : ClosedFrame} {i : IndexAnswer} (hr : d.scan.run = some r) :
    ∃ x ps, closeNoted f i r d = (d.setScan x).setPorts ps ∧ x.run = some (frameCounted f r)
      ∧ x.notices = d.scan.notices ++ [frameNotice r.number f i] := by
  obtain ⟨b, ps, hn⟩ := pushNotice_eq (frameNotice r.number f i) (setGate false d)
  unfold closeNoted
  rw [hn]
  exact ⟨_, ps, rfl, congrArg (Option.map _) hr, rfl⟩

/-- The close of a SUSPENDING run completes its suspension, unless it reaches the frame count (R150, R153). -/
theorem scanTakesClose_suspends {f : ClosedFrame} {i : IndexAnswer} (hr : d.scan.run = some r) (hs : r.state = .suspending)
    (hk : ∀ k, r.endCondition = .frameCount k → r.framesClosed + 1 < k) :
    scanTakesClose f i d = completeSuspension (closeNoted f i r d) := by
  have hopen : ¬ countReached (r.framesClosed + 1) r.endCondition = true := fun h => by
    obtain ⟨k, he, hle⟩ := (countReached_iff _ _).1 h
    exact absurd (hk k he) (not_lt.2 hle)
  rw [scanTakesClose_eq hr, if_neg hopen, if_pos hs]

end

/-! ### A halt -/

section
variable {d : Dev} {r : RunRecord} {a : Arm}

/-- A transport in HALTED with the grant NONE, and no arm. -/
structure HaltedFree (d : Dev) : Prop where
  motion : d.transport.motion = .halted
  grant : d.transport.grant = .nobody
  arm : d.trigger.arm = none

theorem Follows.haltedFree {e : Dev} (hf : Follows d e) (h : HaltedFree d) : HaltedFree e := by
  obtain ⟨hg, ha⟩ := hf.free h.motion h.grant
  exact ⟨hf.motion h.motion, hg, ha h.arm⟩

theorem leaveToRun_sameScan {e : Dev} {b : Bool} {best : Option (Nat × Nat)} {n : Nat} (h : SameScan d e) :
    SameScan d (leaveToRun b best n e) := by
  unfold leaveToRun
  split
  · exact h
  · split
    · exact .ite (h.same rfl rfl) h
    · exact h.same rfl rfl
    · exact h

/-- In a halt the end of a search leaves the run (R96). -/
theorem endSearch_sameScan (lost : Bool) (h : HaltedFree d) : SameScan d (endSearch lost d) := by
  unfold endSearch
  split
  · exact .refl d
  next k _ =>
    have hclosed : closeSearchMotion k.requester d = d := by
      unfold closeSearchMotion
      rw [h.arm]
      exact if_neg fun hc => searchGrant_ne_nobody k.requester (hc.1.symm.trans h.grant)
    have hrecorded : ∀ o b, SameScan d (recordOutcome k.requester o b d) := fun _ _ => ⟨rfl, rfl⟩
    have hfree : ∀ o b, HaltedFree (recordOutcome k.requester o b d) := fun _ _ => ⟨h.motion, h.grant, h.arm⟩
    rw [hclosed]
    dsimp only
    split
    · exact (leaveToRun_sameScan (.ite (hrecorded _ _) (moveRequest_sameScan (hrecorded _ _)))).same rfl rfl
    · refine releaseGrant_sameScan ?_ (.ite (hrecorded _ _) (moveRequest_sameScan (hrecorded _ _)))
      split
      · exact h.arm
      · exact ((moveRequest_follows (.refl _)).haltedFree (hfree _ _)).arm

theorem completeRequest_sameScan {e : Dev} {q : RetrievalRequest} {result : CompletionResult} {flags : CompletionFlags} {n : Int}
    (h : SameScan d e) : SameScan d (completeRequest q result flags n e) := by
  unfold completeRequest
  split
  · exact h
  · exact .ite (h.same rfl rfl) (h.same rfl rfl)

theorem completeActive_sameScan {e : Dev} {c : CompletionResult} (h : SameScan d e) : SameScan d (completeActive c e) := by
  unfold completeActive
  split
  · exact h.same rfl rfl
  · exact (completeRequest_sameScan h).same rfl rfl

/-- In a halt the scheduler's part leaves the run (R176, R177). -/
theorem retrievalOnHalt_sameScan (h : HaltedFree d) : SameScan d (retrievalOnHalt d) := by
  have hkeep : ∀ {e}, SameScan d e → HaltedFree e → SameScan d (keepDecision e) := fun he hfree => by
    unfold keepDecision
    rw [if_pos (by simp [hfree.grant])]
    exact he
  unfold retrievalOnHalt
  dsimp only
  split
  · exact ⟨rfl, rfl⟩
  · split
    · exact ⟨rfl, rfl⟩
    · exact ⟨rfl, rfl⟩
    · exact completeActive_sameScan ⟨rfl, rfl⟩
    · unfold failAttempt disarmConfirm
      rw [Dev.setRetrieval_trigger, h.arm]
      dsimp only
      split
      · exact ⟨rfl, rfl⟩
      · split
        · exact hkeep (completeActive_sameScan ⟨rfl, rfl⟩)
            ((completeActive_follows (.refl _)).haltedFree ⟨h.motion, h.grant, h.arm⟩)
        · exact hkeep ⟨rfl, rfl⟩ ⟨h.motion, h.grant, h.arm⟩

/-- The record of a run that a halt has suspended (R154). -/
def suspendedByHalt (r : RunRecord) : RunRecord :=
  { resumeAfterHalt r with state := .suspended, cause := some .fault, resumePermitted := false, boundary := none, prep := .none }

theorem scanOnHalt_run (hr : d.scan.run = some r) (hs : r.state = .running ∨ r.state = .suspending) :
    (scanOnHalt d).scan.run = some (suspendedByHalt r) := by
  have hsuspended : (suspendRun .fault false (modifyRun resumeAfterHalt d)).scan.run = some (suspendedByHalt r) := by
    rw [suspendRun_eq .fault false (d := modifyRun resumeAfterHalt d) (r := resumeAfterHalt r) (congrArg (Option.map _) hr)
      (by rcases hs with hs | hs <;> simp [resumeAfterHalt, hs])]
    rfl
  have hpaused : scanOnHalt d = pauseTrack (suspendRun .fault false (modifyRun resumeAfterHalt d)) := by
    rcases hs with hs | hs <;> simp only [scanOnHalt, hr, hs]
  rw [hpaused, (pauseTrack_sameScan (.refl _)).scan]
  exact hsuspended

/-- The rest of a halt suspends the run (R154). -/
theorem haltFinished_run (h : HaltedFree d) (hr : d.scan.run = some r) (hs : r.state = .running ∨ r.state = .suspending) :
    (haltFinished d).scan.run = some (suspendedByHalt r) := by
  have hended : HaltedFree (raiseAll .fault (homingLosesGrant (endSearch false d))) :=
    (raiseAll_follows (setLens_follows (endSearch_follows (.refl _)))).haltedFree h
  have hrun : (raiseAll .fault (homingLosesGrant (endSearch false d))).scan.run = some r :=
    (congrArg (·.run) (endSearch_sameScan false h).scan).trans hr
  unfold haltFinished
  rw [(retrievalOnHalt_sameScan ((scanOnHalt_follows (.refl _)).haltedFree hended)).scan]
  exact scanOnHalt_run hrun hs

theorem haltRecordsBoundary_eq (hr : d.scan.run = some r) (hs : r.state = .running ∨ r.state = .suspending) :
    haltRecordsBoundary d = modifyRun (fun r => { r with resume := r.boundary.or r.resume, boundary := none }) d :=
  if_pos (by rcases hs with hs | hs <;> simp [runIn, hr, hs])

theorem reportHalted_eq (o : Option Order) (d : Dev) : ∃ i, reportHalted o d = d.setInbox i := by
  unfold reportHalted
  split
  · exact ⟨_, rfl⟩
  · exact ⟨d.inbox, rfl⟩

/-- The run after a halt under the arm of its SCAN order: the boundary point, else the resume point, less the correction applied, and else
S with the state UNKNOWN (R154, R18). -/
theorem halt_run (cause : HaltCause) (hr : d.scan.run = some r) (hs : r.state = .running ∨ r.state = .suspending)
    (hm : d.transport.motion ≠ .halted) (ha : d.trigger.arm = some a) (hmode : a.mode = .scan) :
    (halt cause d).scan.run = some
      { r with
        state := .suspended, cause := some .fault, resumePermitted := false, boundary := none, savedLine := d.trigger.lineCounter
        prep := .none
        resume := some (((r.boundary.or r.resume).map fun q =>
          { q with position := q.position - d.roll.pendingCorrection.getD 0 }).getD { position := r.base, state := .unknown }) } := by
  obtain ⟨i, hi⟩ := reportHalted_eq (d.transport.current.map (·.order)) (d.setTransport (transportHalted cause d.transport))
  obtain ⟨i', hi'⟩ := reportHalted_eq d.transport.held ((d.setTransport (transportHalted cause d.transport)).setInbox i)
  have hdisarmed : haltDisarmed cause d = disarm .halted false (modifyRun (fun r => { r with resume := r.boundary.or r.resume, boundary := none })
      (((d.setTransport (transportHalted cause d.transport)).setInbox i).setInbox i')) := by
    unfold haltDisarmed
    rw [hi, hi', haltRecordsBoundary_eq (by exact hr) hs]
  have h := (disarm_disarmed (d := modifyRun (fun r => { r with resume := r.boundary.or r.resume, boundary := none })
    (((d.setTransport (transportHalted cause d.transport)).setInbox i).setInbox i')) .halted false (by exact ha) (pending_getD d)).run
  rw [← hdisarmed, modifyRun_run, show (((d.setTransport (transportHalted cause d.transport)).setInbox i).setInbox i').scan.run = some r
    from hr] at h
  have hin := inHalt_haltDisarmed cause d
  obtain ⟨hmotion, -, -, -, -, -, -, hgrant, harm⟩ := hin
  rw [halt_eq hm, haltFinished_run ⟨hmotion, hgrant, harm⟩ h (by exact hs)]
  simp [suspendedByHalt, resumeAfterHalt, lineSaved, hmode]

end

/-! ### The yield -/

section
variable {d e : Dev} {r : RunRecord}

/-- A request that the run's policy admits and that is eligible (R146, R168). -/
def Admitted (d : Dev) (r : RunRecord) (q : RetrievalRequest) : Prop :=
  q ∈ d.retrieval.queue ∧ q.state = .waiting ∧ d.roll.datum = true
    ∧ (r.policy = .yieldAll ∨ (r.policy = .yieldUrgent ∧ q.class_ = .urgent))

theorem yieldDemand_iff (hr : d.scan.run = some r) : yieldDemand d = true ↔ ∃ q, Admitted d r q := by
  unfold yieldDemand Admitted
  rw [hr]
  cases hp : r.policy <;> simp [anyEligible, anyUrgent, eligible, hp, and_assoc]

theorem runReaction_running (hr : d.scan.run = some r) (hs : r.state = .running) :
    runReaction d = if yieldDemand d then some (beginSuspending .yield d) else none := by simp only [runReaction, hr, hs]

theorem runReaction_preparing (hr : d.scan.run = some r) (hs : r.state = .preparing) :
    runReaction d = if yieldDemand d then some (cutPreparation .yield true d) else none := by simp only [runReaction, hr, hs]

/-- With no report and no release that is due, the run's reaction is the next (log entry 7). -/
theorem reaction_of_run (hi : d.inbox = []) (hrelease : ¬ (d.transport.releasePending = true ∧ atRest d = true))
    (h : runReaction d = some e) : reaction d = some e := by
  unfold reaction
  rw [hi]
  dsimp only
  rw [if_neg (by simpa using hrelease), h]

end
end Sys2Proof.Proofs

/-! SCAN_PAUSE, SCAN_RESUME and SCAN_ABORT with what follows in their steps, and O45. -/

namespace Sys2Proof.Proofs

open Sys2Proof Sys2Proof.Machine

section
variable {d : Dev} {p : List Byte} {r : RunRecord}

/-- A settled device has no report waiting. -/
theorem calm_of_settled (h : Settled d) : ∀ x ∈ d.inbox, Calm x := fun x hx => by
  rw [((reaction_none_iff d).1 h.1).1] at hx
  exact absurd hx List.not_mem_nil

/-! ### The step of an abort and of a pause -/

/-- Whatever follows an abort of a run under way leaves it ENDING or ENDED (R158). -/
theorem settle_abortActive (hset : Settled d) (hr : d.scan.run = some r) (hs : r.state ≠ .ending) :
    ∃ r', (settle (abortActive d)).scan.run = some r' ∧ (r'.state = .ending ∨ r'.state = .ended) ∧ r'.cause = some .aborted
      ∧ (settle (abortActive d)).trigger.arm = none ∧ (settle (abortActive d)).focus.search = none
      ∧ eventSet (settle (abortActive d)) .capture .run := by
  obtain ⟨r', hrests, hstate, hcause, hevent⟩ := abortActive_rests hr hs (calm_of_settled hset)
  have h := settle_rests (.inl hstate) hrests
  have hraised := (settle_follows (.refl (abortActive d))).events _ _ hevent
  rcases h.run with hrun | ⟨-, hrun⟩
  · exact ⟨r', hrun, .inl hstate, hcause, h.arm, h.search, hraised⟩
  · exact ⟨endedRecord r', hrun, .inr rfl, hcause, h.arm, h.search, hraised⟩

/-- Whatever follows a pause of a PREPARING run leaves it SUSPENDED (R155). -/
theorem settle_cutPreparation (hset : Settled d) (hr : d.scan.run = some r) (hs : r.state = .preparing) :
    ∃ r', (settle (cutPreparation .pause false d)).scan.run = some r' ∧ r'.state = .suspended ∧ r'.cause = some .pause
      ∧ r'.resumePermitted = false
      ∧ (d.roll.pendingCorrection = none → r'.resume = some (r.resume.getD { position := r.base, state := r.initialGap }))
      ∧ (settle (cutPreparation .pause false d)).trigger.arm = none ∧ (settle (cutPreparation .pause false d)).focus.search = none
      ∧ eventSet (settle (cutPreparation .pause false d)) .capture .run := by
  obtain ⟨r', hcut⟩ := cutPreparation_cut .pause false hr hs
  have h := settle_rests (.inr (.inr ⟨hcut.state, hcut.permitted⟩))
    ⟨.inl hcut.run, hcut.search, hcut.arm, hcut.inbox (calm_of_settled hset)⟩
  have hrun := h.run.resolve_right fun hended => absurd (hcut.state.symm.trans hended.1) (by decide)
  exact ⟨r', hrun, hcut.state, hcut.cause, hcut.permitted, hcut.resume, h.arm, h.search,
    (settle_follows (.refl _)).events _ _ hcut.event⟩

/-- An abort of a run that is QUEUED or SUSPENDED ends it at once (R158). -/
theorem endRun_aborted (hr : d.scan.run = some r) (hs : r.state = .queued ∨ r.state = .suspended) :
    endRun (setRunCause .aborted d) = ((raise .capture .run (d.setScan { d.scan with
        run := some { r with state := .ended, cause := some .aborted, resume := none, boundary := none, prep := .none } })).setFocus
      { d.focus with track := none, runStep := none }).setDetector { d.detector with marks := [], openMark := none, markLost := false } :=
  endRun_eq (d := setRunCause .aborted d) (r := { r with cause := some .aborted }) (congrArg (Option.map _) hr)
    (by rcases hs with hs | hs <;> simp [hs])

theorem settle_suspendRun (hset : Settled d) (hr : d.scan.run = some r) (hs : r.state = .queued) :
    settle (suspendRun .pause false d) = raise .capture .run (withRecord
      { r with state := .suspended, cause := some .pause, resumePermitted := false, boundary := none, prep := .none } d) := by
  rw [suspendRun_eq .pause false hr (by simp [hs])]
  exact (settle_waiting hset hr (.inr ⟨rfl, rfl, .inl hs⟩)).2

theorem settle_beginSuspending (hset : Settled d) (hr : d.scan.run = some r) (hs : r.state = .running) :
    settle (beginSuspending .pause d) = raise .capture .run (withRecord { r with state := .suspending, cause := some .pause } d) := by
  rw [beginSuspending_eq .pause hr (by simp [hs])]
  exact (settle_waiting hset hr (.inl rfl)).2

/-- The record rewritten where one is present. -/
theorem modifyRun_eq (f : RunRecord → RunRecord) (hr : d.scan.run = some r) : modifyRun f d = withRecord (f r) d := by
  unfold modifyRun withRecord
  rw [hr]
  rfl

theorem settle_setRunCause (hset : Settled d) (hr : d.scan.run = some r) (hs : r.state = .suspending) :
    settle (setRunCause .pause d) = withRecord { r with cause := some .pause } d := by
  unfold setRunCause
  rw [modifyRun_eq _ hr]
  exact (settle_waiting (r' := { r with cause := some .pause }) hset hr (.inl hs)).1

theorem settle_pauseSuspended_yielded (hset : Settled d) (hr : d.scan.run = some r) (hs : r.state = .suspended)
    (hc : r.cause = some .yield ∨ r.cause = some .backlog) :
    settle (pauseSuspended r d) = withRecord { r with cause := some .pause, resumePermitted := false } d := by
  unfold pauseSuspended
  rw [if_neg (by rcases hc with hc | hc <;> simp [hc]), modifyRun_eq _ hr]
  exact (settle_waiting (r' := { r with cause := some .pause, resumePermitted := false }) hset hr (.inr ⟨hs, rfl, .inr hs⟩)).1

theorem settle_pauseSuspended_paused (hset : Settled d) (hc : r.cause = some .pause ∨ r.cause = some .fault) :
    settle (pauseSuspended r d) = d := by
  unfold pauseSuspended
  rw [if_pos hc]
  exact settle_of_settled d hset

end

/-- Settles O45: each request by the state of the run, the rests of a run that reactions leave, and the disarm that a suspension and a halt
give. -/
theorem runsPauseResumeAndAbort : Obligations.RunsPauseResumeAndAbort := by
  refine ⟨fun s port tag p x ht hport => ?aborts, fun s tag p x r ht hr hset => ⟨?pauses, ?resumes, ?closes, ?halts, fun e hr => ?yields⟩⟩
  case aborts =>
    refine ⟨fun hn => exec_scanAbort tag x ht hport (answerScanAbort_none (d := heard port (requestFrame tag p x) s) hn),
      fun hn hc => ?_, fun r hr hset => ?_⟩
    · subst hc
      exact ⟨exec_scanPause tag x ht (answerScanPause_none (d := heard .capture (requestFrame tag p x) s) hn),
        exec_scanResume tag x ht (answerScanResume_none (d := heard .capture (requestFrame tag p x) s) hn)⟩
    have hset' : Settled (heard port (requestFrame tag p x) s) := (settled_heard _ _ _).2 hset
    have hr' : (heard port (requestFrame tag p x) s).scan.run = some r := hr
    dsimp only
    generalize hd : heard port (requestFrame tag p x) s = d at hset' hr'
    have hexec : ∀ {a}, answerScanAbort p d = a → exec (.scanAbort port (requestFrame tag p x)) s
        = .next (answers s port tag a.result a.payload a.dev) := fun ha => exec_scanAbort tag x ht hport (by rw [hd]; exact ha)
    refine ⟨fun hs => ?_, fun hs => ?_, fun hs => ?_, fun hs => ?_⟩
    · rw [hexec (answerScanAbort_waiting hr' hs), endRun_aborted hr' hs]
      rfl
    · have hne : r.state ≠ .ending := by rcases hs with hs | hs | hs <;> simp [hs]
      obtain ⟨r', hrun, hstate, hcause, harm, hsearch, hevent⟩ := settle_abortActive hset' hr' hne
      exact ⟨_, r', hexec (answerScanAbort_underWay hr' hs), rfl,
        congrArg (·.response) (respond_get _ _ _ _ _), hrun, hstate, hcause, harm, hsearch, (eventSet_respond _ _ _ _ _ _ _).2 hevent⟩
    · exact hexec (answerScanAbort_ending hr' hs)
    · exact hexec (answerScanAbort_ended hr' hs)
  case pauses =>
    have hset' : Settled (heard .capture (requestFrame tag p x) s) := (settled_heard _ _ _).2 hset
    have hr' : (heard .capture (requestFrame tag p x) s).scan.run = some r := hr
    have hpending : (heard .capture (requestFrame tag p x) s).roll = s.dev.roll := rfl
    dsimp only
    generalize hd : heard .capture (requestFrame tag p x) s = d at hset' hr' hpending
    have hexec : ∀ {a}, answerScanPause p d = a → exec (.scanPause .capture (requestFrame tag p x)) s
        = .next (answers s .capture tag a.result a.payload a.dev) := fun ha => exec_scanPause tag x ht (by rw [hd]; exact ha)
    have hnext : ∀ {y z}, answerScanPause p d = taken .ok [] y → settle y = z → exec (.scanPause .capture (requestFrame tag p x)) s
        = .next (answers s .capture tag .ok [] z) := fun ha hz => hz ▸ hexec ha
    refine ⟨fun hs => ?_, fun hs => ?_, fun hs => ?_, fun hs => ?_, fun hs hc => ?_, fun hs hc => ?_, fun hs => ?_⟩
    · exact hnext (answerScanPause_queued hr' hs) (settle_suspendRun hset' hr' hs)
    · obtain ⟨r', hrun, hstate, hcause, hpermitted, hresume, harm, hsearch, hevent⟩ := settle_cutPreparation hset' hr' hs
      exact ⟨_, r', hexec (answerScanPause_preparing hr' hs), rfl, hrun, hstate, hcause, hpermitted, hpending ▸ hresume, harm, hsearch,
        (eventSet_respond _ _ _ _ _ _ _).2 hevent⟩
    · exact hnext (answerScanPause_running hr' hs) (settle_beginSuspending hset' hr' hs)
    · exact hnext (answerScanPause_suspending hr' hs) (settle_setRunCause hset' hr' hs)
    · exact hnext (answerScanPause_suspended hr' hs) (settle_pauseSuspended_yielded hset' hr' hs hc)
    · exact hnext (answerScanPause_suspended hr' hs) (settle_pauseSuspended_paused hset' hc)
    · exact hexec (answerScanPause_over hr' hs)
  case resumes =>
    have hr' : (heard .capture (requestFrame tag p x) s).scan.run = some r := hr
    refine ⟨fun hs => exec_scanResume tag x ht (answerScanResume_elsewhere hr' hs),
      fun hs hc => exec_scanResume tag x ht (answerScanResume_yielded hr' hs hc), fun hs hc hno => ?_, fun hs hc hm hroll => ?_⟩
    · exact exec_scanResume tag x ht ((answerScanResume_paused hr' hs hc).trans (if_pos hno))
    · have htaken := exec_scanResume tag x ht ((answerScanResume_paused hr' hs hc).trans
        (if_neg fun h => h.elim hm fun hne => hne hroll))
      rw [modifyRun_eq _ hr'] at htaken
      exact htaken
  case closes =>
    intro e f i a c delta hr hs hc hk ha hmode hg hm hp
    obtain ⟨y, ps, hnoted, hrun, hnotices⟩ := closeNoted_eq (f := f) (i := i) hr
    dsimp only
    rw [scanTakesClose_suspends hr hs hk, hnoted]
    obtain ⟨hdone, hrun'⟩ := completeSuspension_done (d := (e.setScan y).setPorts ps) (r := frameCounted f r) hrun hs hc rfl ha hmode hg hm hp
    refine ⟨hdone.arm, hdone.motion, hdone.stopReason, hdone.grant, hdone.release, hdone.activity, hdone.gate,
      hdone.notices.trans hnotices, hdone.event, hrun'.trans ?_⟩
    simp [suspendedAt, frameCounted, hc]
  case halts =>
    intro e a cause delta hr hs hm ha hmode hp
    subst hp
    have h := halt_run cause hr hs hm ha hmode
    refine ⟨fun q hq => ?_, fun q hb hq => ?_, fun hb hq => ?_⟩
    · rw [h, hq]
      rfl
    · rw [h, hb, hq]
      rfl
    · rw [h, hb, hq]
      rfl
  case yields =>
    have hdemand := yieldDemand_iff hr
    unfold Admitted at hdemand
    dsimp only
    rw [← hdemand]
    refine ⟨fun hs h => ?_, fun hs h => ?_, fun hs h => ?_, fun hs => ?_, fun t hi hrelease => reaction_of_run hi hrelease⟩
    · rw [runReaction_running hr hs, if_pos h, beginSuspending_eq .yield hr (by simp [hs])]
    · obtain ⟨r', hcut⟩ := cutPreparation_cut .yield true hr hs
      exact ⟨_, r', (runReaction_preparing hr hs).trans (if_pos h), hcut.run, hcut.state, hcut.cause, hcut.permitted, hcut.arm,
        hcut.search, hcut.event, hcut.grant, hcut.resume⟩
    · rcases hs with hs | hs
      · rw [runReaction_running hr hs, if_neg h]
      · rw [runReaction_preparing hr hs, if_neg h]
    · refine (runReaction_none_iff e).2 fun r' hr' => ?_
      obtain rfl := Option.some.inj (hr.symm.trans hr')
      rcases hs with hs | hs | hs | hs <;> simp [hs]

end Sys2Proof.Proofs

/-! Claims, completions, the keep decision and the grant of the retrieval scheduler, as the requests of the Request port meet them. -/

namespace Sys2Proof.Proofs

open Sys2Proof Sys2Proof.Machine

/-! ### Claims -/

section
variable {d : Dev}

/-- A request of the queue that is eligible: it is WAITING, with the datum flag set (R168). -/
def EligibleIn (d : Dev) (q : RetrievalRequest) : Prop := q ∈ d.retrieval.queue ∧ q.state = .waiting ∧ d.roll.datum = true

theorem anyEligible_iff (d : Dev) : anyEligible d = true ↔ ∃ q, EligibleIn d q := by
  simp [anyEligible, eligible, EligibleIn]

theorem anyUrgent_iff (d : Dev) : anyUrgent d = true ↔ ∃ q, EligibleIn d q ∧ q.class_ = .urgent := by
  simp [anyUrgent, eligible, EligibleIn, and_assoc]

theorem anyEligible_of_anyUrgent (h : anyUrgent d = true) : anyEligible d = true := by
  obtain ⟨q, hq, -⟩ := (anyUrgent_iff d).1 h
  exact (anyEligible_iff d).2 ⟨q, hq⟩

theorem anyUrgent_of_noneEligible (h : anyEligible d = false) : anyUrgent d = false :=
  Bool.eq_false_iff.2 fun hu => absurd (anyEligible_of_anyUrgent hu) (by simp [h])

theorem anyEligible_of_empty (h : d.retrieval.queue = []) : anyEligible d = false := by
  unfold anyEligible
  rw [h]
  rfl

theorem scanClaim_of_noRun (h : d.scan.run = none) : scanClaim d = false := by
  unfold scanClaim
  rw [h]

theorem runReaction_of_noRun (h : d.scan.run = none) : runReaction d = none := by
  unfold runReaction
  rw [h]

theorem holdPreempted_of_noHold (h : d.retrieval.hold = none) : holdPreempted d = false := by
  unfold holdPreempted
  rw [h]

theorem lensArrived_of_phase (h : ∀ a, d.retrieval.attempt = some a → a.phase ≠ .lensWait) : lensArrived d = false :=
  Bool.eq_false_iff.2 fun hl => by
    obtain ⟨⟨a, ha, hp⟩, -⟩ := (lensArrived_iff d).1 hl
    exact h a ha hp

theorem hintSeeking_of_phase (h : ∀ a, d.retrieval.attempt = some a → a.phase ≠ .hintSeek) : hintSeeking d = false := by
  unfold hintSeeking
  split
  next a ha => simpa using h a ha
  next => rfl

end

/-! ### The chain of reactions around a grant -/

section
variable {d e : Dev}

/-- One reaction, after which nothing is left to do. -/
theorem settle_of_reaction (h : reaction d = some e) (he : Settled e) : settle d = e := by
  have hfor : settleFor Config.cascadeBound d = e := (settleFor_step 4095 d e h).trans (settleFor_of_none _ e he.1)
  unfold settle
  rw [hfor, he.2]

theorem taken_of_settle {r : Result} {payload : List Byte} (h : settle d = e) :
    taken r payload d = { dev := e, result := r, payload := payload } := by
  unfold taken
  rw [h]

/-- With no report, no release that is due and no reaction of the run or the scheduler, the grant is next (log entry 7). -/
theorem reaction_of_grant (hi : d.inbox = []) (hrelease : ¬ (d.transport.releasePending = true ∧ atRest d = true))
    (hrun : runReaction d = none) (hretrieval : retrievalReaction d = none) : reaction d = grantReaction d := by
  unfold reaction
  rw [hi]
  dsimp only
  rw [if_neg (by simpa using hrelease), hrun, hretrieval]

/-- With no report waiting, a release that is due comes first (log entry 7). -/
theorem reaction_of_release (hi : d.inbox = []) (h : d.transport.releasePending = true ∧ atRest d = true) :
    reaction d = some (dropGrant d) := by
  unfold reaction
  rw [hi]
  dsimp only
  rw [if_pos (by simpa using h)]

theorem reaction_of_report {r : Report} {rest : List Report} (hi : d.inbox = r :: rest) :
    reaction d = some (takeReport r (d.setInbox rest)) := by
  unfold reaction
  rw [hi]

/-- The scheduler's reactions in their order: a hold preempted, a lens awaited, a hint seek abandoned, a hint dropped. -/
theorem retrievalReaction_eq (d : Dev) :
    retrievalReaction d = if holdPreempted d = true then some (endHold d)
      else if lensArrived d = true then some (completeDone d)
      else if (hintSeeking d && (anyEligible d || scanClaim d)) = true then some (abandonHint d)
      else if (hintConditions d && (indexedHint d).isNone) = true then
        some (d.setRetrieval { d.retrieval with hints := d.retrieval.hints.tail })
      else none := rfl

/-- No hold, no attempt and no newest hint to drop: the scheduler has no reaction. -/
theorem retrievalReaction_unoccupied (hhold : d.retrieval.hold = none) (ha : d.retrieval.attempt = none)
    (hhint : hintConditions d = true → (indexedHint d).isSome = true) : retrievalReaction d = none := by
  refine (retrievalReaction_none_iff d).2 ⟨holdPreempted_of_noHold hhold, lensArrived_of_phase (by simp [ha]), ?_, ?_⟩
  · rw [hintSeeking_of_phase (by simp [ha]), Bool.false_and]
  · cases hc : hintConditions d with
    | false => rfl
    | true =>
      obtain ⟨n, hn⟩ := Option.isSome_iff_exists.1 (hhint hc)
      rw [hn]
      rfl

/-- While the seek of an attempt moves the film, with no run and no hold, nothing is left to do. -/
theorem settled_of_attempt {a : Attempt} (hinbox : d.inbox = []) (hrun : d.scan.run = none) (hhold : d.retrieval.hold = none)
    (ha : d.retrieval.attempt = some a) (hphase : a.phase = .present ∨ (a.phase = .hintSeek ∧ d.retrieval.queue = []))
    (hg : d.transport.grant ≠ .nobody) (hm : movingState d.transport.motion = true) (hp : d.transport.parkTimer = 0) : Settled d := by
  have hrest : atRest d = false := by simp [atRest, hm]
  have hfree : grantFree d = false := by simp [grantFree, hg]
  have hconditions : hintConditions d = false := by simp [hintConditions, hg]
  have hlens : lensArrived d = false := lensArrived_of_phase (by rcases hphase with hphase | ⟨hphase, -⟩ <;> simp [ha, hphase])
  have habandon : (hintSeeking d && (anyEligible d || scanClaim d)) = false := by
    rcases hphase with hphase | ⟨-, hqueue⟩
    · rw [hintSeeking_of_phase (by simp [ha, hphase]), Bool.false_and]
    · rw [anyEligible_of_empty hqueue, scanClaim_of_noRun hrun, Bool.or_self, Bool.and_false]
  refine ⟨(reaction_none_iff d).2 ⟨hinbox, by rw [hrest, Bool.and_false], runReaction_of_noRun hrun, ?_, ?_⟩,
    (stopParkTimer_eq_iff d).2 fun _ => hp⟩
  · exact (retrievalReaction_none_iff d).2 ⟨holdPreempted_of_noHold hhold, hlens, habandon, by rw [hconditions, Bool.false_and]⟩
  · exact (grantReaction_none_iff d).2 fun hf => absurd hf (by simp [hfree])

/-- With nothing asked of the scheduler and no run, nothing is left to do. -/
theorem settled_of_unoccupied (hinbox : d.inbox = []) (hrun : d.scan.run = none) (hhold : d.retrieval.hold = none)
    (ha : d.retrieval.attempt = none) (hqueue : d.retrieval.queue = []) (hhints : d.retrieval.hints = [])
    (hr : d.transport.releasePending = false) (hp : parkConditions d = false → d.transport.parkTimer = 0) : Settled d := by
  have heligible := anyEligible_of_empty hqueue
  have hconditions : hintConditions d = false := by simp [hintConditions, hhints]
  refine ⟨(reaction_none_iff d).2 ⟨hinbox, by rw [hr, Bool.false_and], runReaction_of_noRun hrun, ?_, ?_⟩,
    (stopParkTimer_eq_iff d).2 hp⟩
  · exact retrievalReaction_unoccupied hhold ha (by simp [hconditions])
  · exact (grantReaction_none_iff d).2 fun _ => ⟨anyUrgent_of_noneEligible heligible, scanClaim_of_noRun hrun,
      by simp [retrievalClaim, heligible], by simp [hintClaim, hconditions]⟩

end

/-! ### The grant given to the first claim (R27) -/

section
variable {d : Dev}

theorem grantReaction_taken (hf : grantFree d = false) : grantReaction d = none := if_pos (by simp [hf])

theorem grantReaction_urgent (hf : grantFree d = true) (hu : anyUrgent d = true) :
    grantReaction d = some (selectNext (giveGrant .retrieval d)) := by
  unfold grantReaction
  rw [if_neg (by simp [hf]), if_pos hu]

theorem grantReaction_scan (hf : grantFree d = true) (hu : anyUrgent d = false) (hs : scanClaim d = true) :
    grantReaction d = some (startPreparation (giveGrant .scan d)) := by
  unfold grantReaction
  rw [if_neg (by simp [hf]), if_neg (by simp [hu]), if_pos hs]

theorem grant_of_grantFree (hf : grantFree d = true) : d.transport.grant = .nobody := by
  simp only [grantFree, Bool.and_eq_true, beq_iff_eq] at hf
  exact hf.1

/-- An eligible request of either class has the grant when no scan claim stands in its way. -/
theorem grantReaction_request (hf : grantFree d = true) (hs : scanClaim d = false) (ha : anyEligible d = true) :
    grantReaction d = some (selectNext (giveGrant .retrieval d)) := by
  cases hu : anyUrgent d with
  | true => exact grantReaction_urgent hf hu
  | false =>
    have hclaim : retrievalClaim d = true := by simp [retrievalClaim, ha, grant_of_grantFree hf]
    unfold grantReaction
    rw [if_neg (by simp [hf]), if_neg (by simp [hu]), if_neg (by simp [hs]), if_pos hclaim]

/-- Without an eligible request or a scan claim, the grant goes by the hint claim. -/
theorem grantReaction_unclaimed (hf : grantFree d = true) (hs : scanClaim d = false) (ha : anyEligible d = false) :
    grantReaction d = if hintClaim d = true then some (serveHint (giveGrant .retrieval d)) else none := by
  unfold grantReaction
  rw [if_neg (by simp [hf]), if_neg (by simp [anyUrgent_of_noneEligible ha]), if_neg (by simp [hs]),
    if_neg (by simp [retrievalClaim, ha])]

end

/-! ### The keep decision (R29) -/

section
variable {d : Dev}

/-- The scheduler keeps the grant: for an eligible URGENT request, or an eligible NORMAL one with no scan claim. -/
def KeepsGrant (d : Dev) : Prop := anyUrgent d = true ∨ (anyEligible d = true ∧ scanClaim d = false)

theorem keepDecision_without (hg : d.transport.grant ≠ .retrieval) : keepDecision d = d := if_pos hg

theorem keepDecision_selects (hg : d.transport.grant = .retrieval) (h : KeepsGrant d) : keepDecision d = selectNext d := by
  unfold keepDecision
  rw [if_neg (not_not.2 hg), if_pos (by simpa [KeepsGrant] using h)]

theorem keepDecision_releases (hg : d.transport.grant = .retrieval) (h : ¬ KeepsGrant d) :
    keepDecision d = releaseGrant .retrieval d := by
  unfold keepDecision
  rw [if_neg (not_not.2 hg), if_neg (by simpa [KeepsGrant] using h)]

/-- At rest and with no arm, the grant is free at once (R26). -/
theorem releaseGrant_atRest {owner : Owner} (hg : d.transport.grant = owner) (ho : owner ≠ .nobody) (hrest : atRest d = true)
    (harm : d.trigger.arm = none) :
    releaseGrant owner d = d.setTransport { d.transport with grant := .nobody, releasePending := false } := by
  unfold releaseGrant dropGrant
  dsimp only
  rw [if_neg (by simp [hg, ho]), if_pos hrest, Dev.setTransport_trigger, harm]

end

/-! ### Completions -/

section
variable {d : Dev} {r q : RetrievalRequest} {a : Attempt}

theorem requestOf_ticket {t : Nat} (h : requestOf d t = some r) : r.ticket = t := by simpa using List.find?_some h

theorem requestOf_none {t : Nat} (h : ∀ q ∈ d.retrieval.queue, q.ticket ≠ t) : requestOf d t = none :=
  List.find?_eq_none.2 fun q hq => by simpa using h q hq

/-- The record that a request leaves behind (Table 9-2). -/
def completionOfRequest (r : RetrievalRequest) (result : CompletionResult) (flags : CompletionFlags) (correction : Int) (d : Dev) :
    Completion :=
  { ticket := r.ticket, result := result, flags := flags, frame := r.frame, position := d.metering.counter, correction := correction
    lensStep := d.focus.lens.step }

/-- A request has left the queue, and its record has joined the completion list. -/
def leftWith (t : Nat) (c : Completion) (d : Dev) : Dev :=
  d.setRetrieval
    { d.retrieval with queue := removeTicket t d.retrieval.queue, completions := d.retrieval.completions ++ [c] }

/-- DONE is raised exactly when the completion list was empty (R173). -/
theorem completeRequest_eq (result : CompletionResult) (flags : CompletionFlags) (correction : Int)
    (h : requestOf d r.ticket = some q) :
    completeRequest r result flags correction d
      = if d.retrieval.completions = [] then
          raise .request .done (leftWith r.ticket (completionOfRequest r result flags correction d) d)
        else leftWith r.ticket (completionOfRequest r result flags correction d) d := by
  unfold completeRequest
  rw [h]
  by_cases hc : d.retrieval.completions = []
  · rw [if_pos hc]
    exact if_pos (List.isEmpty_iff.2 hc)
  · rw [if_neg hc]
    exact if_neg (mt List.isEmpty_iff.1 hc)

theorem completeRequest_retrieval (result : CompletionResult) (flags : CompletionFlags) (correction : Int)
    (h : requestOf d r.ticket = some q) :
    (completeRequest r result flags correction d).retrieval
      = (leftWith r.ticket (completionOfRequest r result flags correction d) d).retrieval := by
  rw [completeRequest_eq result flags correction h]
  split <;> rfl

theorem activeRequest_eq (ha : d.retrieval.attempt = some a) (hs : a.subject = .ticket r.ticket) (hr : requestOf d r.ticket = some r) :
    activeRequest d = some (a, r) := by
  unfold activeRequest
  rw [ha]
  dsimp only
  rw [hs]
  dsimp only
  rw [hr]
  rfl

theorem completeActive_eq (result : CompletionResult) (h : activeRequest d = some (a, r)) :
    completeActive result d = setAttempt none (completeRequest r result (gatheredFlags a r) a.correction d) := by
  unfold completeActive
  rw [h]

theorem disarmConfirm_unarmed (h : d.trigger.arm = none) : disarmConfirm d = d := by
  unfold disarmConfirm
  rw [h]

end

/-! ### The requests of the Request port -/

section
variable {s : State} {p : List Byte} {a : Answer}

theorem exec_retrieve (tag : Byte) (x : List Byte) (ht : takes s .request p)
    (ha : answerRetrieve p (heard .request (requestFrame tag p x) s) = a) :
    exec (.retrieve .request (requestFrame tag p x)) s = .next (answers s .request tag a.result a.payload a.dev) :=
  ha ▸ takeFrame_takes .retrieve .request tag p x answerRetrieve s ht rfl

theorem exec_cancel (tag : Byte) (x : List Byte) (ht : takes s .request p)
    (ha : answerCancel p (heard .request (requestFrame tag p x) s) = a) :
    exec (.cancel .request (requestFrame tag p x)) s = .next (answers s .request tag a.result a.payload a.dev) :=
  ha ▸ takeFrame_takes .cancel .request tag p x answerCancel s ht rfl

theorem exec_hint (tag : Byte) (x : List Byte) (ht : takes s .request p)
    (ha : answerHint p (heard .request (requestFrame tag p x) s) = a) :
    exec (.hint .request (requestFrame tag p x)) s = .next (answers s .request tag a.result a.payload a.dev) :=
  ha ▸ takeFrame_takes .hint .request tag p x answerHint s ht rfl

theorem exec_releaseHold (tag : Byte) (x : List Byte) (ht : takes s .request p)
    (ha : answerReleaseHold p (heard .request (requestFrame tag p x) s) = a) :
    exec (.releaseHold .request (requestFrame tag p x)) s = .next (answers s .request tag a.result a.payload a.dev) :=
  ha ▸ takeFrame_takes .releaseHold .request tag p x answerReleaseHold s ht rfl

end

end Sys2Proof.Proofs

/-! Hints: the list, the seek to the newest hint, its abandonment and its end: O51 (R178, R179). -/

namespace Sys2Proof.Proofs

open Sys2Proof Sys2Proof.Machine

/-! ### The hint list -/

section
variable {n : Nat} {hints : List Nat}

theorem addHint_eq (n : Nat) (hints : List Nat) :
    addHint n hints = n :: (hints.filter fun m => decide (m ≠ n)).take 3 := rfl

theorem addHint_nodup (h : hints.Nodup) : (addHint n hints).Nodup := by
  rw [addHint_eq, List.nodup_cons]
  exact ⟨fun hn => by simpa using (List.mem_filter.1 (List.mem_of_mem_take hn)).2, (h.filter _).take⟩

theorem addHint_length_le (n : Nat) (hints : List Nat) : (addHint n hints).length ≤ 4 := by
  rw [addHint_eq, List.length_cons, List.length_take]
  omega

theorem mem_of_mem_addHint {m : Nat} (hne : m ≠ n) (h : m ∈ addHint n hints) : m ∈ hints := by
  rw [addHint_eq] at h
  exact (List.mem_filter.1 (List.mem_of_mem_take (List.mem_of_ne_of_mem hne h))).1

/-- Without the new hint the list has room for at most three, so none is lost then. -/
theorem filter_hint_length_le (hl : hints.length ≤ 4) (h : hints.length < 4 ∨ n ∈ hints) :
    (hints.filter fun m => decide (m ≠ n)).length ≤ 3 := by
  rcases h with h | h
  · exact (List.length_filter_le _ _).trans (by omega)
  · have hshorter := List.length_filter_lt_length_iff_exists (p := fun m => decide (m ≠ n)) |>.2 ⟨n, h, by simp⟩
    omega

theorem mem_addHint {m : Nat} (hl : hints.length ≤ 4) (h : hints.length < 4 ∨ n ∈ hints) (hm : m ∈ hints) :
    m ∈ addHint n hints := by
  rw [addHint_eq, List.take_of_length_le (filter_hint_length_le hl h)]
  by_cases hne : m = n
  · exact hne ▸ List.mem_cons_self
  · exact List.mem_cons_of_mem _ (List.mem_filter.2 ⟨hm, by simpa using hne⟩)

end

/-! ### A seek of RETRIEVAL and a recall -/

section
variable {d : Dev}

/-- A seek of RETRIEVAL as the order in progress (R31). -/
def seekOrder (x : Int) (d : Dev) : CurrentOrder :=
  { order := { owner := .retrieval, kind := .seek x none }, seek := some (seekRun d x none), speed := 0, runPhase := false
    baseReported := false }

/-- The device after a seek of RETRIEVAL has begun. -/
def seekBegun (x : Int) (d : Dev) : Dev :=
  d.setTransport { d.transport with motion := .seek, stopReason := none, current := some (seekOrder x d) }

theorem retrievalSeek_begins (x : Int) (hg : d.transport.grant = .retrieval)
    (hm : d.transport.motion ∈ [MotionState.idle, .parked, .jog, .seek, .creep, .scan]) (hd : d.inputs.driveReady = true) :
    retrievalSeek x d = seekBegun x d :=
  (giveOrder_starts (o := { owner := .retrieval, kind := .seek x none }) hg hm (by simp)).trans (startOrder_seek rfl hd)

/-- Of the device only the focus controller and the ports differ. -/
def LensMoves (d e : Dev) : Prop := ∃ f ps, e = (d.setFocus f).setPorts ps

theorem LensMoves.refl (d : Dev) : LensMoves d d := ⟨d.focus, d.ports, rfl⟩

theorem LensMoves.setFocus {e : Dev} (h : LensMoves d e) (f : Focus) : LensMoves d (e.setFocus f) := by
  obtain ⟨-, ps, rfl⟩ := h
  exact ⟨f, ps, rfl⟩

theorem LensMoves.raise {e : Dev} (h : LensMoves d e) (port : PortId) (k : EventKind) : LensMoves d (Machine.raise port k e) := by
  obtain ⟨f, -, rfl⟩ := h
  exact ⟨f, _, rfl⟩

theorem LensMoves.ite {p : Prop} [Decidable p] {e f : Dev} (he : LensMoves d e) (hf : LensMoves d f) :
    LensMoves d (if p then e else f) := by
  split
  · exact he
  · exact hf

theorem LensMoves.snd_ite {α : Type} {p : Prop} [Decidable p] {x y : α × Dev} (hx : LensMoves d x.2) (hy : LensMoves d y.2) :
    LensMoves d (if p then x else y).2 := by
  split
  · exact hx
  · exact hy

theorem lensRest_lensMoves {e : Dev} (h : LensMoves d e) : LensMoves d (lensRest e) :=
  .ite ((h.setFocus _).raise _ _) (h.setFocus _)

theorem beginSettle_lensMoves {m : MoveRecord} {e : Dev} (h : LensMoves d e) : LensMoves d (beginSettle m e) :=
  .ite (lensRest_lensMoves (h.setFocus _)) (h.setFocus _)

/-- With no search to tell, a move request changes the focus controller alone, and the ports for a LENS_MOVE that ends. -/
theorem moveRequest_lensMoves (target : Nat) (req : Requester) (hs : d.focus.search = none) :
    LensMoves d (moveRequest target req d).2 := by
  unfold moveRequest
  cases hstate : d.focus.lens.state with
  | unhomed | fault | homing => exact .refl d
  | idle => exact .snd_ite (.refl d) (((LensMoves.refl d).setFocus _).setFocus _)
  | moving =>
    cases d.focus.lens.move <;> simp only [hs, Option.isSome_none, Bool.and_false, Bool.false_eq_true, if_false]
    all_goals exact .snd_ite (beginSettle_lensMoves (.refl d)) ((LensMoves.refl d).setFocus _)

theorem requestRecall_lensMoves (target : Option Nat) (hs : d.focus.search = none) : LensMoves d (requestRecall target d).2 := by
  unfold requestRecall
  split
  · exact .refl d
  · exact .snd_ite (moveRequest_lensMoves _ .retrieval hs) (.refl d)

end

/-! ### A hint served -/

section
variable {d : Dev} {n : Nat} {e : IndexEntry}

theorem indexedHint_head {rest : List Nat} (hh : d.retrieval.hints = n :: rest) (he : d.index.entries[n]? = some e) :
    indexedHint d = some n := by
  unfold indexedHint
  rw [hh]
  exact if_pos (List.getElem?_eq_some_iff.1 he).1

theorem answerHint_taken {p : List Byte} (hp : 2 ≤ p.length) :
    answerHint p d = taken .ok [] (d.setRetrieval { d.retrieval with hints := addHint (natAt p 0 2) d.retrieval.hints }) :=
  if_neg (by omega)

/-- The attempt that serves a hint. -/
def hintAttempt (n : Nat) : Attempt :=
  { subject := .hint n, phase := .hintSeek, recallReport := .neither, edge := none, correction := 0, gap := 0, correctionWindow := 0
    matchWindow := 0 }

/-- The newest hint leaves the list, and its attempt begins. -/
def hintTaken (n : Nat) (d : Dev) : Dev :=
  d.setRetrieval { d.retrieval with hints := d.retrieval.hints.tail, attempt := some (hintAttempt n) }

theorem serveHint_seeks {rest : List Nat} (hh : d.retrieval.hints = n :: rest) (he : d.index.entries[n]? = some e)
    (hg : d.transport.grant = .retrieval) (hm : d.transport.motion = .idle) (hd : d.inputs.driveReady = true)
    (hs : d.focus.search = none) :
    ∃ f ps, serveHint d = ((seekBegun e.middle (hintTaken n d)).setFocus f).setPorts ps := by
  have hmiddle : ((entryAt (hintTaken n d) n).map (·.middle)).getD d.metering.counter = e.middle := by
    rw [show entryAt (hintTaken n d) n = some e from he]
    rfl
  obtain ⟨f, ps, hrecall⟩ := requestRecall_lensMoves (d := seekBegun e.middle (hintTaken n d)) (some n) hs
  refine ⟨f, ps, ?_⟩
  unfold serveHint
  rw [indexedHint_head hh he]
  change (requestRecall (some n) (retrievalSeek (((entryAt (hintTaken n d) n).map (·.middle)).getD d.metering.counter)
    (hintTaken n d))).2 = _
  rw [hmiddle, retrievalSeek_begins (d := hintTaken n d) _ hg (by simp [hintTaken, hm]) hd, hrecall]

/-- The device while the seek of a hint begins to move the film. -/
structure HintServed (n : Nat) (e : IndexEntry) (d t : Dev) : Prop where
  retrieval : t.retrieval = { d.retrieval with hints := d.retrieval.hints.tail, attempt := some (hintAttempt n) }
  grant : t.transport.grant = .retrieval
  motion : t.transport.motion = .seek
  current : t.transport.current = some (seekOrder e.middle d)

/-- The newest hint names an entry, and nothing has a better claim to the grant: the step serves the hint (R179). -/
theorem settle_serves {rest : List Nat} (hinbox : d.inbox = []) (hrelease : ¬ (d.transport.releasePending = true ∧ atRest d = true))
    (hh : d.retrieval.hints = n :: rest) (he : d.index.entries[n]? = some e) (hdatum : d.roll.datum = true) (hrun : d.scan.run = none)
    (hqueue : d.retrieval.queue = []) (hhold : d.retrieval.hold = none) (ha : d.retrieval.attempt = none)
    (hg : d.transport.grant = .nobody) (hm : d.transport.motion = .idle) (ht : d.transport.tension = .hold)
    (hd : d.inputs.driveReady = true) (hs : d.focus.search = none) : HintServed n e d (settle d) := by
  have hindexed : indexedHint d = some n := indexedHint_head hh he
  have heligible : anyEligible d = false := anyEligible_of_empty hqueue
  have hscan : scanClaim d = false := scanClaim_of_noRun hrun
  have hclaim : hintClaim d = true := by
    simp [hintClaim, hintConditions, hh, heligible, hscan, runIn, hrun, hg, hm, ht, hdatum, hindexed]
  have hreaction : reaction d = some (serveHint (giveGrant .retrieval d)) := by
    rw [reaction_of_grant hinbox hrelease (runReaction_of_noRun hrun)
      (retrievalReaction_unoccupied hhold ha fun _ => by rw [hindexed]; rfl),
      grantReaction_unclaimed (by simp [grantFree, hg, hm]) hscan heligible, if_pos hclaim]
  rw [giveGrant_hold ht] at hreaction
  obtain ⟨f, ps, hserved⟩ := serveHint_seeks
    (d := d.setTransport { d.transport with grant := .retrieval, releasePending := false, parkTimer := 0 }) hh he rfl hm hd hs
  rw [hserved] at hreaction
  have hwaits : ¬ WaitsForLens (seekBegun e.middle (hintTaken n
      (d.setTransport { d.transport with grant := .retrieval, releasePending := false, parkTimer := 0 }))) := by
    rintro ⟨a, ha', hp⟩
    obtain rfl : hintAttempt n = a := Option.some.inj ha'
    simp [hintAttempt] at hp
  rw [settle_of_reaction hreaction]
  · exact ⟨rfl, rfl, rfl, rfl⟩
  · rw [settled_setPorts]
    refine settled_setFocus ?_ (.inr hwaits)
    refine settled_of_attempt (a := hintAttempt n) hinbox hrun hhold rfl (.inr ⟨rfl, hqueue⟩) ?_ rfl rfl
    simp [seekBegun, hintTaken]

end

/-! ### The end of a hint -/

section
variable {d : Dev} {a : Attempt}

/-- A hint seek ends by arrival, by failure, or by the STOP that abandons it; the keep decision follows (R179). -/
theorem retrievalReport_hint {o : OrderOutcome} (begun : Bool) (ha : d.retrieval.attempt = some a) (ho : o ≠ .failed .halted)
    (h : (a.phase = .hintSeek ∧ (o = .arrived ∨ ∃ c, o = .failed c)) ∨ a.phase = .hintStop) :
    retrievalReport o begun d = endHint d := by
  unfold retrievalReport
  rw [ha]
  dsimp only
  rcases h with ⟨hp, rfl | ⟨c, rfl⟩⟩ | hp
  · rw [hp]
  · rw [hp]
    cases c with
    | halted => exact absurd rfl ho
    | timeout | hunting | limit | driveNotReady | notOwner => rfl
  · rw [hp]
    cases o with
    | arrived | stopped | atLimit => rfl
    | failed c =>
      cases c with
      | halted => exact absurd rfl ho
      | timeout | hunting | limit | driveNotReady | notOwner => rfl

theorem retrievalReaction_abandons (ha : d.retrieval.attempt = some a) (hp : a.phase = .hintSeek) (hhold : d.retrieval.hold = none)
    (h : anyEligible d = true ∨ scanClaim d = true) :
    retrievalReaction d
      = some (giveStop .retrieval (d.setRetrieval { d.retrieval with attempt := some { a with phase := .hintStop } })) := by
  have hseeking : hintSeeking d = true := by
    unfold hintSeeking
    rw [ha]
    simp [hp]
  have hlens : lensArrived d = false := lensArrived_of_phase (by simp [ha, hp])
  rw [retrievalReaction_eq, if_neg (by simp [holdPreempted_of_noHold hhold]), if_neg (by simp [hlens]),
    if_pos (by simpa [hseeking] using h)]
  unfold abandonHint modifyAttempt
  rw [ha]
  rfl

end

/-- Settles O51: the list, the hint served in its step, and the end of its seek by the keep decision. -/
theorem hintsKeepTheNewestFour : Obligations.HintsKeepTheNewestFour := by
  refine ⟨fun s tag p x ht hp => ?taken, fun n hints hn hl => ?list, ?served, fun d a ha hphase => ?ends⟩
  case taken => exact exec_hint tag x ht (answerHint_taken hp)
  case list =>
    exact ⟨addHint_nodup hn, addHint_length_le n hints, rfl, fun m => mem_of_mem_addHint, fun h m => mem_addHint hl h⟩
  case served =>
    intro s tag p x n e ht hp hn he hdatum hrun hqueue hhold ha hg hm htension hcurrent hheld hd hs hset
    subst hn
    obtain ⟨hinbox, hrelease, -⟩ := (reaction_none_iff _).1 ((settled_heard .request (requestFrame tag p x) s).2 hset).1
    have hserved := settle_serves
      (d := (heard .request (requestFrame tag p x) s).setRetrieval
        { s.dev.retrieval with hints := addHint (natAt p 0 2) s.dev.retrieval.hints })
      hinbox (by simpa using hrelease) (addHint_eq _ _) he hdatum hrun hqueue hhold ha hg hm htension hd hs
    exact ⟨_, _, hintAttempt (natAt p 0 2), exec_hint tag x ht (answerHint_taken hp), rfl,
      congrArg Retrieval.hints hserved.retrieval, congrArg Retrieval.attempt hserved.retrieval, rfl, rfl,
      (congrArg Retrieval.queue hserved.retrieval).trans hqueue, hserved.grant, hserved.motion, hserved.current, rfl, rfl⟩
  case ends =>
    refine ⟨fun hhold h => retrievalReaction_abandons ha hphase hhold h, fun b o begun ho hb => ?_⟩
    have hended : takeReport (.orderEnded .retrieval o begun) (d.setRetrieval { d.retrieval with attempt := some b })
        = keepDecision (d.setRetrieval { d.retrieval with attempt := none }) := by
      refine retrievalReport_hint (d := d.setRetrieval { d.retrieval with attempt := some b }) begun rfl ho ?_
      rcases hb with ⟨rfl, ho'⟩ | rfl
      · exact .inl ⟨hphase, ho'⟩
      · exact .inr rfl
    dsimp only
    rw [hended]
    refine ⟨fun hg => keepDecision_without hg, fun hg h => keepDecision_selects hg h, fun hg hu h => keepDecision_releases hg ?_⟩
    rintro (hu' | ⟨he, hc⟩)
    · exact absurd (hu.symm.trans hu') (by simp)
    · rcases h with h | h
      · exact absurd (h.symm.trans he) (by simp)
      · exact absurd (hc.symm.trans h) (by simp)

end Sys2Proof.Proofs

/-! Requests that leave the queue, attempts that fail, and presentation holds: O49 and O50 (R167, R170, R173 to R177). -/

namespace Sys2Proof.Proofs

open Sys2Proof Sys2Proof.Machine

/-! ### A request that is not ACTIVE completes -/

section
variable {d : Dev} {r : RetrievalRequest} {p : List Byte}

/-- The record carries RETRIED alone of the flags (log entry 18). -/
theorem completeIdle_eq (result : CompletionResult) (h : requestOf d r.ticket = some r) :
    completeIdle result r d
      = if d.retrieval.completions = [] then
          raise .request .done (leftWith r.ticket
            (completionOfRequest r result { edge := none, recallReport := .neither, retried := r.retried } 0 d) d)
        else leftWith r.ticket
          (completionOfRequest r result { edge := none, recallReport := .neither, retried := r.retried } 0 d) d :=
  completeRequest_eq _ _ _ h

theorem answerCancel_notFound (hp : 1 ≤ p.length) (h : requestOf d (natAt p 0 1) = none) : answerCancel p d = refuse .notFound d := by
  unfold answerCancel needBytes
  dsimp only
  rw [if_neg (by omega), h]

theorem answerCancel_idle (hp : 1 ≤ p.length) (h : requestOf d (natAt p 0 1) = some r) (hs : r.state = .deferred ∨ r.state = .waiting) :
    answerCancel p d = taken .ok [] (completeIdle .cancelled r d) := by
  unfold answerCancel needBytes
  dsimp only
  rw [if_neg (by omega), h]
  dsimp only
  rcases hs with hs | hs <;> rw [hs]

theorem answerCancel_active (hp : 1 ≤ p.length) (h : requestOf d (natAt p 0 1) = some r) (hs : r.state = .active) :
    answerCancel p d = taken .ok [] (cancelActive d) := by
  unfold answerCancel needBytes
  dsimp only
  rw [if_neg (by omega), h]
  dsimp only
  rw [hs]

theorem exec_deferralExpiry (t : Nat) (s : State) : exec (.deferralExpiry t) s = .next (s.setDev (expireDeferred t s.dev)) := rfl

/-- A request is due to expire: it is DEFERRED, and its age has reached the deferral timeout (R167). -/
def DeferralDue (d : Dev) (r : RetrievalRequest) : Prop :=
  r.state = .deferred ∧ d.retrieval.cfg.deferralTimeout ≠ 0 ∧ d.retrieval.cfg.deferralTimeout * 1000 ≤ r.age

theorem expireDeferred_due {t : Nat} (h : requestOf d t = some r) (hdue : DeferralDue d r) :
    expireDeferred t d = settle (completeIdle .expired r d) := by
  unfold expireDeferred
  rw [h]
  exact if_pos hdue

theorem expireDeferred_waits {t : Nat} (h : requestOf d t = some r) (hdue : ¬ DeferralDue d r) : expireDeferred t d = d := by
  unfold expireDeferred
  rw [h]
  exact if_neg hdue

end

/-! ### An ACTIVE request cancelled -/

section
variable {d : Dev} {a : Attempt}

/-- The seek of an ACTIVE request is given a STOP, and the record follows at its end (R177). -/
theorem cancelActive_stops (ha : d.retrieval.attempt = some a) (hp : a.phase = .present ∨ a.phase = .approach)
    (hg : d.transport.grant = .retrieval) (hm : d.transport.motion = .seek) (harm : d.trigger.arm = none) :
    cancelActive d = enterStopping .order (some (stopOrder .retrieval))
      (d.setRetrieval { d.retrieval with attempt := some { a with phase := .cancelling } }) := by
  have hmodify : modifyAttempt (fun a => { a with phase := .cancelling }) d
      = d.setRetrieval { d.retrieval with attempt := some { a with phase := .cancelling } } := by
    unfold modifyAttempt
    rw [ha]
    rfl
  have hcancelling : (a.phase == AttemptPhase.cancelling) = false := by rcases hp with hp | hp <;> rw [hp] <;> rfl
  unfold cancelActive
  rw [disarmConfirm_unarmed harm, hmodify, ha]
  dsimp only
  rw [hcancelling, if_neg (by simp)]
  exact giveStop_moving hg (by simp [hm, movingState])

/-- A settled device stays so when its attempt goes over to a phase that awaits a report. -/
theorem settled_setAttempt {b : Attempt} (h : Settled d) (hl : b.phase ≠ .lensWait) (hh : b.phase ≠ .hintSeek) :
    Settled (d.setRetrieval { d.retrieval with attempt := some b }) := by
  obtain ⟨hinbox, hrelease, hrun, hretrieval, hgrant⟩ := (reaction_none_iff d).1 h.1
  obtain ⟨hhold, -, -, hdrop⟩ := (retrievalReaction_none_iff d).1 hretrieval
  have hphase : ∀ a, some b = some a → a.phase ≠ .lensWait ∧ a.phase ≠ .hintSeek := fun a ha => by
    obtain rfl := Option.some.inj ha
    exact ⟨hl, hh⟩
  have hseeking : hintSeeking (d.setRetrieval { d.retrieval with attempt := some b }) = false :=
    hintSeeking_of_phase fun a ha => (hphase a ha).2
  refine ⟨(reaction_none_iff _).2 ⟨hinbox, hrelease, ?_, ?_, ?_⟩, (stopParkTimer_eq_iff _).2 ((stopParkTimer_eq_iff d).1 h.2)⟩
  · exact (runReaction_none_iff _).2 ((runReaction_none_iff d).1 hrun)
  · exact (retrievalReaction_none_iff _).2 ⟨hhold, lensArrived_of_phase fun a ha => (hphase a ha).1,
      by rw [hseeking, Bool.false_and], hdrop⟩
  · exact (grantReaction_none_iff _).2 ((grantReaction_none_iff d).1 hgrant)

/-- Nothing follows the STOP in the step of the CANCEL. -/
theorem settle_cancelActive (ha : d.retrieval.attempt = some a) (hp : a.phase = .present ∨ a.phase = .approach)
    (hg : d.transport.grant = .retrieval) (hm : d.transport.motion = .seek) (harm : d.trigger.arm = none) (hset : Settled d) :
    settle (cancelActive d) = enterStopping .order (some (stopOrder .retrieval))
      (d.setRetrieval { d.retrieval with attempt := some { a with phase := .cancelling } }) := by
  rw [cancelActive_stops ha hp hg hm harm]
  exact settle_of_settled _ (settled_enterStopping (settled_setAttempt hset (by simp) (by simp)) (by simp [hg]))

end

/-! ### An attempt that fails -/

section
variable {d : Dev} {a : Attempt} {r : RetrievalRequest}

theorem failAttempt_eq (hactive : activeRequest d = some (a, r)) (harm : d.trigger.arm = none) :
    failAttempt d = keepDecision (if r.retried then completeActive .motionFailed d
      else setAttempt none (modifyRequest r.ticket (fun q => { q with state := .waiting, retried := true }) d)) := by
  unfold failAttempt
  dsimp only
  rw [disarmConfirm_unarmed harm, hactive]

/-- A first failure puts the request back to WAITING (R176). -/
theorem failAttempt_retries (hactive : activeRequest d = some (a, r)) (hq : d.retrieval.queue = [r]) (harm : d.trigger.arm = none)
    (hg : d.transport.grant = .nobody) (hr : r.retried = false) :
    failAttempt d = d.setRetrieval { d.retrieval with attempt := none, queue := [{ r with state := .waiting, retried := true }] } := by
  have hqueue : d.retrieval.queue.map (fun q => if q.ticket = r.ticket then { q with state := .waiting, retried := true } else q)
      = [{ r with state := .waiting, retried := true }] := by simp [hq]
  rw [failAttempt_eq hactive harm, hr, if_neg (by simp), keepDecision_without (by simp [setAttempt, modifyRequest, modifyRequests, hg])]
  unfold modifyRequest modifyRequests
  rw [hqueue]
  rfl

/-- A failure after the retry completes the request MOTION_FAILED (R176). -/
theorem failAttempt_completes (hactive : activeRequest d = some (a, r)) (hfound : requestOf d r.ticket = some r)
    (harm : d.trigger.arm = none) (hg : d.transport.grant = .nobody) (hr : r.retried = true) :
    (failAttempt d).retrieval = { (leftWith r.ticket (completionOfRequest r .motionFailed (gatheredFlags a r) a.correction d) d).retrieval
      with attempt := none } := by
  have hcompleted := completeRequest_retrieval (r := r) .motionFailed (gatheredFlags a r) a.correction hfound
  have hgrant : (completeActive .motionFailed d).transport.grant ≠ .retrieval := by
    rw [completeActive_eq .motionFailed hactive, completeRequest_eq _ _ _ hfound]
    have hne : d.transport.grant ≠ .retrieval := by simp [hg]
    split <;> exact hne
  rw [failAttempt_eq hactive harm, if_pos hr, keepDecision_without hgrant, completeActive_eq .motionFailed hactive]
  unfold setAttempt
  rw [hcompleted]
  rfl

end

/-- Settles O49: each request by the state of its request, and the failure of an attempt by its retry. -/
theorem waitingRequestsLeaveWithOneRecord : Obligations.WaitingRequestsLeaveWithOneRecord := by
  refine ⟨fun s tag p x r => ⟨fun ht hp => ⟨fun hnone => ?unknown, fun hr hs => ?idle,
    fun a hr hs ha hphase hg hm harm hset => ?active⟩,
    fun hr => ⟨fun hdue => ?due, fun hdue => ?early⟩⟩, fun d a r ha hsubject hr hq hs harm hg => ?fails⟩
  case unknown =>
    exact exec_cancel tag x ht (answerCancel_notFound (d := heard .request (requestFrame tag p x) s) hp (requestOf_none hnone))
  case idle =>
    have hfound : requestOf (heard .request (requestFrame tag p x) s) r.ticket = some r := by
      rw [requestOf_ticket hr]
      exact hr
    have hanswer := answerCancel_idle (d := heard .request (requestFrame tag p x) s) hp hr hs
    rw [completeIdle_eq .cancelled hfound] at hanswer
    exact exec_cancel tag x ht hanswer
  case active =>
    have hset' : Settled (heard .request (requestFrame tag p x) s) := (settled_heard _ _ _).2 hset
    exact exec_cancel tag x ht ((answerCancel_active (d := heard .request (requestFrame tag p x) s) hp hr hs).trans
      (taken_of_settle (settle_cancelActive ha hphase hg hm harm hset')))
  case due =>
    rw [exec_deferralExpiry, expireDeferred_due hr hdue, completeIdle_eq .expired hr]
    rfl
  case early =>
    rw [exec_deferralExpiry, expireDeferred_waits hr hdue]
    rfl
  case fails =>
    have hactive := activeRequest_eq ha hsubject hr
    refine ⟨fun hretried => failAttempt_retries hactive hq harm hg hretried, fun hretried => ?_⟩
    rw [failAttempt_completes hactive hr harm hg hretried]
    exact ⟨rfl, by simp [leftWith, hq, removeTicket], by rw [← hretried]; rfl⟩

/-! ### The end of a hold -/

section
variable {d : Dev} {p : List Byte} {h : Hold}

theorem exec_holdTimeout (s : State) : exec .holdTimeout s = .next (s.setDev (holdTimeout s.dev)) := rfl

theorem answerReleaseHold_none (hh : d.retrieval.hold = none) : answerReleaseHold p d = answered [] d := by
  unfold answerReleaseHold
  rw [hh]

theorem answerReleaseHold_ends (hh : d.retrieval.hold = some h) : answerReleaseHold p d = taken .ok [] (endHold d) := by
  unfold answerReleaseHold
  rw [hh]

theorem holdTimeout_none (hh : d.retrieval.hold = none) : holdTimeout d = d := by
  unfold holdTimeout
  rw [hh]

theorem holdTimeout_early (hh : d.retrieval.hold = some h) (ht : h.timer < h.time) : holdTimeout d = d := by
  unfold holdTimeout
  rw [hh]
  exact if_neg (not_le.2 ht)

theorem holdTimeout_ends (hh : d.retrieval.hold = some h) (ht : h.time ≤ h.timer) : holdTimeout d = settle (endHold d) := by
  unfold holdTimeout
  rw [hh]
  exact if_pos ht

/-- The hold is over. -/
def unheld (d : Dev) : Dev := d.setRetrieval { d.retrieval with hold := none }

/-- The hold is over and the grant is NONE. -/
def holdEnded (d : Dev) : Dev := (unheld d).setTransport { d.transport with grant := .nobody, releasePending := false }

/-- With no request to serve, the end of a hold releases the grant (R29, R174). -/
theorem endHold_releases (hq : d.retrieval.queue = []) (hg : d.transport.grant = .retrieval) (hrest : atRest d = true)
    (harm : d.trigger.arm = none) : endHold d = holdEnded d := by
  have heligible : anyEligible (unheld d) = false := anyEligible_of_empty hq
  have hkeeps : ¬ KeepsGrant (unheld d) := by simp [KeepsGrant, heligible, anyUrgent_of_noneEligible heligible]
  calc endHold d = releaseGrant .retrieval (unheld d) := keepDecision_releases hg hkeeps
    _ = holdEnded d := releaseGrant_atRest hg (by simp) hrest harm

/-- With nothing else asked of the part, nothing follows the end of a hold. -/
theorem settle_endHold (hq : d.retrieval.queue = []) (ha : d.retrieval.attempt = none) (hh : d.retrieval.hints = [])
    (hrun : d.scan.run = none) (harm : d.trigger.arm = none) (hg : d.transport.grant = .retrieval) (hrest : atRest d = true)
    (hset : Settled d) : settle (endHold d) = holdEnded d := by
  obtain ⟨hinbox, -⟩ := (reaction_none_iff d).1 hset.1
  have hpark : d.transport.parkTimer = 0 := parkTimer_of_settled hset (parkConditions_of_owned (by simp [hg]))
  rw [endHold_releases hq hg hrest harm]
  exact settle_of_settled _ (settled_of_unoccupied hinbox hrun rfl ha hq hh rfl fun _ => hpark)

end

/-! ### The arrival of the seek to the resolved position -/

section
variable {d : Dev} {a : Attempt} {r : RetrievalRequest}

theorem modifyAttempt_eq (f : Attempt → Attempt) (ha : d.retrieval.attempt = some a) :
    modifyAttempt f d = d.setRetrieval { d.retrieval with attempt := some (f a) } := by
  unfold modifyAttempt
  rw [ha]
  rfl

theorem presentArrived_lensMoving (hl : d.focus.lens.state = .moving) :
    presentArrived d = modifyAttempt (fun a => { a with phase := .lensWait }) d := if_pos hl

/-- A lens at rest: the request completes DONE and its hold begins (R170, R174). -/
theorem presentArrived_done (hl : d.focus.lens.state ≠ .moving) (hactive : activeRequest d = some (a, r))
    (hfound : requestOf d r.ticket = some r) (ht : d.retrieval.cfg.holdTime ≠ 0) :
    presentArrived d = (completeRequest r .done (gatheredFlags a r) a.correction d).setRetrieval
      { (leftWith r.ticket (completionOfRequest r .done (gatheredFlags a r) a.correction d) d).retrieval with
        attempt := none, hold := some { class_ := r.class_, timer := 0, time := d.retrieval.cfg.holdTime } } := by
  have hcompleted := completeRequest_retrieval (r := r) .done (gatheredFlags a r) a.correction hfound
  unfold presentArrived completeDone
  rw [if_neg hl, hactive]
  dsimp only
  rw [completeActive_eq .done hactive]
  unfold startHold setAttempt
  rw [hcompleted]
  exact if_neg ht

end

/-- Settles O50: the two ends of a hold, and its beginning at the arrival. -/
theorem holdsEndAndReleaseTheGrant : Obligations.HoldsEndAndReleaseTheGrant := by
  refine ⟨fun s tag p x ht => ⟨fun hh => ?without, fun h hh htime => ?early,
    fun h hh hq ha hhints hrun harm hg hm hcurrent hheld hset => ?ends⟩, fun d a r ha hsubject hr htime => ?arrives⟩
  case without =>
    refine ⟨exec_releaseHold tag x ht (answerReleaseHold_none (d := heard .request (requestFrame tag p x) s) hh), ?_⟩
    rw [exec_holdTimeout, holdTimeout_none hh]
    rfl
  case early =>
    rw [exec_holdTimeout, holdTimeout_early hh htime]
    rfl
  case ends =>
    have hrest : atRest s.dev = true := by simp [atRest, hm, hcurrent, hheld, movingState]
    have hset' : Settled (heard .request (requestFrame tag p x) s) := (settled_heard _ _ _).2 hset
    refine ⟨exec_releaseHold tag x ht ((answerReleaseHold_ends (d := heard .request (requestFrame tag p x) s) hh).trans
      (taken_of_settle (settle_endHold hq ha hhints hrun harm hg hrest hset'))), fun htime => ?_⟩
    rw [exec_holdTimeout, holdTimeout_ends hh htime, settle_endHold hq ha hhints hrun harm hg hrest hset]
    rfl
  case arrives =>
    have hactive := activeRequest_eq ha hsubject hr
    refine ⟨fun hl => (presentArrived_lensMoving hl).trans (modifyAttempt_eq _ ha), fun hl => ?_⟩
    rw [presentArrived_done hl hactive hr htime]
    refine ⟨rfl, fun hempty => ?_⟩
    show eventSet (completeRequest r .done (gatheredFlags a r) a.correction d) .request .done
    rw [completeRequest_eq _ _ _ hr, if_pos hempty]
    exact raise_sets .request .done _ (by decide)

end Sys2Proof.Proofs

/-! RETRIEVE: its refusals, the ticket that it issues, and the request that joins the queue: O47 (R164 to R166). -/

namespace Sys2Proof.Proofs

open Sys2Proof Sys2Proof.Machine

/-! ### The ticket -/

section
variable {d : Dev} {t : Nat}

/-- The tickets of the queue and of the completion list. -/
def ticketsInUse (d : Dev) : List Nat := d.retrieval.queue.map (·.ticket) ++ d.retrieval.completions.map (·.ticket)

theorem ticketInUse_iff : ticketInUse d t = true ↔ t ∈ ticketsInUse d := by
  simp [ticketInUse, ticketsInUse]

theorem not_ticketInUse_iff :
    ticketInUse d t = false ↔ (∀ r ∈ d.retrieval.queue, r.ticket ≠ t) ∧ ∀ c ∈ d.retrieval.completions, c.ticket ≠ t := by
  simp [ticketInUse]

/-- The tickets run through 1 to 255 and begin again (R165). -/
theorem nextTicket_iterate (h1 : 1 ≤ t) (h255 : t ≤ 255) (k : Nat) : nextTicket^[k] t = (t - 1 + k) % 255 + 1 := by
  induction k with
  | zero =>
    rw [Function.iterate_zero_apply]
    omega
  | succ k ih =>
    rw [Function.iterate_succ_apply', ih, nextTicket]
    split <;> omega

/-- The search passes over tickets in use and stops at the first that is free, or at its bound. -/
theorem findTicket_spec (d : Dev) (fuel t : Nat) :
    ∃ k ≤ fuel, findTicket d fuel t = nextTicket^[k] t ∧ (∀ i < k, ticketInUse d (nextTicket^[i] t) = true)
      ∧ (k < fuel → ticketInUse d (nextTicket^[k] t) = false) := by
  induction fuel generalizing t with
  | zero => exact ⟨0, le_rfl, rfl, by simp, by simp⟩
  | succ fuel ih =>
    cases hused : ticketInUse d t with
    | false => exact ⟨0, by omega, by simp [findTicket, hused], by simp, fun _ => hused⟩
    | true =>
      obtain ⟨k, hk, hfind, hbefore, hfree⟩ := ih (nextTicket t)
      refine ⟨k + 1, by omega, by simp [findTicket, hused, hfind], fun i hi => ?_, fun hlt => hfree (by omega)⟩
      cases i with
      | zero => exact hused
      | succ i => exact hbefore i (by omega)

/-- Fewer than 25 tickets are in use, so 25 in a row are not. -/
theorem freshTicket_free (h1 : 1 ≤ d.retrieval.ticketCounter) (h255 : d.retrieval.ticketCounter ≤ 255)
    (hl : d.retrieval.queue.length + d.retrieval.completions.length < 24) :
    1 ≤ freshTicket d ∧ freshTicket d ≤ 255 ∧ ticketInUse d (freshTicket d) = false := by
  obtain ⟨k, hk, hfind, hbefore, hfree⟩ := findTicket_spec d 25 d.retrieval.ticketCounter
  have hkth := nextTicket_iterate h1 h255
  have hdistinct : ((List.range k).map (nextTicket^[·] d.retrieval.ticketCounter)).Nodup := by
    refine List.Nodup.map_on (fun i hi j hj hij => ?_) List.nodup_range
    rw [List.mem_range] at hi hj
    rw [hkth, hkth] at hij
    omega
  have hused : (List.range k).map (nextTicket^[·] d.retrieval.ticketCounter) ⊆ ticketsInUse d := by
    intro m hm
    obtain ⟨i, hi, rfl⟩ := List.mem_map.1 hm
    exact ticketInUse_iff.1 (hbefore i (List.mem_range.1 hi))
  have hfew := (hdistinct.subperm hused).length_le
  simp only [List.length_map, List.length_range, ticketsInUse, List.length_append] at hfew
  have hfresh : freshTicket d = nextTicket^[k] d.retrieval.ticketCounter := hfind
  rw [hfresh]
  refine ⟨?_, ?_, hfree (by omega)⟩ <;> rw [hkth] <;> omega

end

/-! ### RETRIEVE -/

section
variable {d : Dev} {p : List Byte} {record : RollRecord} {target : Target} {c : RequestClass}

theorem rollMatches_iff {n : Nat} (h : d.roll.record = some record) : rollMatches d n = true ↔ record.ident = n := by
  unfold rollMatches
  rw [h]
  exact beq_iff_eq

theorem answerRetrieve_wrongRoll (hp : 12 ≤ p.length) (h : ¬ rollMatches d (natAt p 0 4) = true) :
    answerRetrieve p d = refuse .wrongRoll d := by
  unfold answerRetrieve needBytes
  dsimp only
  rw [if_neg (by omega), if_pos (by simpa using h)]

/-- What a RETRIEVE for the roll does once its fields have been read (R164, steps 2 and 3). -/
theorem answerRetrieve_read (hp : 12 ≤ p.length) (hroll : rollMatches d (natAt p 0 4) = true)
    (htarget : targetOf (natAt p 4 1) p = some target) (hc : requestClassOf (natAt p 11 1) = some c)
    (hok : targetOk d target (optionsOf p).1 = true) :
    answerRetrieve p d = if queueFull d = true then refuse .full d
      else taken .accepted (leBytes 1 (freshTicket d))
        (admitRequest (newRequest (freshTicket d) target c (optionsOf p).1 (optionsOf p).2) d) := by
  unfold answerRetrieve needBytes
  dsimp only
  rw [if_neg (by omega), if_neg (by simp [hroll]), htarget, hc]
  dsimp only
  rw [if_neg (by simp [hok])]

theorem queueFull_iff : queueFull d = true ↔
    d.retrieval.queue.length = 16 ∨ d.retrieval.queue.length + d.retrieval.completions.length = 24 := by
  unfold queueFull
  rw [Bool.or_eq_true, beq_iff_eq, beq_iff_eq]
  rfl

end

/-- Settles O47, by the order of the checks and the search for a ticket. -/
theorem retrieveIssuesAFreshTicket : Obligations.RetrieveIssuesAFreshTicket := by
  intro s tag p x record target c ht hp hrecord htarget hc hok h1 h255
  have hmatches : rollMatches (heard .request (requestFrame tag p x) s) (natAt p 0 4) = true ↔ record.ident = natAt p 0 4 :=
    rollMatches_iff hrecord
  have hread := fun hroll => answerRetrieve_read (d := heard .request (requestFrame tag p x) s) hp (hmatches.2 hroll) htarget hc hok
  refine ⟨fun hroll => exec_retrieve tag x ht (answerRetrieve_wrongRoll hp (mt hmatches.1 hroll)),
    fun hroll hfull => exec_retrieve tag x ht ((hread hroll).trans (if_pos (queueFull_iff.2 hfull))), fun hroll hq hl => ?_⟩
  have hroom : ¬ queueFull (heard .request (requestFrame tag p x) s) = true := fun hfull => by
    rcases queueFull_iff.1 hfull with (hfull : s.dev.retrieval.queue.length = 16)
      | (hfull : s.dev.retrieval.queue.length + s.dev.retrieval.completions.length = 24) <;> omega
  obtain ⟨hlow, hhigh, hfree⟩ := freshTicket_free (d := heard .request (requestFrame tag p x) s) h1 h255 hl
  obtain ⟨hqueue, hcompletions⟩ := not_ticketInUse_iff.1 hfree
  exact ⟨_, hlow, hhigh, hqueue, hcompletions, exec_retrieve tag x ht ((hread hroll).trans (if_neg hroom))⟩

end Sys2Proof.Proofs

/-! The selection of a request and the recall of a stored focus step (R104, R169). -/

namespace Sys2Proof.Proofs

open Sys2Proof Sys2Proof.Machine

/-! ### The nearest request -/

section
variable {d : Dev} {r q : RetrievalRequest}

/-- How far a request lies from the counter. -/
def farness (d : Dev) (q : RetrievalRequest) : Nat := (whereLies d q - d.metering.counter).natAbs

theorem nearestRequest_cons (d : Dev) (r : RetrievalRequest) (rest : List RetrievalRequest) :
    nearestRequest d (r :: rest) = match nearestRequest d rest with
      | none => some r
      | some s => if farness d r ≤ farness d s then some r else some s := rfl

/-- The nearest of a list, the first of those equally near. -/
structure NearestOf (d : Dev) (rs : List RetrievalRequest) (r : RetrievalRequest) : Prop where
  nearest : ∀ q ∈ rs, farness d r ≤ farness d q
  first : ∃ pre post, rs = pre ++ r :: post ∧ ∀ q ∈ pre, farness d r < farness d q

theorem nearestRequest_none_iff {rs : List RetrievalRequest} : nearestRequest d rs = none ↔ rs = [] := by
  cases rs with
  | nil => simp [nearestRequest]
  | cons r rest =>
    rw [nearestRequest_cons]
    cases nearestRequest d rest with
    | none => simp
    | some s =>
      dsimp only
      split <;> simp

theorem nearestRequest_nearest {rs : List RetrievalRequest} (h : nearestRequest d rs = some r) : NearestOf d rs r := by
  induction rs generalizing r with
  | nil => simp [nearestRequest] at h
  | cons s rest ih =>
    rw [nearestRequest_cons] at h
    cases hrest : nearestRequest d rest with
    | none =>
      obtain rfl : s = r := by simpa [hrest] using h
      rw [nearestRequest_none_iff.1 hrest]
      exact ⟨by simp, [], [], rfl, by simp⟩
    | some t =>
      obtain ⟨hnearest, pre, post, hsplit, hbefore⟩ := ih hrest
      rw [hrest] at h
      dsimp only at h
      split at h
      next hle =>
        obtain rfl : s = r := by simpa using h
        refine ⟨fun q hq => ?_, [], rest, rfl, by simp⟩
        rcases List.mem_cons.1 hq with rfl | hq
        · exact le_rfl
        · exact hle.trans (hnearest q hq)
      next hgt =>
        obtain rfl : t = r := by simpa using h
        refine ⟨fun q hq => ?_, s :: pre, post, by rw [hsplit]; rfl, fun q hq => ?_⟩
        · rcases List.mem_cons.1 hq with rfl | hq
          · omega
          · exact hnearest q hq
        · rcases List.mem_cons.1 hq with rfl | hq
          · omega
          · exact hbefore q hq

/-- The first of a filtered list that are equally near comes, in the list itself, before all others at its place. -/
theorem NearestOf.earliest {rs : List RetrievalRequest} {p : RetrievalRequest → Bool} (h : NearestOf d (rs.filter p) r) :
    ∃ pre post, rs = pre ++ r :: post ∧ ∀ q ∈ pre, p q = true → farness d q ≠ farness d r := by
  obtain ⟨pre, post, hsplit, hbefore⟩ := h.first
  obtain ⟨l, rest, rfl, hl, hrest⟩ := List.filter_eq_append_iff.1 hsplit
  obtain ⟨m, rest', rfl, hm, -, -⟩ := List.filter_eq_cons_iff.1 hrest
  refine ⟨l ++ m, rest', by simp, fun q hq hp => ?_⟩
  rcases List.mem_append.1 hq with hq | hq
  · exact (hbefore q (hl ▸ List.mem_filter.2 ⟨hq, hp⟩)).ne'
  · exact absurd hp (hm q hq)

end

/-! ### The selection (R169) -/

section
variable {d : Dev} {r q : RetrievalRequest}

/-- A request that a selection considers, but for the datum: it is WAITING and of the class chosen. -/
def Among (d : Dev) (q : RetrievalRequest) : Prop :=
  q ∈ d.retrieval.queue ∧ q.state = .waiting ∧ q.class_ = if anyUrgent d = true then RequestClass.urgent else .normal

theorem mem_considered_iff : q ∈ considered d ↔ Among d q ∧ d.roll.datum = true := by
  simp only [considered, eligible, consideredClass, Among, List.mem_filter, Bool.and_eq_true, beq_iff_eq]
  tauto

/-- Those considered that lie ahead in the last direction of travel. -/
def aheadOf (d : Dev) : List RetrievalRequest := (considered d).filter (liesAhead d d.transport.lastDirection)

/-- Those considered that lie behind it. -/
def behindOf (d : Dev) : List RetrievalRequest := (considered d).filter (liesAhead d d.transport.lastDirection.opposite)

theorem chooseRequest_eq (d : Dev) :
    chooseRequest d = ((considered d).find? fun q => decide (d.retrieval.cfg.bypassLimit ≤ q.bypass)).or
      ((nearestRequest d (aheadOf d)).or (nearestRequest d (behindOf d))) := by
  unfold chooseRequest aheadOf behindOf
  dsimp only
  cases (considered d).find? fun q => decide (d.retrieval.cfg.bypassLimit ≤ q.bypass) with
  | some r => rfl
  | none =>
    dsimp only
    cases nearestRequest d ((considered d).filter (liesAhead d d.transport.lastDirection)) <;> rfl

/-- A request lies ahead in the last direction of travel. -/
def Ahead (d : Dev) (q : RetrievalRequest) : Prop :=
  if d.transport.lastDirection = .forward then d.metering.counter ≤ whereLies d q else whereLies d q ≤ d.metering.counter

theorem liesAhead_iff : liesAhead d d.transport.lastDirection q = true ↔ Ahead d q := by
  unfold liesAhead Ahead
  cases d.transport.lastDirection <;> simp

theorem liesBehind_of_not_ahead (h : ¬ Ahead d q) : liesAhead d d.transport.lastDirection.opposite q = true := by
  unfold Ahead at h
  cases hdir : d.transport.lastDirection <;> simp [hdir, Direction.opposite, liesAhead] at h ⊢ <;> omega

theorem mem_aheadOf_iff : q ∈ aheadOf d ↔ q ∈ considered d ∧ Ahead d q := by
  rw [aheadOf, List.mem_filter, liesAhead_iff]

/-- Below the bypass limit the selection is the elevator's: the nearest ahead, or with none ahead the nearest behind. -/
theorem chooseRequest_elevator (h : chooseRequest d = some r)
    (hlimit : ∀ q ∈ considered d, ¬ d.retrieval.cfg.bypassLimit ≤ q.bypass) :
    NearestOf d (aheadOf d) r ∨ (aheadOf d = [] ∧ NearestOf d (behindOf d) r) := by
  have hnone : (considered d).find? (fun q => decide (d.retrieval.cfg.bypassLimit ≤ q.bypass)) = none :=
    List.find?_eq_none.2 fun q hq => by simpa using hlimit q hq
  rw [chooseRequest_eq, hnone, Option.none_or] at h
  rcases Option.or_eq_some_iff.1 h with h | ⟨hahead, h⟩
  · exact .inl (nearestRequest_nearest h)
  · exact .inr ⟨nearestRequest_none_iff.1 hahead, nearestRequest_nearest h⟩

theorem NearestOf.mem {rs : List RetrievalRequest} (h : NearestOf d rs r) : r ∈ rs := by
  obtain ⟨pre, post, rfl, -⟩ := h.first
  simp

theorem mem_considered_of_chosen (h : chooseRequest d = some r) : r ∈ considered d := by
  rw [chooseRequest_eq] at h
  rcases Option.or_eq_some_iff.1 h with h | ⟨-, h⟩
  · exact List.mem_of_find?_eq_some h
  · rcases Option.or_eq_some_iff.1 h with h | ⟨-, h⟩
    · exact (List.mem_filter.1 (nearestRequest_nearest h).mem).1
    · exact (List.mem_filter.1 (nearestRequest_nearest h).mem).1

/-- A request at the bypass limit goes first, the earliest by arrival. -/
theorem chooseRequest_limit {pre post : List RetrievalRequest} (hdatum : d.roll.datum = true)
    (hqueue : d.retrieval.queue = pre ++ q :: post) (hq : Among d q) (hlimit : d.retrieval.cfg.bypassLimit ≤ q.bypass)
    (hbefore : ∀ x ∈ pre, Among d x → ¬ d.retrieval.cfg.bypassLimit ≤ x.bypass) : chooseRequest d = some q := by
  have hfound : (considered d).find? (fun q => decide (d.retrieval.cfg.bypassLimit ≤ q.bypass)) = some q := by
    have hpre : (pre.filter fun r => eligible d r && r.class_ == consideredClass d).find?
        (fun q => decide (d.retrieval.cfg.bypassLimit ≤ q.bypass)) = none := by
      refine List.find?_eq_none.2 fun x hx => ?_
      obtain ⟨hmem, hp⟩ := List.mem_filter.1 hx
      have hx : x ∈ considered d := List.mem_filter.2 ⟨by simp [hqueue, hmem], hp⟩
      simpa using hbefore x hmem (mem_considered_iff.1 hx).1
    have hpost : (eligible d q && q.class_ == consideredClass d) = true :=
      (List.mem_filter.1 (mem_considered_iff.2 ⟨hq, hdatum⟩)).2
    rw [considered, hqueue, List.filter_append, List.find?_append, hpre, Option.none_or, List.filter_cons, if_pos hpost,
      List.find?_cons_of_pos (by simpa using hlimit)]
  rw [chooseRequest_eq, hfound, Option.some_or]

/-- Where any request is eligible, one is considered. -/
theorem considered_ne_nil (h : anyEligible d = true) : considered d ≠ [] := by
  have hmem : ∃ q, q ∈ considered d := by
    cases hu : anyUrgent d with
    | true =>
      obtain ⟨q, ⟨hq, hs, hdatum⟩, hc⟩ := (anyUrgent_iff d).1 hu
      exact ⟨q, mem_considered_iff.2 ⟨⟨hq, hs, by rw [hc, if_pos hu]⟩, hdatum⟩⟩
    | false =>
      obtain ⟨q, hq, hs, hdatum⟩ := (anyEligible_iff d).1 h
      have hc : q.class_ = .normal := by
        cases hc : q.class_ with
        | normal => rfl
        | urgent => exact absurd ((anyUrgent_iff d).2 ⟨q, ⟨hq, hs, hdatum⟩, hc⟩) (by simp [hu])
      exact ⟨q, mem_considered_iff.2 ⟨⟨hq, hs, by rw [hc, if_neg (by simp [hu])]⟩, hdatum⟩⟩
  obtain ⟨q, hq⟩ := hmem
  exact List.ne_nil_of_mem hq

theorem chooseRequest_some (h : anyEligible d = true) : ∃ q, chooseRequest d = some q := by
  obtain ⟨q, hq⟩ := List.exists_mem_of_ne_nil _ (considered_ne_nil h)
  refine Option.ne_none_iff_exists'.1 fun hnone => ?_
  rw [chooseRequest_eq, Option.or_eq_none_iff, Option.or_eq_none_iff] at hnone
  obtain ⟨-, hahead, hbehind⟩ := hnone
  have hq' : ¬ Ahead d q := fun ha => by
    have hmem := mem_aheadOf_iff.2 ⟨hq, ha⟩
    rw [nearestRequest_none_iff.1 hahead] at hmem
    exact absurd hmem List.not_mem_nil
  have hmem : q ∈ behindOf d := List.mem_filter.2 ⟨hq, liesBehind_of_not_ahead hq'⟩
  rw [nearestRequest_none_iff.1 hbehind] at hmem
  exact absurd hmem List.not_mem_nil

theorem chooseRequest_none (h : anyEligible d = false) : chooseRequest d = none :=
  Option.eq_none_iff_forall_ne_some.2 fun q hq => by
    obtain ⟨⟨hmem, hs, -⟩, hdatum⟩ := mem_considered_iff.1 (mem_considered_of_chosen hq)
    exact absurd ((anyEligible_iff d).2 ⟨q, hmem, hs, hdatum⟩) (by simp [h])

theorem selectNext_chosen (h : chooseRequest d = some q) : selectNext d = startAttempt q d := by
  unfold selectNext
  rw [h]

theorem selectNext_none (h : chooseRequest d = none) : selectNext d = releaseGrant .retrieval d := by
  unfold selectNext
  rw [h]

/-- What a selection by the elevator gives, in terms of the queue. -/
structure ElevatorChoice (d : Dev) (r : RetrievalRequest) : Prop where
  earliest : ∃ pre post, d.retrieval.queue = pre ++ r :: post ∧ ∀ q ∈ pre, Among d q → whereLies d q ≠ whereLies d r
  ahead : (∃ q, Among d q ∧ Ahead d q) → Ahead d r ∧ ∀ q, Among d q → Ahead d q → farness d r ≤ farness d q
  behind : (∀ q, Among d q → ¬ Ahead d q) → ∀ q, Among d q → farness d r ≤ farness d q

/-- Two requests at one place lie alike from the counter. -/
theorem liesAhead_congr {dir : Direction} (h : whereLies d q = whereLies d r) : liesAhead d dir q = liesAhead d dir r := by
  unfold liesAhead
  rw [h]

/-- The nearest of those considered on one side is the earliest by arrival at its place. -/
theorem earliest_of_nearest {dir : Direction} (hdatum : d.roll.datum = true)
    (h : NearestOf d ((considered d).filter (liesAhead d dir)) r) :
    ∃ pre post, d.retrieval.queue = pre ++ r :: post ∧ ∀ q ∈ pre, Among d q → whereLies d q ≠ whereLies d r := by
  have hside : liesAhead d dir r = true := (List.mem_filter.1 h.mem).2
  rw [considered, List.filter_filter] at h
  obtain ⟨pre, post, hqueue, hbefore⟩ := h.earliest
  refine ⟨pre, post, hqueue, fun q hq hamong hsame => hbefore q hq ?_ (by rw [farness, farness, hsame])⟩
  have hq' := (List.mem_filter.1 (mem_considered_iff.2 ⟨hamong, hdatum⟩)).2
  rw [liesAhead_congr hsame, hside, Bool.true_and]
  exact hq'

theorem elevatorChoice (h : chooseRequest d = some r) (hlimit : ∀ q, Among d q → ¬ d.retrieval.cfg.bypassLimit ≤ q.bypass) :
    ElevatorChoice d r := by
  have hdatum := (mem_considered_iff.1 (mem_considered_of_chosen h)).2
  have hmem : ∀ {q}, Among d q → q ∈ considered d := fun hq => mem_considered_iff.2 ⟨hq, hdatum⟩
  rcases chooseRequest_elevator h fun q hq => hlimit q (mem_considered_iff.1 hq).1 with hnear | ⟨hnone, hnear⟩
  · have hr := mem_aheadOf_iff.1 hnear.mem
    refine ⟨earliest_of_nearest hdatum hnear, fun _ => ⟨hr.2, fun q hq ha => hnear.nearest q (mem_aheadOf_iff.2 ⟨hmem hq, ha⟩)⟩,
      fun hbehind => absurd hr.2 (hbehind r (mem_considered_iff.1 hr.1).1)⟩
  · have hnotAhead : ∀ q, Among d q → ¬ Ahead d q := fun q hq ha => by
      have hq' := mem_aheadOf_iff.2 ⟨hmem hq, ha⟩
      rw [hnone] at hq'
      exact absurd hq' List.not_mem_nil
    refine ⟨earliest_of_nearest hdatum hnear, fun ⟨q, hq, ha⟩ => absurd ha (hnotAhead q hq), fun _ q hq => ?_⟩
    exact hnear.nearest q (List.mem_filter.2 ⟨hmem hq, liesBehind_of_not_ahead (hnotAhead q hq)⟩)

/-- Every other considered request has its bypass count raised, 15 staying 15. -/
theorem markChosen_raises (hdatum : d.roll.datum = true) (hq : Among d q) (hne : q.ticket ≠ r.ticket) :
    { q with bypass := min 15 (q.bypass + 1) } ∈ (markChosen r d).retrieval.queue := by
  refine List.mem_map.2 ⟨q, hq.1, ?_⟩
  have hpassed : ((considered d).map (·.ticket)).contains q.ticket = true :=
    List.contains_iff_mem.2 (List.mem_map_of_mem (mem_considered_iff.2 ⟨hq, hdatum⟩))
  rw [if_neg hne, if_pos hpassed]

end

/-! ### Recall (R104) -/

section
variable {d : Dev} {n : Nat}

/-- How far apart two frame numbers are. -/
def apart (n m : Nat) : Nat := ((n : Int) - m).natAbs

theorem nearestStepFrom_succ (d : Dev) (n fuel k : Nat) :
    nearestStepFrom d n (fuel + 1) k
      = (if k ≤ n then storedStep d (n - k) else none).or ((storedStep d (n + k)).or (nearestStepFrom d n fuel (k + 1))) := by
  rw [nearestStepFrom]
  cases (if k ≤ n then storedStep d (n - k) else none) with
  | some st => rfl
  | none =>
    dsimp only
    cases storedStep d (n + k) <;> rfl

/-- Frame m holds the stored step nearest to frame n, the lower-numbered at equal distance. -/
structure NearestStep (d : Dev) (n m st : Nat) : Prop where
  stored : storedStep d m = some st
  nearer : ∀ j, apart n j < apart n m → storedStep d j = none
  lower : ∀ j, j < m → apart n j = apart n m → storedStep d j = none

/-- The search has passed over all frames nearer than k. -/
theorem nearestStepFrom_some {fuel k st : Nat} (h : nearestStepFrom d n fuel k = some st)
    (hpassed : ∀ j, apart n j < k → storedStep d j = none) : ∃ m, apart n m < k + fuel ∧ NearestStep d n m st := by
  induction fuel generalizing k with
  | zero => simp [nearestStepFrom] at h
  | succ fuel ih =>
    rw [nearestStepFrom_succ] at h
    rcases Option.or_eq_some_iff.1 h with hbelow | ⟨hbelow, h⟩
    · split at hbelow
      next hk =>
        have hm : apart n (n - k) = k := by unfold apart; omega
        refine ⟨n - k, by omega, hbelow, fun j hj => hpassed j (by omega), fun j hj he => ?_⟩
        unfold apart at he hm
        omega
      next => simp at hbelow
    have hbelow' : ∀ j, j < n → apart n j = k → storedStep d j = none := fun j hj he => by
      unfold apart at he
      rw [if_pos (by omega)] at hbelow
      rwa [show j = n - k by omega]
    rcases Option.or_eq_some_iff.1 h with habove | ⟨habove, h⟩
    · have hm : apart n (n + k) = k := by unfold apart; omega
      refine ⟨n + k, by omega, habove, fun j hj => hpassed j (by omega), fun j hj he => ?_⟩
      refine hbelow' j ?_ (by omega)
      unfold apart at he hm
      omega
    · obtain ⟨m, hm, hnearest⟩ := ih h fun j hj => by
        by_cases hk : apart n j = k
        · by_cases hlt : j < n
          · exact hbelow' j hlt hk
          · unfold apart at hk
            rwa [show j = n + k by omega]
        · exact hpassed j (by omega)
      exact ⟨m, by omega, hnearest⟩

theorem nearestStepFrom_none {fuel k : Nat} (h : nearestStepFrom d n fuel k = none) {m : Nat} (hlow : k ≤ apart n m)
    (hhigh : apart n m < k + fuel) : storedStep d m = none := by
  induction fuel generalizing k with
  | zero => omega
  | succ fuel ih =>
    rw [nearestStepFrom_succ, Option.or_eq_none_iff, Option.or_eq_none_iff] at h
    obtain ⟨hbelow, habove, h⟩ := h
    by_cases hk : apart n m = k
    · unfold apart at hk
      by_cases hlt : m < n
      · rw [if_pos (by omega)] at hbelow
        rwa [show m = n - k by omega]
      · rwa [show m = n + k by omega]
    · exact ih h (by omega) (by omega)

end

end Sys2Proof.Proofs

/-! Attempts: their first seek, the request served in the step that admits it, and the edge confirmed: O48 (R27, R166, R168 to R172). -/

namespace Sys2Proof.Proofs

open Sys2Proof Sys2Proof.Machine

/-! ### An attempt begins (R170, R171) -/

section
variable {d : Dev} {r : RetrievalRequest} {n : Nat} {e : IndexEntry}

/-- The attempt of a request as it begins, with the G, W_c and W_m that it keeps (R171). -/
def newAttempt (phase : AttemptPhase) (r : RetrievalRequest) (d : Dev) : Attempt :=
  { subject := .ticket r.ticket, phase := phase, recallReport := .neither, edge := none, correction := 0, gap := d.detector.cfg.minGap
    correctionWindow := d.roll.cfg.correctionWindow, matchWindow := d.roll.cfg.matchWindow }

/-- An attempt without CONFIRM_EDGE and RECALL_FOCUS seeks to the resolved position at once. -/
theorem startAttempt_presents (hc : r.confirmEdge = false) (hf : r.recallFocus = false) (hg : d.transport.grant = .retrieval)
    (hm : d.transport.motion = .idle) (hd : d.inputs.driveReady = true) :
    startAttempt r d = seekBegun (whereLies d r) (setAttempt (some (newAttempt .present r d)) (markChosen r d)) := by
  unfold startAttempt
  dsimp only
  rw [hc, hf, if_neg (by simp)]
  exact retrievalSeek_begins (d := setAttempt (some (newAttempt .present r d)) (markChosen r d)) _ hg
    (by simp [setAttempt, markChosen, modifyRequests, hm]) hd

/-- An attempt with CONFIRM_EDGE seeks to 2G and W_c before the entry's start. -/
theorem startAttempt_approaches (hc : r.confirmEdge = true) (hf : r.recallFocus = false) (hn : r.frame = some n)
    (he : d.index.entries[n]? = some e) (hg : d.transport.grant = .retrieval) (hm : d.transport.motion = .idle)
    (hd : d.inputs.driveReady = true) :
    startAttempt r d = seekBegun (e.start - (2 * d.detector.cfg.minGap + d.roll.cfg.correctionWindow : Nat))
      (setAttempt (some (newAttempt .approach r d)) (markChosen r d)) := by
  have hentry : attemptEntry (markChosen r d) r = some (n, e) := by
    have he' : entryAt (markChosen r d) n = some e := he
    simp [attemptEntry, hn, he']
  unfold startAttempt
  dsimp only
  rw [hc, hf, hentry, if_neg (by simp)]
  exact retrievalSeek_begins (d := setAttempt (some (newAttempt .approach r d)) (markChosen r d)) _ hg
    (by simp [setAttempt, markChosen, modifyRequests, hm]) hd

end

/-! ### A request served in the step that admits it -/

section
variable {d : Dev} {r : RetrievalRequest} {x : Int} {f : Option Nat}

/-- A request whose target resolves joins the queue WAITING (R166). -/
theorem admitRequest_resolved (h : resolveTarget d r.target = some (x, f)) :
    admitRequest r d = d.setRetrieval
      { d.retrieval with
        queue := d.retrieval.queue ++ [{ r with state := .waiting, position := some x, frame := f }]
        ticketCounter := nextTicket r.ticket } := by
  unfold admitRequest resolveRecord
  dsimp only
  rw [h]
  exact if_neg (by simp)

theorem freshTicket_of_empty (hq : d.retrieval.queue = []) (hc : d.retrieval.completions = []) :
    freshTicket d = d.retrieval.ticketCounter := by
  simp [freshTicket, findTicket, ticketInUse, hq, hc]

/-- The device while the seek of the one request begins to move the film. -/
structure RequestServed (r : RetrievalRequest) (x : Int) (d t : Dev) : Prop where
  queue : t.retrieval.queue = [{ r with state := .active }]
  attempt : t.retrieval.attempt = some (newAttempt .present r d)
  grant : t.transport.grant = .retrieval
  motion : t.transport.motion = .seek
  current : t.transport.current = some (seekOrder x d)

theorem chooseRequest_single (hqueue : d.retrieval.queue = [r]) (hs : r.state = .waiting) (hdatum : d.roll.datum = true) :
    chooseRequest d = some r := by
  obtain ⟨q, hq⟩ := chooseRequest_some ((anyEligible_iff d).2 ⟨r, by simp [hqueue], hs, hdatum⟩)
  obtain ⟨⟨hmem, -⟩, -⟩ := mem_considered_iff.1 (mem_considered_of_chosen hq)
  rw [hqueue, List.mem_singleton] at hmem
  rw [hq, hmem]

/-- The one request of the queue is selected and presented. -/
theorem selectNext_presents (hqueue : d.retrieval.queue = [r]) (hs : r.state = .waiting) (hx : r.position = some x)
    (hc : r.confirmEdge = false) (hf : r.recallFocus = false) (hdatum : d.roll.datum = true) (hg : d.transport.grant = .retrieval)
    (hm : d.transport.motion = .idle) (hd : d.inputs.driveReady = true) :
    selectNext d = seekBegun x (setAttempt (some (newAttempt .present r d)) (markChosen r d)) := by
  have hlies : whereLies d r = x := by simp [whereLies, hx]
  rw [selectNext_chosen (chooseRequest_single hqueue hs hdatum), startAttempt_presents hc hf hg hm hd, hlies]

theorem markChosen_single (hqueue : d.retrieval.queue = [r]) : (markChosen r d).retrieval.queue = [{ r with state := .active }] := by
  simp [markChosen, modifyRequests, hqueue]

/-- The one request of the queue is eligible, and the grant is free with the film at rest under tension: its seek begins (R27, R170). -/
theorem settle_presents (hinbox : d.inbox = []) (hrelease : ¬ (d.transport.releasePending = true ∧ atRest d = true))
    (hqueue : d.retrieval.queue = [r]) (hs : r.state = .waiting) (hx : r.position = some x) (hc : r.confirmEdge = false)
    (hf : r.recallFocus = false) (hdatum : d.roll.datum = true) (hrun : d.scan.run = none) (hhold : d.retrieval.hold = none)
    (ha : d.retrieval.attempt = none) (hg : d.transport.grant = .nobody) (hm : d.transport.motion = .idle)
    (ht : d.transport.tension = .hold) (hd : d.inputs.driveReady = true) : RequestServed r x d (settle d) := by
  have heligible : anyEligible d = true := (anyEligible_iff d).2 ⟨r, by simp [hqueue], hs, hdatum⟩
  have hreaction : reaction d = some (selectNext (giveGrant .retrieval d)) := by
    rw [reaction_of_grant hinbox hrelease (runReaction_of_noRun hrun)
      (retrievalReaction_unoccupied hhold ha fun hcond => by simp [hintConditions, heligible] at hcond),
      grantReaction_request (by simp [grantFree, hg, hm]) (scanClaim_of_noRun hrun) heligible]
  have hselected := selectNext_presents
    (d := d.setTransport { d.transport with grant := .retrieval, releasePending := false, parkTimer := 0 })
    hqueue hs hx hc hf hdatum rfl hm hd
  rw [giveGrant_hold ht, hselected] at hreaction
  have howned : Owner.retrieval ≠ .nobody := by simp
  rw [settle_of_reaction hreaction]
  · exact ⟨markChosen_single hqueue, rfl, rfl, rfl, rfl⟩
  · exact settled_of_attempt (a := newAttempt .present r d) hinbox hrun hhold rfl (.inl rfl) howned rfl rfl

end

/-! ### A seek of RETRIEVAL, whatever becomes of it -/

section
variable {d : Dev}

/-- A seek of RETRIEVAL starts, is held or fails: of the device only the transport and the inbox differ. -/
theorem retrievalSeek_frame (x : Int) (d : Dev) : ∃ t i, retrievalSeek x d = (d.setTransport t).setInbox i := by
  have hreport : ∀ r, ∃ t i, report r d = (d.setTransport t).setInbox i := fun r => ⟨d.transport, d.inbox ++ [r], rfl⟩
  have hset : ∀ y, ∃ t i, d.setTransport y = (d.setTransport t).setInbox i := fun y => ⟨y, d.inbox, rfl⟩
  unfold retrievalSeek giveOrder
  split
  · exact hreport _
  · dsimp only
    split
    · exact hset _
    · exact hset _
    · exact hreport _
    · unfold startOrder
      split
      · exact hreport _
      · exact hset _

end

/-! ### The measured start of a confirmation (R172) -/

section
variable {d e : Dev} {a b : Attempt} {r : RetrievalRequest} {n : Nat} {entry : IndexEntry}

/-- The confirmation's arm is gone, and no position has moved. -/
structure ConfirmOver (d e : Dev) : Prop where
  arm : e.trigger.arm = none
  retrieval : e.retrieval = d.retrieval
  transport : e.transport = d.transport
  inputs : e.inputs = d.inputs
  index : e.index = d.index
  roll : e.roll = d.roll
  metering : e.metering = d.metering

theorem unarmedDev_inputs (w : Arm) (x : ScanControl) (y : Detector) (ps : Ports) (d : Dev) :
    (unarmedDev w x y ps d).inputs = d.inputs := by
  simp [unarmedDev, modifyRun, discardArm, setGate, detectorIdle]

/-- With no correction pending, the disarm of a confirmation applies none. -/
theorem disarmConfirm_over (harm : d.trigger.arm = none ∨ ∃ w, d.trigger.arm = some w ∧ w.owner = .retrieval)
    (hp : d.roll.pendingCorrection = none) : ConfirmOver d (disarmConfirm d) := by
  rcases harm with harm | ⟨w, harm, ho⟩
  · rw [disarmConfirm_unarmed harm]
    exact ⟨harm, rfl, rfl, rfl, rfl, rfl, rfl⟩
  · obtain ⟨x, y, ps, hdisarm, -⟩ := disarm_eq .command false harm
    have hover : disarmConfirm d = report (.disarmed w.owner .command) (unarmedDev w x y ps d) := by
      unfold disarmConfirm
      rw [harm]
      dsimp only
      rw [if_pos ho, hdisarm, applyPending_none (by rw [unarmedDev_roll]; exact hp)]
    rw [hover]
    constructor <;> simp [report, unarmedDev_inputs]

/-- The edge flag and the drift report that a measured start gives (R171, R172). -/
def edgeJudged (n : Nat) (delta : Int) (a : Attempt) (d : Dev) : Dev :=
  if delta.natAbs ≤ a.matchWindow then
    modifyAttempt (fun a => if (driftReport n delta d).1 then { a with edge := some .confirmed, correction := delta }
      else { a with edge := some .mismatch }) (driftReport n delta d).2
  else modifyAttempt (fun a => { a with edge := some .unconfirmed }) d

theorem takeMeasuredStart_eq (m : Int) (hactive : activeRequest d = some (a, r)) (hphase : a.phase = .confirm)
    (hn : r.frame = some n) (he : d.index.entries[n]? = some entry) :
    takeMeasuredStart m d = presentActive (edgeJudged n (m - entry.start) a (disarmConfirm d)) := by
  have hentry : attemptEntry d r = some (n, entry) := by
    have he' : entryAt d n = some entry := he
    simp [attemptEntry, hn, he']
  unfold takeMeasuredStart
  rw [hactive]
  dsimp only
  rw [if_neg (not_not.2 hphase), hentry]
  rfl

/-- The attempt has its edge flag; the queue, the orders and the arm stand as before. -/
structure Judged (b : Attempt) (d e : Dev) : Prop where
  retrieval : e.retrieval = { d.retrieval with attempt := some b }
  transport : e.transport = d.transport
  inputs : e.inputs = d.inputs
  trigger : e.trigger = d.trigger

/-- A drift within W_c confirms the edge, and its correction is applied at once (R16 to R18, R172). -/
theorem edgeJudged_confirmed {delta : Int} (ha : d.retrieval.attempt = some a) (harm : d.trigger.arm = none)
    (hm : delta.natAbs ≤ a.matchWindow) (hc : delta.natAbs ≤ d.roll.cfg.correctionWindow) :
    Judged { a with edge := some .confirmed, correction := delta } d (edgeJudged n delta a d)
      ∧ (edgeJudged n delta a d).roll.lastCorrection = delta
      ∧ (edgeJudged n delta a d).metering.counter = max (-2147483648) (min 2147483647 (d.metering.counter - delta)) := by
  have hreport : driftReport n delta d
      = (true, applyCorrection delta (markEntry n true (d.setRoll { d.roll with pendingCorrection := some delta }))) :=
    (if_pos hc).trans (congrArg (Prod.mk true) (if_pos (by simp [markEntry, harm])))
  have hattempt : (driftReport n delta d).2.retrieval.attempt = some a := by
    rw [hreport]
    exact ha
  have hjudged : edgeJudged n delta a d = (driftReport n delta d).2.setRetrieval
      { (driftReport n delta d).2.retrieval with attempt := some { a with edge := some .confirmed, correction := delta } } := by
    refine (if_pos hm).trans ((modifyAttempt_eq _ hattempt).trans ?_)
    rw [hreport]
    rfl
  rw [hjudged, hreport]
  exact ⟨⟨rfl, rfl, rfl, rfl⟩, rfl, rfl⟩

/-- A drift beyond W_c and within W_m is a mismatch, reported with DRIFT (R16, R172). -/
theorem edgeJudged_mismatch {delta : Int} (ha : d.retrieval.attempt = some a) (hm : delta.natAbs ≤ a.matchWindow)
    (hc : d.roll.cfg.correctionWindow < delta.natAbs) :
    Judged { a with edge := some .mismatch } d (edgeJudged n delta a d) ∧ (edgeJudged n delta a d).metering = d.metering
      ∧ eventSet (edgeJudged n delta a d) .service .drift := by
  have hreport := driftReport_mismatch (n := n) hc
  have hattempt : (driftReport n delta d).2.retrieval.attempt = some a := by
    rw [hreport]
    exact ha
  have hjudged : edgeJudged n delta a d = (driftReport n delta d).2.setRetrieval
      { (driftReport n delta d).2.retrieval with attempt := some { a with edge := some .mismatch } } := by
    refine (if_pos hm).trans ((modifyAttempt_eq _ hattempt).trans ?_)
    rw [hreport]
    rfl
  rw [hjudged, hreport]
  exact ⟨⟨rfl, rfl, rfl, rfl⟩, rfl, raise_sets .service .drift _ (by decide)⟩

/-- A drift beyond W_m leaves the edge unconfirmed. -/
theorem edgeJudged_unconfirmed {delta : Int} (ha : d.retrieval.attempt = some a) (hm : a.matchWindow < delta.natAbs) :
    Judged { a with edge := some .unconfirmed } d (edgeJudged n delta a d) ∧ (edgeJudged n delta a d).roll = d.roll
      ∧ (edgeJudged n delta a d).metering = d.metering := by
  have hjudged : edgeJudged n delta a d = d.setRetrieval { d.retrieval with attempt := some { a with edge := some .unconfirmed } } :=
    (if_neg (not_le.2 hm)).trans (modifyAttempt_eq _ ha)
  rw [hjudged]
  exact ⟨⟨rfl, rfl, rfl, rfl⟩, rfl, rfl⟩

/-- The judged device with its attempt in PRESENT, before the seek. -/
def presented (b : Attempt) (e : Dev) : Dev := e.setRetrieval { e.retrieval with attempt := some { b with phase := .present } }

theorem presentActive_eq (hactive : activeRequest e = some (b, r)) (hb : e.retrieval.attempt = some b) :
    presentActive e = retrievalSeek (whereLies e r) (presented b e) := by
  unfold presentActive presented
  rw [hactive]
  dsimp only
  rw [modifyAttempt_eq _ hb]

/-- The SEEK to the resolved position that replaces the creep of a confirmation, in the counting of the device itself (R172). -/
def SeeksTo (x : Int) (t : Dev) : Prop :=
  ∃ k g, t.transport.current = some k ∧ k.order = { owner := .retrieval, kind := .seek x none }
    ∧ t.transport.motion = .seek ∧ t.transport.grant = .retrieval ∧ k.seek = some g ∧ g.target = clampLimits t x
    ∧ g.distance = g.target - t.metering.counter

theorem seeksTo_seekBegun (x : Int) (hg : e.transport.grant = .retrieval) : SeeksTo x (seekBegun x e) :=
  ⟨_, _, rfl, rfl, rfl, hg, rfl, rfl, rfl⟩

/-- What the end of a confirmation leaves, whatever the edge flag. -/
structure PresentsAfterConfirm (b : Attempt) (r : RetrievalRequest) (d e t : Dev) : Prop where
  arm : t.trigger.arm = none
  queue : t.retrieval.queue = d.retrieval.queue
  attempt : t.retrieval.attempt = some { b with phase := .present }
  roll : t.roll = e.roll
  metering : t.metering = e.metering
  ports : t.ports = e.ports
  seeks : ∀ x, r.position = some x → d.transport.grant = .retrieval → d.transport.motion = .creep ∨ d.transport.motion = .idle →
    d.inputs.driveReady = true → SeeksTo x t

theorem presentActive_presents (hj : Judged b d e) (harm : d.trigger.arm = none) (hs : b.subject = .ticket r.ticket)
    (hr : requestOf d r.ticket = some r) : PresentsAfterConfirm b r d e (presentActive e) := by
  have hb : e.retrieval.attempt = some b := by rw [hj.retrieval]
  have hqueue : e.retrieval.queue = d.retrieval.queue := by rw [hj.retrieval]
  have hfound : requestOf e r.ticket = some r := by
    unfold requestOf
    rw [hqueue]
    exact hr
  have hpresent := presentActive_eq (activeRequest_eq hb hs hfound) hb
  obtain ⟨tr, i, hseek⟩ := retrievalSeek_frame (whereLies e r) (presented b e)
  constructor
  case seeks =>
    intro x hx hg hm hd
    have hlies : whereLies e r = x := by simp [whereLies, hx]
    have hgrant : (presented b e).transport.grant = .retrieval := (congrArg Transport.grant hj.transport).trans hg
    rw [hpresent, hlies, retrievalSeek_begins x hgrant ?_ ((congrArg Inputs.driveReady hj.inputs).trans hd)]
    · exact seeksTo_seekBegun x hgrant
    · have hmotion : (presented b e).transport.motion = d.transport.motion := congrArg Transport.motion hj.transport
      rw [hmotion]
      rcases hm with hm | hm <;> simp [hm]
  all_goals rw [hpresent, hseek]
  case arm => exact (congrArg Trigger.arm hj.trigger).trans harm
  case queue => exact hqueue
  all_goals rfl

/-- The end of a confirmation as a whole: the disarm, the edge flag, and the PRESENT seek. -/
theorem measuredStart_presents {m : Int} (hover : ConfirmOver d (disarmConfirm d)) (ha : d.retrieval.attempt = some a)
    (hs : a.subject = .ticket r.ticket) (hphase : a.phase = .confirm) (hr : requestOf d r.ticket = some r) (hn : r.frame = some n)
    (he : d.index.entries[n]? = some entry)
    (hj : Judged b (disarmConfirm d) (edgeJudged n (m - entry.start) a (disarmConfirm d))) (hb : b.subject = a.subject) :
    PresentsAfterConfirm b r d (edgeJudged n (m - entry.start) a (disarmConfirm d)) (takeMeasuredStart m d) := by
  have hr' : requestOf (disarmConfirm d) r.ticket = some r := by
    unfold requestOf
    rw [hover.retrieval]
    exact hr
  have h := presentActive_presents hj hover.arm (hb.trans hs) hr'
  rw [takeMeasuredStart_eq m (activeRequest_eq ha hs hr) hphase hn he]
  refine ⟨h.arm, by rw [h.queue, hover.retrieval], h.attempt, h.roll, h.metering, h.ports, fun x hx hg hm hd => ?_⟩
  rw [← hover.transport] at hg hm
  rw [← hover.inputs] at hd
  exact h.seeks x hx hg hm hd

end

end Sys2Proof.Proofs

/-! O48: a RETRIEVE served in its step, the selection, the recall, the edge confirmation, the grant and the order of reactions. -/

namespace Sys2Proof.Proofs

open Sys2Proof Sys2Proof.Machine

section
variable {d : Dev} {p : List Byte} {r : RetrievalRequest} {a : Attempt} {n : Nat} {e : IndexEntry}

/-! ### The scan and hint claims and the free grant, in terms of the fields -/

/-- The grant is NONE, and the transport in a state where it can be given (R27). -/
def GrantCanBeGiven (d : Dev) : Prop :=
  d.transport.grant = .nobody ∧ (d.transport.motion = .idle ∨ d.transport.motion = .parked ∨ d.transport.motion = .retensioning)

theorem grantFree_iff (d : Dev) : grantFree d = true ↔ GrantCanBeGiven d := by
  simp [grantFree, GrantCanBeGiven, or_assoc]

theorem scanClaim_iff (d : Dev) : scanClaim d = true ↔
    ∃ r, d.scan.run = some r ∧ (r.state = .queued ∨ (r.state = .suspended ∧ r.resumePermitted = true)) ∧ d.roll.state = .ready
      ∧ d.scan.backlog = false ∧ ¬ (r.policy = .yieldUrgent ∧ ∃ q, EligibleIn d q ∧ q.class_ = .urgent)
      ∧ ¬ (r.policy = .yieldAll ∧ ∃ q, EligibleIn d q) := by
  rw [← anyUrgent_iff, ← anyEligible_iff]
  unfold scanClaim yieldDemand
  cases d.scan.run with
  | none => simp
  | some r =>
    cases hp : r.policy <;> simp [hp] <;> tauto

/-- A hint claim stands when nothing eligible and no scan claim stands against it (R179). -/
theorem hintClaim_iff (ha : anyEligible d = false) (hs : scanClaim d = false) (hg : d.transport.grant = .nobody) :
    hintClaim d = true ↔ (∃ n ∈ d.retrieval.hints.head?, n < d.index.entries.length) ∧ d.transport.motion = .idle
      ∧ d.transport.tension = .hold ∧ d.roll.datum = true
      ∧ ∀ r, d.scan.run = some r → r.state ≠ .preparing ∧ r.state ≠ .running ∧ r.state ≠ .suspending := by
  have hrun : runIn d [.preparing, .running, .suspending] = false ↔
      ∀ r, d.scan.run = some r → r.state ≠ .preparing ∧ r.state ≠ .running ∧ r.state ≠ .suspending := by
    unfold runIn
    cases d.scan.run <;> simp
  rw [← hrun]
  unfold hintClaim hintConditions indexedHint
  cases d.retrieval.hints with
  | nil => simp
  | cons n rest =>
    by_cases hn : n < d.index.entries.length <;> simp [ha, hs, hg, hn]
    tauto

/-! ### A RETRIEVE of an indexed frame -/

/-- A RETRIEVE of an indexed frame with neither option (R164). -/
theorem answerRetrieve_frame {record : RollRecord} {c : RequestClass} (hp : 13 ≤ p.length) (hoptions : p[12]? = some 0)
    (hrecord : d.roll.record = some record) (hroll : record.ident = natAt p 0 4) (hkind : natAt p 4 1 = 0) (hn : natAt p 5 2 = n)
    (hlast : n ≤ 8191) (hc : requestClassOf (natAt p 11 1) = some c) (he : d.index.entries[n]? = some e)
    (hq : d.retrieval.queue = []) (hcompletions : d.retrieval.completions = []) :
    answerRetrieve p d = taken .accepted (leBytes 1 d.retrieval.ticketCounter) (d.setRetrieval
      { d.retrieval with
        queue := [{ newRequest d.retrieval.ticketCounter (.frame n) c false false with
          state := .waiting, position := some e.middle, frame := some n }]
        ticketCounter := nextTicket d.retrieval.ticketCounter }) := by
  have htarget : targetOf (natAt p 4 1) p = some (.frame n) := by
    rw [hkind, ← hn]
    rfl
  have hopts : optionsOf p = (false, false) := by
    unfold optionsOf
    rw [hoptions]
    rfl
  have hroom : ¬ queueFull d = true := by simp [queueFull_iff, hq, hcompletions]
  have hresolved : resolveTarget d (.frame n) = some (e.middle, some n) := by
    have he' : entryAt d n = some e := he
    simp [resolveTarget, he']
  rw [answerRetrieve_read (by omega) ((rollMatches_iff hrecord).2 hroll) htarget hc (by simp [targetOk, hlast]), if_neg hroom, hopts,
    freshTicket_of_empty hq hcompletions, admitRequest_resolved (r := newRequest _ _ _ _ _) hresolved, hq]
  rfl

end

/-- Settles O48: the request served in its step, and each choice of the scheduler by the lemma about it. -/
theorem retrieveStartsItsSeek : Obligations.RetrieveStartsItsSeek := by
  refine ⟨?served, fun d r h => ?selected, fun d n => ⟨fun st h => ?recalled, fun h m hlow hhigh => ?notStored⟩,
    fun d r n e hc hf hn he hg hm hd => ?approaches, fun d a r n e m ha hs hphase hr hn he harm hp hwc hle hedge hcorr => ?confirms,
    fun d => ?granted, fun d t n => ?ordered⟩
  case served =>
    intro s tag p x record n entry c ht hp hoptions hrecord hroll hkind hn hlast hc he hdatum hrun hq hcompletions hhold ha hlow hhigh
      hg hm htension hcurrent hheld hd hset
    obtain ⟨hinbox, hrelease, -⟩ := (reaction_none_iff _).1 ((settled_heard .request (requestFrame tag p x) s).2 hset).1
    have hanswer := answerRetrieve_frame (d := heard .request (requestFrame tag p x) s) hp hoptions hrecord hroll hkind hn hlast hc he
      hq hcompletions
    have hserved := settle_presents
      (d := (heard .request (requestFrame tag p x) s).setRetrieval
        { s.dev.retrieval with
          queue := [{ newRequest s.dev.retrieval.ticketCounter (.frame n) c false false with
            state := .waiting, position := some entry.middle, frame := some n }]
          ticketCounter := nextTicket s.dev.retrieval.ticketCounter })
      hinbox (by simpa using hrelease) rfl rfl rfl rfl rfl hdatum hrun hhold ha hg hm htension hd
    refine ⟨_, _, _, _, exec_retrieve tag x ht hanswer, rfl, ?_, hserved.queue, rfl, rfl, rfl, rfl, rfl, hserved.attempt, rfl, rfl,
      hserved.grant, hserved.motion, hserved.current, rfl, rfl⟩
    exact congrArg Port.response (respond_get .request tag _ _ _)
  case selected =>
    obtain ⟨hamong, hdatum⟩ := mem_considered_iff.1 (mem_considered_of_chosen h)
    refine ⟨hamong, hdatum, fun pre q post hqueue hq hlimit hbefore => ?_, fun hlimit => (elevatorChoice h hlimit).earliest,
      fun hlimit => (elevatorChoice h hlimit).ahead, fun hlimit => (elevatorChoice h hlimit).behind,
      fun q hq hne => markChosen_raises hdatum hq hne⟩
    exact Option.some.inj (h.symm.trans (chooseRequest_limit hdatum hqueue hq hlimit hbefore))
  case recalled =>
    obtain ⟨m, hm, hstored, hnearer, hlower⟩ := nearestStepFrom_some h (by simp)
    unfold apart at hm
    exact ⟨m, by omega, by omega, hstored, hnearer, hlower⟩
  case notStored => exact nearestStepFrom_none h (Nat.zero_le _) (by unfold apart; omega)
  case approaches =>
    rw [startAttempt_approaches hc hf hn he hg hm hd]
    exact ⟨_, _, rfl, rfl, rfl, rfl, rfl, rfl⟩
  case confirms =>
    have hover := disarmConfirm_over harm hp
    have ha' : (disarmConfirm d).retrieval.attempt = some a := by rw [hover.retrieval, ha]
    have hcw : (disarmConfirm d).roll.cfg.correctionWindow = a.correctionWindow := by rw [hover.roll, hwc]
    have hpresents := fun b => measuredStart_presents (b := b) (m := m) hover ha hs hphase hr hn he
    have hconfirmed := fun hc : (m - e.start).natAbs ≤ a.correctionWindow =>
      edgeJudged_confirmed (n := n) ha' hover.arm (hc.trans hle) (by rwa [hcw])
    have hmismatch := fun (hc : a.correctionWindow < (m - e.start).natAbs) (hm : (m - e.start).natAbs ≤ a.matchWindow) =>
      edgeJudged_mismatch (n := n) ha' hm (by rwa [hcw])
    have hunconfirmed := fun hm : a.matchWindow < (m - e.start).natAbs => edgeJudged_unconfirmed (n := n) ha' hm
    obtain ⟨b, hany⟩ : ∃ b, PresentsAfterConfirm b r d (edgeJudged n (m - e.start) a (disarmConfirm d)) (takeMeasuredStart m d) := by
      by_cases hc : (m - e.start).natAbs ≤ a.correctionWindow
      · exact ⟨_, hpresents _ (hconfirmed hc).1 rfl⟩
      by_cases hm : (m - e.start).natAbs ≤ a.matchWindow
      · exact ⟨_, hpresents _ (hmismatch (not_le.1 hc) hm).1 rfl⟩
      · exact ⟨_, hpresents _ (hunconfirmed (not_le.1 hm)).1 rfl⟩
    refine ⟨hany.arm, hany.queue, hany.seeks, fun hc => ?_, fun hc hm => ?_, fun hm => ?_⟩
    · obtain ⟨hj, hlast, hcounter⟩ := hconfirmed hc
      have ht := hpresents _ hj rfl
      exact ⟨ht.attempt, by rw [ht.roll, hlast], by rw [ht.metering, hcounter, hover.metering]⟩
    · obtain ⟨hj, hmetering, hevent⟩ := hmismatch hc hm
      have ht := hpresents _ hj rfl
      refine ⟨ht.attempt, by rw [ht.metering, hmetering, hover.metering], ?_⟩
      unfold eventSet
      rw [ht.ports]
      exact hevent
    · obtain ⟨hj, hroll, hmetering⟩ := hunconfirmed hm
      have ht := hpresents _ hj rfl
      exact ⟨ht.attempt, by rw [ht.roll, hroll, hover.roll], by rw [ht.metering, hmetering, hover.metering]⟩
  case granted =>
    have hfree := fun hf => (grantFree_iff d).2 hf
    have hu := anyUrgent_iff d
    have ha := anyEligible_iff d
    have hs := scanClaim_iff d
    have hnoUrgent := fun h => Bool.eq_false_iff.2 (mt hu.1 h)
    have hnone := fun h => Bool.eq_false_iff.2 (mt ha.1 h)
    have hnoScan := fun h => Bool.eq_false_iff.2 (mt hs.1 h)
    refine ⟨hu, ha, hs, fun hf => grantReaction_taken (Bool.eq_false_iff.2 (mt (grantFree_iff d).1 hf)),
      fun hf h => grantReaction_urgent (hfree hf) (hu.2 h),
      fun hf hnu h => grantReaction_scan (hfree hf) (hnoUrgent hnu) (hs.2 h),
      fun hf hnu hns h => grantReaction_request (hfree hf) (hnoScan hns) (ha.2 h), fun hf hna hns h => ?_, fun hf hna hns h => ?_,
      fun o => ?_, fun h => ?_, fun h => selectNext_none (chooseRequest_none (hnone h))⟩
    · rw [grantReaction_unclaimed (hfree hf) (hnoScan hns) (hnone hna),
        if_pos ((hintClaim_iff (hnone hna) (hnoScan hns) hf.1).2 h)]
    · rw [grantReaction_unclaimed (hfree hf) (hnoScan hns) (hnone hna),
        if_neg (mt (hintClaim_iff (hnone hna) (hnoScan hns) hf.1).1 h)]
    · split
      next ht => exact giveGrant_release ht
      next ht => exact if_neg ht
    · obtain ⟨q, hq⟩ := chooseRequest_some (ha.2 h)
      exact ⟨q, hq, selectNext_chosen hq⟩
  case ordered =>
    refine ⟨fun report rest hi => reaction_of_report hi, fun hi h => reaction_of_release hi h,
      fun hi h hrun hretrieval => reaction_of_grant hi h hrun hretrieval, rfl, fun h => settleFor_step n d t h,
      fun h => settleFor_of_none n d h⟩

end Sys2Proof.Proofs

/-! Requests at a port: which codes a port carries, what it ignores and what it refuses by itself: O4, O6, O7 and O8. -/

namespace Sys2Proof.Proofs

/-! ### The shape of every command -/

section
open Sys2Proof.Laws.CommandShape

/-- Every command is a request frame of its port or a function of the device: the per-command lemmas, in the order of the commands. -/
theorem commandShape : ∀ c : Instr, Laws.CommandShape.Statement c :=
  Instr.rec pinReset softReset unknownCodeFrame statusRequest identify fetch ackEvents eventMask indexRead scanStart scanPause
    scanResume scanAbort noticesRead retrieve cancel hint releaseHold completionsRead indexFind declareRoll releaseRoll setDatum jog
    serviceSeek stop halt clearFault lensHome lensMove focusSearch slotConfigEnable slotConfigDisable slotRestart slotRead scriptWrite
    scriptRead configWriteRollItem configWriteTransportItem configWriteBusSpeed configWriteCombineMode configWriteLineRate
    configWriteTapMap configWriteStride configWriteFocusItem configWriteDetectorItem configWriteRetrievalItem configWriteUnknownItem
    configRead indexImportBegin indexImportEntry indexImportEnd indexClose indexReopen filmPresentChange encoderPhaseChange
    encoderUnsettledExpiry splicePulse profileStep seekTimeout hunting driveFault retensioningEnd parkTimeout slotDueTime preInitWaitEnd
    postInitWaitEnd busAttemptEnd sclHoldTimeout segmentComplete blipStartEdge blipEndEdge lensStepDue lensSettleEnd homingStep
    homingStepLimit deferralExpiry holdTimeout monitorByteReceived

end

open Sys2Proof Sys2Proof.Machine

/-- A command that names a request is a transaction with that request's frame, for a handler of its own. -/
theorem exec_of_requestOfCommand {c : Instr} {r : Option Request} {port : PortId} {mosi : List Byte}
    (hc : requestOfCommand c = some (r, port, mosi)) : ∃ h : Handler, ∀ s, exec c s = onDev (takeFrame r port mosi h) s := by
  have hshape := commandShape c
  rw [Laws.CommandShape.Statement, hc] at hshape
  exact hshape

/-! ### Frames that an IDLE port refuses by itself -/

section
variable {s : State} {port : PortId} {tag len : Byte} {rest : List Byte} (h : Handler)
  (hi : (s.dev.ports.get port).state = .idle)
include hi

theorem takeFrame_badLength (r : Option Request) (hlen : frameLengthOk (tag :: len :: rest) len = false) :
    onDev (takeFrame r port (tag :: len :: rest) h) s
      = .next (answers s port tag .badLength [] (heard port (tag :: len :: rest) s)) := by
  simp [onDev, takeFrame, hi, hlen, answers, heard]

theorem takeFrame_unknown (hlen : frameLengthOk (tag :: len :: rest) len = true) :
    onDev (takeFrame none port (tag :: len :: rest) h) s
      = .next (answers s port tag .unknown [] (heard port (tag :: len :: rest) s)) := by
  simp [onDev, takeFrame, hi, hlen, answers, heard]

theorem takeFrame_denied {r : Request} (hlen : frameLengthOk (tag :: len :: rest) len = true) (hp : permitted r port = false) :
    onDev (takeFrame (some r) port (tag :: len :: rest) h) s
      = .next (answers s port tag .denied [] (heard port (tag :: len :: rest) s)) := by
  simp [onDev, takeFrame, hi, hlen, hp, answers, heard]

end

/-- Settles O4: the frame passes the checks of the Service port, and the handler sets nothing but the waiting reset. -/
theorem softResetWaitsForItsFetch : Obligations.SoftResetWaitsForItsFetch :=
  fun s tag p x ht => takeFrame_takes .softReset .service tag p x answerSoftReset s ht rfl

/-- Settles O6, by the permission of each request of Table 11-2. -/
theorem portsCarryTheirRequests : Obligations.PortsCarryTheirRequests := ⟨rfl, rfl, rfl⟩

/-- Settles O7: no command reaches its handler there, whichever request it names. -/
theorem ignoredTransactions : Obligations.IgnoredTransactions := by
  have hignores : ∀ (c : Instr) (r : Option Request) (port : PortId) (mosi : List Byte) (s : State),
      requestOfCommand c = some (r, port, mosi) → (s.dev.ports.get port).state ≠ .idle ∨ mosi.length < 2 →
      exec c s = .next (s.setDev (shiftOut port mosi [] s.dev)) := by
    intro c r port mosi s hc hi
    obtain ⟨h, hexec⟩ := exec_of_requestOfCommand hc
    exact (hexec s).trans (takeFrame_ignores r port mosi h s hi)
  exact ⟨fun c r port mosi s hc hi => hignores c r port mosi s hc (.inl hi),
    fun c r port mosi s hc hl => hignores c r port mosi s hc (.inr hl)⟩

/-- Settles O8, by the three checks in their order. -/
theorem framesAreCheckedFirst : Obligations.FramesAreCheckedFirst := by
  refine ⟨fun c r port tag len rest s hc hi hshort => ?badLength, fun s port code tag p x ht _ => ?unknown,
    fun c r port tag len rest s hc hi h60 hlen hp => ?denied⟩
  case badLength =>
    obtain ⟨h, hexec⟩ := exec_of_requestOfCommand hc
    exact (hexec s).trans (takeFrame_badLength h hi r (frameLengthOk_of_short tag len rest hshort))
  case unknown =>
    obtain ⟨hi, hl⟩ := ht
    exact takeFrame_unknown _ hi (frameLengthOk_requestFrame tag p x hl).1
  case denied =>
    obtain ⟨h, hexec⟩ := exec_of_requestOfCommand hc
    exact (hexec s).trans (takeFrame_denied h hi (frameLengthOk_of_long tag len rest h60 hlen) hp)

end Sys2Proof.Proofs

/-! FETCH and the reset that it brings about: O5 and O9 (R185, R193). -/

namespace Sys2Proof.Proofs

open Sys2Proof Sys2Proof.Machine

/-! ### FETCH -/

/-- The port has handed its response out and is IDLE (R185). -/
def fetched (port : PortId) (mosi : List Byte) (r : Response) (d : Dev) : Dev :=
  setPort port
    { d.ports.get port with
      state := .idle, response := none, miso := misoBytes port (d.ports.get port) mosi.length (responseBytes r) } d

section
variable {port : PortId} {mosi : List Byte} {r : Response} {d : Dev}

theorem exec_fetch (port : PortId) (mosi : List Byte) (s : State) :
    exec (.fetch port mosi) s = .next (s.setDev (takeFetch port mosi s.dev)) := rfl

theorem ports_put_put (ps : Ports) (port : PortId) (p q : Port) : (ps.put port p).put port q = ps.put port q := by cases port <;> rfl

theorem takeFetch_ready (hs : (d.ports.get port).state = .ready) (hr : (d.ports.get port).response = some r) (hl : 2 ≤ mosi.length) :
    takeFetch port mosi d
      = if port = .service ∧ d.ports.softResetPending = true then softReset (fetched port mosi r d) else fetched port mosi r d := by
  simp [takeFetch, hs, hr, Nat.not_lt.2 hl, shiftOut, fetched, setPort, ports_put_put]

theorem takeFetch_short (hs : (d.ports.get port).state = .ready) (hr : (d.ports.get port).response = some r) (hl : mosi.length < 2) :
    takeFetch port mosi d = shiftOut port mosi (responseBytes r) d := by
  simp [takeFetch, hs, hr, hl]

theorem takeFetch_notReady (hs : (d.ports.get port).state ≠ .ready) : takeFetch port mosi d = shiftOut port mosi [] d := by
  unfold takeFetch
  dsimp only
  split
  next hready _ => exact absurd hready hs
  next => rfl

theorem fetched_mask (q : PortId) : ((fetched port mosi r d).ports.get q).mask = (d.ports.get q).mask := by
  by_cases hq : q = port
  · subst hq
    simp [fetched, setPort]
  · simp [fetched, setPort, Ports.get_put_other _ _ hq]

end

/-- Nothing due: the status byte, then FFh (R182). -/
theorem misoBytes_nil (port : PortId) (p : Port) (n : Nat) : misoBytes port p n [] = statusByte port p :: List.replicate n 0xFF := by
  simp [misoBytes]

/-- The bytes of a response are its three fields and its payload. -/
theorem length_responseBytes (r : Response) : (responseBytes r).length = 3 + r.payload.length := by
  simp only [responseBytes, List.length_cons]
  omega

/-- Settles O9, by the state of the port and the length of the transaction. -/
theorem fetchHandsOutTheResponse : Obligations.FetchHandsOutTheResponse := by
  refine fun s port mosi => ⟨fun r hs hr hl hno => ?_, fun r hs hr hl => ?_, fun hs => ?_⟩
  · rw [exec_fetch, takeFetch_ready hs hr hl, if_neg hno, fetched, misoBytes, length_responseBytes]
    rfl
  · rw [exec_fetch, takeFetch_short hs hr hl]
    exact ⟨_, rfl⟩
  · rw [exec_fetch, takeFetch_notReady hs, shiftOut, misoBytes_nil]

/-! ### What SOFT_RESET leaves -/

theorem softReset_inHalt (d : Dev) : InHalt .reset (softReset d) := ⟨rfl, rfl, rfl, rfl, rfl, rfl, rfl, rfl, rfl⟩

theorem softReset_rollState (d : Dev) :
    (softReset d).roll.state = if d.roll.record.isSome ∧ d.roll.filmPresent = true then .threaded else .noRoll := by
  simp [softReset, softResetRoll]

theorem softReset_lensState (d : Dev) :
    (softReset d).focus.lens.state
      = if d.focus.lens.state = .moving ∨ d.focus.lens.state = .homing then .unhomed else d.focus.lens.state := by
  simp [softReset, softResetFocus, softResetLens]

theorem softReset_slot (d : Dev) (n : Fin 4) : (softReset d).guard.get n = softResetSlot d.time (d.guard.get n) := by
  fin_cases n <;> rfl

theorem softResetSlot_state (now : Nat) (g : GuardSlot) :
    (softResetSlot now g).state = if g.state = .off then .off else .init := by
  unfold softResetSlot
  split
  next hoff => exact hoff
  next => rfl

theorem softReset_port (d : Dev) (port : PortId) : (softReset d).ports.get port = softResetPort (d.ports.get port) := by
  cases port <;> rfl

/-- Settles O5: the device is the soft reset of the one whose Service port has handed the response out. -/
theorem softResetTakesEffectAtFetch : Obligations.SoftResetTakesEffectAtFetch := by
  intro s r mosi hs hr hpending hl
  have hexec : exec (.fetch .service mosi) s = .next (s.setDev (softReset (fetched .service mosi r s.dev))) := by
    rw [exec_fetch, takeFetch_ready hs hr hl, if_pos ⟨rfl, hpending⟩]
  refine ⟨_, hexec, rfl, softReset_inHalt _, rfl, rfl, softReset_rollState _, rfl, rfl, rfl, rfl, rfl, rfl, rfl, rfl, rfl, rfl, rfl, rfl,
    rfl, rfl, rfl, rfl, softReset_lensState _, rfl, rfl, rfl, rfl, rfl, fun n => ⟨?record, ?slotState⟩, rfl, rfl, fun port => ?handedOut, rfl,
    (wellKeeps_of_exec rfl hexec).configuration⟩
  case record => exact (congrArg GuardSlot.record (softReset_slot _ n)).trans (softResetSlot_record _ _)
  case slotState => exact (congrArg GuardSlot.state (softReset_slot _ n)).trans (softResetSlot_state _ _)
  case handedOut =>
    have hport := softReset_port (fetched .service mosi r s.dev) port
    simp only [State.setDev_dev, hport]
    exact ⟨rfl, rfl, rfl, rfl, fetched_mask port⟩

end Sys2Proof.Proofs

/-! The status byte, the acknowledgement of events and the event mask: O10 and O11 (R183, R187 to R189). -/

namespace Sys2Proof.Proofs

open Sys2Proof Sys2Proof.Machine

/-! ### The status byte -/

theorem portStateCode_le (st : PortState) : portStateCode st ≤ 2 := by cases st <;> decide

theorem portNumber_le (port : PortId) : portNumber port ≤ 3 := by cases port <;> decide

theorem statusByte_toNat (port : PortId) (p : Port) :
    (statusByte port p).toNat = portStateCode p.state + 4 * (attention p).toNat + 8 * (p.flags != 0).toNat
      + 16 * p.resetIndication.toNat + 32 * portNumber port := by
  have hstate := portStateCode_le p.state
  have hnumber := portNumber_le port
  have hattention := (attention p).toNat_le
  have hflags := (p.flags != 0).toNat_le
  have hreset := p.resetIndication.toNat_le
  rw [statusByte, BitVec.toNat_ofNat]
  exact Nat.mod_eq_of_lt (by omega)

/-- The five fields of the status byte, read back from its number. -/
theorem statusByte_fields (port : PortId) (p : Port) :
    (statusByte port p).toNat % 4 = portStateCode p.state
      ∧ (statusByte port p).toNat / 2 ^ 2 % 2 = (attention p).toNat
      ∧ (statusByte port p).toNat / 2 ^ 3 % 2 = (p.flags != 0).toNat
      ∧ (statusByte port p).toNat / 2 ^ 4 % 2 = p.resetIndication.toNat
      ∧ (statusByte port p).toNat / 32 = portNumber port := by
  have hstate := portStateCode_le p.state
  have hattention := (attention p).toNat_le
  have hflags := (p.flags != 0).toNat_le
  have hreset := p.resetIndication.toNat_le
  rw [statusByte_toNat]
  omega

/-- A bit of a byte says what a Boolean says when the number holds that Boolean's digit in the bit's place. -/
theorem getLsbD_iff_of_div_mod {x : Byte} {k : Nat} {b : Bool} (h : x.toNat / 2 ^ k % 2 = b.toNat) : x.getLsbD k = true ↔ b = true := by
  rw [BitVec.getLsbD, testBit_eq_true_iff_div_mod, h, Bool.toNat_eq_one]

theorem attention_iff (p : Port) : attention p = true ↔ p.state = .ready ∨ p.flags &&& p.mask ≠ 0 := by simp [attention]

/-- Settles O10, by the five fields of the number that the byte is. -/
theorem statusByteTellsThePort : Obligations.StatusByteTellsThePort := by
  intro port p
  obtain ⟨hstate, hattention, hflags, hreset, hnumber⟩ := statusByte_fields port p
  refine ⟨hstate.trans ?_, (getLsbD_iff_of_div_mod hattention).trans (attention_iff p),
    (getLsbD_iff_of_div_mod hflags).trans bne_iff_ne, Bool.eq_iff_iff.2 (getLsbD_iff_of_div_mod hreset), hnumber.trans ?_⟩
  · cases p.state <;> rfl
  · cases port <;> rfl

/-! ### Event sets -/

theorem eventIndex_lt (k : EventKind) : eventIndex k < 16 := by cases k <;> decide

/-- The event kinds in the order of their bits (section 11.2). -/
def eventOrder : List EventKind :=
  [.notice, .done, .run, .focus, .focusDrift, .fault, .index, .roll, .guardEvent, .drift, .park, .spliceListFull, .motionEnd]

theorem eventOrder_eventIndex (k : EventKind) : eventOrder[eventIndex k]? = some k := by cases k <;> rfl

theorem eventIndex_inj {j k : EventKind} (h : eventIndex j = eventIndex k) : j = k :=
  Option.some.inj (by rw [← eventOrder_eventIndex j, h, eventOrder_eventIndex k])

/-- The set of one kind holds that kind alone. -/
theorem hasEvent_eventBit (j k : EventKind) : hasEvent (eventBit j) k = true ↔ k = j := by
  rw [hasEvent, eventBit, BitVec.getLsbD_twoPow, Bool.and_eq_true, decide_eq_true_iff, decide_eq_true_iff]
  exact ⟨fun ⟨_, h⟩ => (eventIndex_inj h).symm, fun h => ⟨eventIndex_lt j, h ▸ rfl⟩⟩

/-- A kind is in the set that an event-set payload gives exactly when its bit is set there. -/
theorem hasEvent_ofNat (n : Nat) (k : EventKind) : hasEvent (BitVec.ofNat 16 n) k = n.testBit (eventIndex k) := by
  rw [hasEvent, BitVec.getLsbD_ofNat, decide_eq_true (eventIndex_lt k), Bool.true_and]

/-- The level events whose condition holds: NOTICE while notices wait, DONE while completions wait (R187). -/
theorem hasEvent_levelEvents (port : PortId) (d : Dev) (k : EventKind) :
    hasEvent (levelEvents port d) k = true ↔
      (port = .capture ∧ k = .notice ∧ d.scan.notices ≠ []) ∨ (port = .request ∧ k = .done ∧ d.retrieval.completions ≠ []) := by
  have hnone : hasEvent 0#16 k = false := BitVec.getLsbD_zero
  cases port with
  | capture => cases hn : d.scan.notices <;> simp [levelEvents, hn, hnone, hasEvent_eventBit]
  | request => cases hc : d.retrieval.completions <;> simp [levelEvents, hc, hnone, hasEvent_eventBit]
  | service => simp [levelEvents, hnone]

/-- A flag left by an acknowledgement was set and not named, or is a named level flag whose condition holds (R188). -/
theorem hasEvent_flagsAfterAck (flags level : BitVec 16) (n : Nat) (k : EventKind) :
    hasEvent (flagsAfterAck flags (BitVec.ofNat 16 n) level) k = true ↔
      (hasEvent flags k = true ∧ n.testBit (eventIndex k) = false) ∨ (n.testBit (eventIndex k) = true ∧ hasEvent level k = true) := by
  have hsplit : hasEvent (flagsAfterAck flags (BitVec.ofNat 16 n) level) k
      = (hasEvent flags k && !hasEvent (BitVec.ofNat 16 n) k || hasEvent (BitVec.ofNat 16 n) k && hasEvent level k) := by
    simp [flagsAfterAck, hasEvent, eventIndex_lt]
  rw [hsplit, hasEvent_ofNat]
  simp

/-! ### ACK_EVENTS and EVENT_MASK -/

theorem heard_flags (port : PortId) (mosi : List Byte) (s : State) :
    ((heard port mosi s).ports.get port).flags = (s.dev.ports.get port).flags := by
  cases port <;> rfl

/-- A request that reads an event set goes to its handler with any payload of two bytes or more. -/
theorem takeFrame_takesSet {r : Request} {port : PortId} {s : State} {p : List Byte} (tag : Byte) (x : List Byte) (h : Handler)
    (ht : takes s port p) (hr : permitted r port = true) (hp : 2 ≤ p.length) :
    onDev (takeFrame (some r) port (requestFrame tag p x) (needBytes 2 h)) s
      = .next (answers s port tag (h p (heard port (requestFrame tag p x) s)).result
          (h p (heard port (requestFrame tag p x) s)).payload (h p (heard port (requestFrame tag p x) s)).dev) := by
  rw [takeFrame_takes r port tag p x _ s ht hr, needBytes, if_neg (Nat.not_lt.2 hp)]

/-- Settles O11, by the flags that an acknowledgement leaves and by the bits of the restricted set. -/
theorem eventsAreAcknowledgedAndMasked : Obligations.EventsAreAcknowledgedAndMasked := by
  refine ⟨fun s port tag p x ht hp => ⟨_, takeFrame_takesSet tag x _ ht rfl hp, fun k => ?ack⟩,
    fun s port tag p x ht hp => ⟨_, takeFrame_takesSet tag x _ ht rfl hp, fun i => ?mask⟩⟩
  case ack =>
    rw [hasEvent_flagsAfterAck, hasEvent_levelEvents, heard_flags]
    rfl
  case mask =>
    rw [BitVec.getLsbD_and, BitVec.getLsbD_ofNat]
    by_cases hi : i < 16
    · simp [hi]
    · simp [hi, BitVec.getLsbD_of_ge _ _ (Nat.not_lt.1 hi)]

end Sys2Proof.Proofs

/-! Numbers in their width, the frame flags and the tap map entries, and how a record reads a field back (R195). -/

namespace Sys2Proof.Proofs

open Sys2Proof Sys2Proof.Machine

/-! ### Numbers in their width -/

/-- A number that fits its width reads back from its bytes. -/
theorem leNat_leBytes {n v : Nat} (h : v < 256 ^ n) : leNat (leBytes n v) = v := by
  induction n generalizing v with
  | zero =>
    obtain rfl : v = 0 := by simpa using h
    rfl
  | succ n ih =>
    have hrest : v / 256 < 256 ^ n := Nat.div_lt_of_lt_mul (by rwa [Nat.pow_succ'] at h)
    calc leNat (leBytes (n + 1) v) = v % 256 + 256 * leNat (leBytes n (v / 256)) := rfl
      _ = v % 256 + 256 * (v / 256) := by rw [ih hrest]
      _ = v := Nat.mod_add_div v 256

section
variable {n : Nat} {v : Int}

/-- The bytes of a signed number are those of its two's complement. -/
theorem leSigned_eq (hlow : -(256 ^ n : Int) ≤ 2 * v) (hhigh : 2 * v < (256 ^ n : Int)) :
    leSigned n v = leBytes n (if v < 0 then v + 256 ^ n else v).toNat := by
  have hcast : ((256 ^ n : Nat) : Int) = 256 ^ n := by norm_cast
  have hmod : v % (256 ^ n : Nat) = if v < 0 then v + 256 ^ n else v := by
    rw [hcast]
    split
    · rw [← Int.add_emod_right, Int.emod_eq_of_lt] <;> omega
    · rw [Int.emod_eq_of_lt] <;> omega
  rw [leSigned, hmod]

/-- A signed number that fits its width reads back from its bytes. -/
theorem leInt_leSigned (hlow : -(256 ^ n : Int) ≤ 2 * v) (hhigh : 2 * v < (256 ^ n : Int)) : leInt (leSigned n v) = v := by
  have hcast : ((256 ^ n : Nat) : Int) = 256 ^ n := by norm_cast
  have hfits : (if v < 0 then v + 256 ^ n else v).toNat < 256 ^ n := by split <;> omega
  rw [leSigned_eq hlow hhigh, leInt, length_leBytes, leNat_leBytes hfits]
  split_ifs <;> omega

end

/-- A yes/no field is one byte, 1 for yes and 0 for no (R195). -/
theorem yesNoByte_eq (b : Bool) : leBytes 1 b.toNat = [if b = true then 1 else 0] := by cases b <;> rfl

/-- An absent number is sent as all ones of its width (R195). -/
theorem optBytes_eq (n : Nat) (v : Option Nat) : optBytes n v = leBytes n (v.getD (256 ^ n - 1)) := by cases v <;> rfl

/-! ### Fields read from a record -/

section
variable {p : List Byte} {offset n v : Nat}

theorem natAt_of_holdsAt (h : HoldsAt p offset (leBytes n v)) (hv : v < 256 ^ n) : natAt p offset n = v := by
  unfold HoldsAt at h
  rw [length_leBytes] at h
  rw [natAt, h, leNat_leBytes hv]

theorem intAt_of_holdsAt {i : Int} (h : HoldsAt p offset (leSigned n i)) (hlow : -(256 ^ n : Int) ≤ 2 * i)
    (hhigh : 2 * i < (256 ^ n : Int)) : intAt p offset n = i := by
  unfold HoldsAt at h
  rw [length_leSigned] at h
  rw [intAt, h, leInt_leSigned hlow hhigh]

/-- The first bytes of a record hold the fields that end in them. -/
theorem HoldsAt.take {bytes : List Byte} {m : Nat} (h : HoldsAt p offset bytes) (hm : offset + bytes.length ≤ m) :
    HoldsAt (p.take m) offset bytes := by
  unfold HoldsAt at h ⊢
  rw [List.drop_take, List.take_take, Nat.min_eq_left (by omega), h]

end

/-! ### The frame flags -/

/-- The frame flags, bit 0 first, in the order of Table 7-1. -/
def frameFlagList (f : FrameFlags) : List Bool :=
  [f.short, f.long, f.forced, f.splice, f.suspect, f.multiMark, f.unmarked, f.markLost, f.markFault, f.monitorGap, f.focusMoving
    , f.addrHeld, f.imported, f.verified, f.mismatch]

section
variable (f : FrameFlags)

/-- The flag bits are the number that has the flags as its bits. -/
theorem frameFlagBits_eq : frameFlagBits f = Nat.ofBits fun j : Fin 15 => (frameFlagList f)[j.val]'j.isLt := by
  simp [frameFlagBits, frameFlagList, Nat.ofBits, Fin.foldr_succ]
  omega

theorem frameFlagBits_lt : frameFlagBits f < 32768 := by
  rw [frameFlagBits_eq]
  exact Nat.ofBits_lt_two_pow _

theorem frameFlagBits_testBit {j : Nat} (hj : j < 15) : (frameFlagBits f).testBit j = (frameFlagList f)[j]'hj := by
  rw [frameFlagBits_eq]
  exact Nat.testBit_ofBits_lt _ _ hj

theorem frameFlagBits_testBits : (List.range 15).map (fun j => (frameFlagBits f).testBit j) = frameFlagList f := by
  refine List.ext_getElem rfl fun j hj _ => ?_
  rw [List.getElem_map, List.getElem_range]
  exact frameFlagBits_testBit f (by simpa using hj)

/-- The frame flags read back from their mask. -/
theorem frameFlagsOfBits_frameFlagBits : frameFlagsOfBits (BitVec.ofNat 16 (frameFlagBits f)) = f := by
  have hbit : ∀ j (hj : j < 15), (BitVec.ofNat 16 (frameFlagBits f)).getLsbD j = (frameFlagList f)[j]'hj := fun j hj => by
    rw [BitVec.getLsbD_ofNat, decide_eq_true (Nat.lt_succ_of_lt hj), Bool.true_and, frameFlagBits_testBit f hj]
  unfold frameFlagsOfBits
  rw [hbit 0 (by decide), hbit 1 (by decide), hbit 2 (by decide), hbit 3 (by decide), hbit 4 (by decide), hbit 5 (by decide),
    hbit 6 (by decide), hbit 7 (by decide), hbit 8 (by decide), hbit 9 (by decide), hbit 10 (by decide), hbit 11 (by decide),
    hbit 12 (by decide), hbit 13 (by decide), hbit 14 (by decide)]
  rfl

end

/-! ### The tap map entries -/

/-- A tap map entry reads back from its byte. -/
theorem tapEntryOf_tapByte (e : TapEntry) : tapEntryOf (tapByte e) = some e := by
  cases e with
  | none => rfl
  | some g =>
    have hg : (BitVec.ofNat 8 g.val).toNat = g.val := Nat.mod_eq_of_lt (by omega)
    have hlt : (BitVec.ofNat 8 g.val).toNat < 8 := hg.trans_lt g.isLt
    show tapEntryOf (BitVec.ofNat 8 g.val) = some (some g)
    rw [tapEntryOf_eq (.inl hlt), tapEntry, dif_pos hlt]
    exact congrArg (fun k => some (some k)) (Fin.ext hg)

end Sys2Proof.Proofs

/-! The index entry: its fields, and the imported entry that its first 19 bytes make (section 11.4, R135). -/

namespace Sys2Proof.Proofs

open Sys2Proof Sys2Proof.Machine

/-! ### The packed focus step and mark level -/

/-- The number that packs focus step and mark level: the step in bits 11:0, bit 14 for an absent step, the level in bits 13:12. -/
def packedNumber (step : Option Nat) (level : Nat) : Nat := step.getD 16384 + 4096 * level

section
variable {step : Option Nat} {level : Nat}

/-- The packed number is well formed, and gives its level and its step back. -/
theorem packedNumber_reads (hlevel : level ≤ 3) (hstep : ∀ k ∈ step, k ≤ 4095) :
    packedOk (packedNumber step level) = true ∧ packedNumber step level / 4096 % 4 = level
      ∧ (if packedNumber step level / 16384 % 2 = 1 then none else some (packedNumber step level % 4096)) = step := by
  rw [packedOk_iff, testBit_eq_true_iff_div_mod, ← mod_two_pow_eq_zero_iff]
  generalize hv : packedNumber step level = v
  cases step with
  | none =>
    replace hv : 16384 + 4096 * level = v := hv
    exact ⟨by omega, by omega, if_pos (by omega)⟩
  | some k =>
    replace hv : k + 4096 * level = v := hv
    have hk : k ≤ 4095 := hstep k rfl
    have hlow : v % 4096 = k := by omega
    exact ⟨by omega, by omega, by rw [if_neg (by omega), hlow]⟩

end

/-! ### The fields of the index entry -/

/-- The fields of the index entry, in the order of section 11.4. -/
def entryFields (n : Nat) (e : IndexEntry) : List (List Byte) :=
  [leBytes 2 n, leSigned 4 e.start, leBytes 3 e.length, leBytes 2 e.address.batch, leBytes 2 e.address.doc, leBytes 2 e.address.page
    , leBytes 2 (packedNumber e.focusStep e.markLevel), leBytes 2 (frameFlagBits e.flags), leBytes 1 (e.run.getD 0xFF)
    , leBytes 4 (e.firstLine.getD 0xFFFFFFFF), leBytes 4 (e.lastLine.getD 0xFFFFFFFF)]

/-- The widths of the fields of the index entry. -/
def entryWidths : List Nat := [2, 4, 3, 2, 2, 2, 2, 2, 1, 4, 4]

section
variable (n : Nat) (e : IndexEntry)

theorem entryBytes_eq : entryBytes n e = (entryFields n e).flatten := by
  simp [entryBytes, entryFields, addressBytes, packedStep_eq, packedNumber, optBytes_eq]

theorem entryFields_widths : (entryFields n e).map List.length = entryWidths := by simp [entryFields, entryWidths]

theorem length_entryBytes : (entryBytes n e).length = 28 := by
  rw [entryBytes_eq, List.length_flatten, entryFields_widths]
  rfl

variable {n e}

theorem entryBytes_holds (k : Nat) {bytes : List Byte} (hk : (entryFields n e)[k]? = some bytes) :
    HoldsAt (entryBytes n e) (entryWidths.take k).sum bytes := by
  rw [entryBytes_eq]
  exact holdsAt_flatten (entryFields_widths n e) hk

/-! ### The imported form of an entry -/

/-- The numbers of an entry fit the widths of its first 19 bytes. -/
structure EntryFits (n : Nat) (e : IndexEntry) : Prop where
  number : n < 65536
  startLow : -2147483648 ≤ e.start
  startHigh : e.start ≤ 2147483647
  length : e.length < 16777216
  batch : e.address.batch ≤ 65535
  doc : e.address.doc ≤ 65535
  page : e.address.page ≤ 65535
  level : e.markLevel ≤ 3
  step : ∀ k ∈ e.focusStep, k ≤ 4095

/-- What an import makes of an entry: IMPORTED set, VERIFIED and MISMATCH clear, no run and no lines (R135). -/
def asImported (e : IndexEntry) : IndexEntry :=
  { e with
    flags := { e.flags with imported := true, verified := false, mismatch := false }, run := none, firstLine := none
    lastLine := none }

/-- The first 19 bytes of an entry make the same entry as an imported one. -/
theorem importedEntryOf_entryBytes (h : EntryFits n e) :
    importedEntryOf ((entryBytes n e).take 19)
      = { frame := n, packed := packedNumber e.focusStep e.markLevel, entry := asImported e } := by
  obtain ⟨hn, hlow, hhigh, hlength, hbatch, hdoc, hpage, hlevel, hstep⟩ := h
  obtain ⟨hok, hreadLevel, hreadStep⟩ := packedNumber_reads hlevel hstep
  have hpacked : packedNumber e.focusStep e.markLevel < 32768 := (packedOk_iff _).1 hok |>.1
  have hflags := frameFlagBits_lt e.flags
  have frameAt : natAt ((entryBytes n e).take 19) 0 2 = n :=
    natAt_of_holdsAt ((entryBytes_holds 0 rfl).take (by simp)) hn
  have startAt : intAt ((entryBytes n e).take 19) 2 4 = e.start :=
    intAt_of_holdsAt ((entryBytes_holds 1 rfl).take (by simp [entryWidths])) (by omega) (by omega)
  have lengthAt : natAt ((entryBytes n e).take 19) 6 3 = e.length :=
    natAt_of_holdsAt ((entryBytes_holds 2 rfl).take (by simp [entryWidths])) hlength
  have batchAt : natAt ((entryBytes n e).take 19) 9 2 = e.address.batch :=
    natAt_of_holdsAt ((entryBytes_holds 3 rfl).take (by simp [entryWidths])) (by omega)
  have docAt : natAt ((entryBytes n e).take 19) 11 2 = e.address.doc :=
    natAt_of_holdsAt ((entryBytes_holds 4 rfl).take (by simp [entryWidths])) (by omega)
  have pageAt : natAt ((entryBytes n e).take 19) 13 2 = e.address.page :=
    natAt_of_holdsAt ((entryBytes_holds 5 rfl).take (by simp [entryWidths])) (by omega)
  have packedAt : natAt ((entryBytes n e).take 19) 15 2 = packedNumber e.focusStep e.markLevel :=
    natAt_of_holdsAt ((entryBytes_holds 6 rfl).take (by simp [entryWidths])) (by omega)
  have flagsAt : natAt ((entryBytes n e).take 19) 17 2 = frameFlagBits e.flags :=
    natAt_of_holdsAt ((entryBytes_holds 7 rfl).take (by simp [entryWidths])) (by omega)
  unfold importedEntryOf asImported
  dsimp only
  rw [frameAt, startAt, lengthAt, batchAt, docAt, pageAt, packedAt, flagsAt, hreadLevel, hreadStep, frameFlagsOfBits_frameFlagBits]

end

end Sys2Proof.Proofs

/-! The guard slot record: its fields, the checks of Table 3-1, and O29. -/

namespace Sys2Proof.Proofs

open Sys2Proof Sys2Proof.Machine

/-! ### Codes of named values received -/

theorem dataTypeOf_eq_some_iff {n : Nat} {t : DataType} : dataTypeOf n = some t ↔ n = dataTypeCode t := by
  constructor
  · unfold dataTypeOf
    split <;> rintro ⟨⟩ <;> rfl
  · rintro rfl
    cases t <;> rfl

theorem powerModeOf_eq_some_iff {n : Nat} {m : PowerMode} : powerModeOf n = some m ↔ n = powerModeCode m := by
  constructor
  · unfold powerModeOf
    split <;> rintro ⟨⟩ <;> rfl
  · rintro rfl
    cases m <;> rfl

theorem areaOf_eq_some_iff {n : Nat} {a : Area} : areaOf n = some a ↔ n = areaCode a := by
  constructor
  · unfold areaOf
    split <;> rintro ⟨⟩ <;> rfl
  · rintro rfl
    cases a <;> rfl

theorem slotActionOf_eq_some_iff {n : Nat} {a : SlotAction} : slotActionOf n = some a ↔ n = slotActionCode a := by
  constructor
  · unfold slotActionOf
    split <;> rintro ⟨⟩ <;> rfl
  · rintro rfl
    cases a <;> rfl

theorem yesNoOf_eq_some_iff {n : Nat} {b : Bool} : yesNoOf n = some b ↔ n = b.toNat := by
  constructor
  · unfold yesNoOf
    split <;> rintro ⟨⟩ <;> rfl
  · rintro rfl
    cases b <;> rfl

theorem exists_eq_dataTypeCode_iff {n : Nat} : (∃ t, n = dataTypeCode t) ↔ n ≤ 2 := by
  refine ⟨?_, fun h => ?_⟩
  · rintro ⟨t, rfl⟩
    cases t <;> decide
  · interval_cases n
    exacts [⟨.u16, rfl⟩, ⟨.s16, rfl⟩, ⟨.u8, rfl⟩]

theorem exists_eq_powerModeCode_iff {n : Nat} : (∃ m, n = powerModeCode m) ↔ n ≤ 1 := by
  refine ⟨?_, fun h => ?_⟩
  · rintro ⟨m, rfl⟩
    cases m <;> decide
  · interval_cases n
    exacts [⟨.periodic, rfl⟩, ⟨.always, rfl⟩]

theorem exists_eq_areaCode_iff {n : Nat} : (∃ a, n = areaCode a) ↔ n ≤ 1 := by
  refine ⟨?_, fun h => ?_⟩
  · rintro ⟨a, rfl⟩
    cases a <;> decide
  · interval_cases n
    exacts [⟨.outside, rfl⟩, ⟨.inside, rfl⟩]

theorem exists_eq_slotActionCode_iff {n : Nat} : (∃ a, n = slotActionCode a) ↔ n ≤ 2 := by
  refine ⟨?_, fun h => ?_⟩
  · rintro ⟨a, rfl⟩
    cases a <;> decide
  · interval_cases n
    exacts [⟨.stop, rfl⟩, ⟨.mark, rfl⟩, ⟨.note, rfl⟩]

theorem exists_eq_yesNo_iff {n : Nat} : (∃ b : Bool, n = b.toNat) ↔ n ≤ 1 := by
  refine ⟨?_, fun h => ?_⟩
  · rintro ⟨b, rfl⟩
    exact b.toNat_le
  · interval_cases n
    exacts [⟨false, rfl⟩, ⟨true, rfl⟩]

theorem dataTypeCode_eq_two_iff (t : DataType) : dataTypeCode t = 2 ↔ t = .u8 := by cases t <;> decide

theorem slotActionCode_eq_zero_iff (a : SlotAction) : slotActionCode a = 0 ↔ a = .stop := by cases a <;> decide

/-! ### Thresholds -/

/-- A threshold pattern read under a data type's code: code 1, S16, is two's complement (R49). -/
def patternValue (type pattern : Nat) : Int :=
  if type = 1 ∧ 32768 ≤ pattern then (pattern : Int) - 65536 else pattern

theorem thresholdValue_eq (t : DataType) (pattern : Nat) : thresholdValue t pattern = patternValue (dataTypeCode t) pattern := by
  cases t <;> simp [thresholdValue, patternValue, dataTypeCode]

/-- Two bytes in two's complement are the S16 reading of their pattern. -/
theorem leInt_eq_thresholdValue {bs : List Byte} (h : bs.length = 2) : leInt bs = thresholdValue .s16 (leNat bs) := by
  simp only [leInt, h, thresholdValue]
  split_ifs <;> omega

/-- The two threshold fields compare as the data type reads them. -/
theorem thresholds_lt_iff {p : List Byte} (hp : 23 ≤ p.length) (t : DataType) :
    (if t = .s16 then leInt ((p.drop 15).take 2) < leInt ((p.drop 17).take 2) else natAt p 15 2 < natAt p 17 2)
      ↔ thresholdValue t (natAt p 15 2) < thresholdValue t (natAt p 17 2) := by
  have hlength : ∀ k, k ≤ 21 → ((p.drop k).take 2).length = 2 := fun k hk => by
    rw [List.length_take, List.length_drop]
    omega
  cases t with
  | s16 =>
    rw [if_pos rfl, leInt_eq_thresholdValue (hlength 15 (by decide)), leInt_eq_thresholdValue (hlength 17 (by decide))]
    rfl
  | u16 | u8 => exact Int.ofNat_lt.symm

/-! ### The checks of Table 3-1 -/

/-- The checks of Table 3-1 on the fields of a record. -/
structure SlotRecordOk (r : SlotRecord) : Prop where
  busAddress : r.busAddress ≤ 127
  swap : ¬ (r.byteSwap = true ∧ r.dataType = .u8)
  period : 10 ≤ r.period
  pairCount : r.pairCount ≤ 64
  preInitWait : r.preInitWait ≤ 2550
  postInitWait : r.postInitWait ≤ 2550
  retries : r.retries ≤ 3
  narrow : r.dataType = .u8 → r.underPattern ≤ 255 ∧ r.overPattern ≤ 255
  thresholds : thresholdValue r.dataType r.underPattern < thresholdValue r.dataType r.overPattern
  debounceLow : 1 ≤ r.debounce
  debounceHigh : r.debounce ≤ 8
  vote : ¬ (r.vote = true ∧ r.action ≠ .stop)

/-- The bytes carry the fields of an enabled record, at the offsets of section 11.4. -/
structure CarriesRecord (p : List Byte) (r : SlotRecord) : Prop where
  enabled : r.enabled = true
  busAddress : natAt p 1 1 = r.busAddress
  valueRegister : natAt p 2 1 = r.valueRegister
  dataType : natAt p 3 1 = dataTypeCode r.dataType
  byteSwap : natAt p 4 1 = r.byteSwap.toNat
  powerMode : natAt p 5 1 = powerModeCode r.powerMode
  period : natAt p 6 2 = r.period
  scriptStart : natAt p 8 1 = r.scriptStart
  pairCount : natAt p 9 1 = r.pairCount
  preInitWait : natAt p 10 2 = r.preInitWait
  postInitWait : natAt p 12 2 = r.postInitWait
  retries : natAt p 14 1 = r.retries
  underPattern : natAt p 15 2 = r.underPattern
  overPattern : natAt p 17 2 = r.overPattern
  area : natAt p 19 1 = areaCode r.area
  debounce : natAt p 20 1 = r.debounce
  action : natAt p 21 1 = slotActionCode r.action
  vote : natAt p 22 1 = r.vote.toNat

section
variable {p : List Byte} {r : SlotRecord}

/-- The bytes received make a record exactly when they carry its fields and these pass the checks. -/
theorem slotRecordOf_eq_some_iff (hp : 23 ≤ p.length) : slotRecordOf p = some r ↔ CarriesRecord p r ∧ SlotRecordOk r := by
  unfold slotRecordOf
  simp only [Option.bind_eq_bind, Option.bind_eq_some_iff, dataTypeOf_eq_some_iff, yesNoOf_eq_some_iff, powerModeOf_eq_some_iff,
    areaOf_eq_some_iff, slotActionOf_eq_some_iff, thresholds_lt_iff hp, Option.ite_none_right_eq_some, Option.some.injEq]
  constructor
  · rintro ⟨t, ht, swap, hswap, mode, hmode, area, harea, action, haction, vote, hvote,
      ⟨haddress, hu8, hperiod, hpairs, hpre, hpost, hretries, hnarrow, hthresholds, hlow, hhigh, hstop⟩, rfl⟩
    exact ⟨⟨rfl, rfl, rfl, ht, hswap, hmode, rfl, rfl, rfl, rfl, rfl, rfl, rfl, rfl, harea, rfl, haction, hvote⟩,
      ⟨haddress, hu8, hperiod, hpairs, hpre, hpost, hretries, hnarrow, hthresholds, hlow, hhigh, hstop⟩⟩
  · obtain ⟨_, _, _, t, swap, mode, _, _, _, _, _, _, _, _, area, _, action, vote⟩ := r
    rintro ⟨⟨rfl, rfl, rfl, ht, hswap, hmode, rfl, rfl, rfl, rfl, rfl, rfl, rfl, rfl, harea, rfl, haction, hvote⟩,
      ⟨haddress, hu8, hperiod, hpairs, hpre, hpost, hretries, hnarrow, hthresholds, hlow, hhigh, hstop⟩⟩
    exact ⟨t, ht, swap, hswap, mode, hmode, area, harea, action, haction, vote, hvote,
      ⟨haddress, hu8, hperiod, hpairs, hpre, hpost, hretries, hnarrow, hthresholds, hlow, hhigh, hstop⟩, rfl⟩

/-- Some record is carried exactly when every code is one of its set. -/
theorem exists_carriesRecord_iff : (∃ r, CarriesRecord p r) ↔
    natAt p 3 1 ≤ 2 ∧ natAt p 4 1 ≤ 1 ∧ natAt p 5 1 ≤ 1 ∧ natAt p 19 1 ≤ 1 ∧ natAt p 21 1 ≤ 2 ∧ natAt p 22 1 ≤ 1 := by
  rw [← exists_eq_dataTypeCode_iff, ← exists_eq_yesNo_iff, ← exists_eq_powerModeCode_iff, ← exists_eq_areaCode_iff,
    ← exists_eq_slotActionCode_iff, ← exists_eq_yesNo_iff]
  constructor
  · rintro ⟨r, h⟩
    exact ⟨⟨_, h.dataType⟩, ⟨_, h.byteSwap⟩, ⟨_, h.powerMode⟩, ⟨_, h.area⟩, ⟨_, h.action⟩, ⟨_, h.vote⟩⟩
  · rintro ⟨⟨t, ht⟩, ⟨swap, hswap⟩, ⟨mode, hmode⟩, ⟨area, harea⟩, ⟨action, haction⟩, ⟨vote, hvote⟩⟩
    exact ⟨⟨true, _, _, t, swap, mode, _, _, _, _, _, _, _, _, area, _, action, vote⟩,
      ⟨rfl, rfl, rfl, ht, hswap, hmode, rfl, rfl, rfl, rfl, rfl, rfl, rfl, rfl, harea, rfl, haction, hvote⟩⟩

/-- The checks on the fields of a carried record, in terms of its bytes. -/
theorem slotRecordOk_iff (h : CarriesRecord p r) : SlotRecordOk r ↔
    natAt p 1 1 ≤ 127 ∧ ¬ (natAt p 4 1 = 1 ∧ natAt p 3 1 = 2) ∧ 10 ≤ natAt p 6 2 ∧ natAt p 9 1 ≤ 64 ∧ natAt p 10 2 ≤ 2550
      ∧ natAt p 12 2 ≤ 2550 ∧ natAt p 14 1 ≤ 3 ∧ (natAt p 3 1 = 2 → natAt p 15 2 ≤ 255 ∧ natAt p 17 2 ≤ 255)
      ∧ patternValue (natAt p 3 1) (natAt p 15 2) < patternValue (natAt p 3 1) (natAt p 17 2) ∧ 1 ≤ natAt p 20 1
      ∧ natAt p 20 1 ≤ 8 ∧ ¬ (natAt p 22 1 = 1 ∧ natAt p 21 1 ≠ 0) := by
  rw [h.busAddress, h.byteSwap, h.dataType, h.period, h.pairCount, h.preInitWait, h.postInitWait, h.retries, h.underPattern,
    h.overPattern, h.debounce, h.vote, h.action, Bool.toNat_eq_one, Bool.toNat_eq_one, dataTypeCode_eq_two_iff, Ne,
    slotActionCode_eq_zero_iff, ← thresholdValue_eq, ← thresholdValue_eq]
  constructor
  · rintro ⟨haddress, hu8, hperiod, hpairs, hpre, hpost, hretries, hnarrow, hthresholds, hlow, hhigh, hstop⟩
    exact ⟨haddress, hu8, hperiod, hpairs, hpre, hpost, hretries, hnarrow, hthresholds, hlow, hhigh, hstop⟩
  · rintro ⟨haddress, hu8, hperiod, hpairs, hpre, hpost, hretries, hnarrow, hthresholds, hlow, hhigh, hstop⟩
    exact ⟨haddress, hu8, hperiod, hpairs, hpre, hpost, hretries, hnarrow, hthresholds, hlow, hhigh, hstop⟩

end

/-! ### The fields of the slot record -/

/-- The fields of the guard slot record, in the order of section 11.4. -/
def slotRecordFields (r : SlotRecord) : List (List Byte) :=
  [leBytes 1 r.enabled.toNat, leBytes 1 r.busAddress, leBytes 1 r.valueRegister, leBytes 1 (dataTypeCode r.dataType)
    , leBytes 1 r.byteSwap.toNat, leBytes 1 (powerModeCode r.powerMode), leBytes 2 r.period, leBytes 1 r.scriptStart
    , leBytes 1 r.pairCount, leBytes 2 r.preInitWait, leBytes 2 r.postInitWait, leBytes 1 r.retries, leBytes 2 r.underPattern
    , leBytes 2 r.overPattern, leBytes 1 (areaCode r.area), leBytes 1 r.debounce, leBytes 1 (slotActionCode r.action)
    , leBytes 1 r.vote.toNat]

/-- The widths of the fields of the guard slot record. -/
def slotRecordWidths : List Nat := [1, 1, 1, 1, 1, 1, 2, 1, 1, 2, 2, 1, 2, 2, 1, 1, 1, 1]

section
variable (r : SlotRecord)

theorem slotRecordBytes_eq : slotRecordBytes r = (slotRecordFields r).flatten := by
  unfold slotRecordBytes slotRecordFields
  simp only [List.flatten_cons, List.flatten_nil, List.append_assoc, List.append_nil]

theorem slotRecordFields_widths : (slotRecordFields r).map List.length = slotRecordWidths := by
  simp only [slotRecordFields, slotRecordWidths, List.map_cons, List.map_nil, length_leBytes]

variable {r}

theorem slotRecordBytes_holds (k : Nat) {bytes : List Byte} (hk : (slotRecordFields r)[k]? = some bytes) :
    HoldsAt (slotRecordBytes r) (slotRecordWidths.take k).sum bytes := by
  rw [slotRecordBytes_eq]
  exact holdsAt_flatten (slotRecordFields_widths r) hk

/-- The numbers of a record that no check bounds fit their widths. -/
structure SlotRecordFits (r : SlotRecord) : Prop where
  valueRegister : r.valueRegister ≤ 255
  period : r.period ≤ 65535
  scriptStart : r.scriptStart ≤ 255
  underPattern : r.underPattern ≤ 65535
  overPattern : r.overPattern ≤ 65535

/-- The bytes of a valid record carry its fields. -/
theorem carriesRecord_slotRecordBytes (henabled : r.enabled = true) (hok : SlotRecordOk r) (hfits : SlotRecordFits r) :
    CarriesRecord (slotRecordBytes r) r where
  enabled := henabled
  busAddress := natAt_of_holdsAt (slotRecordBytes_holds 1 rfl) (hok.busAddress.trans_lt (by decide))
  valueRegister := natAt_of_holdsAt (slotRecordBytes_holds 2 rfl) (hfits.valueRegister.trans_lt (by decide))
  dataType := natAt_of_holdsAt (slotRecordBytes_holds 3 rfl) ((exists_eq_dataTypeCode_iff.1 ⟨_, rfl⟩).trans_lt (by decide))
  byteSwap := natAt_of_holdsAt (slotRecordBytes_holds 4 rfl) ((Bool.toNat_le _).trans_lt (by decide))
  powerMode := natAt_of_holdsAt (slotRecordBytes_holds 5 rfl) ((exists_eq_powerModeCode_iff.1 ⟨_, rfl⟩).trans_lt (by decide))
  period := natAt_of_holdsAt (slotRecordBytes_holds 6 rfl) (hfits.period.trans_lt (by decide))
  scriptStart := natAt_of_holdsAt (slotRecordBytes_holds 7 rfl) (hfits.scriptStart.trans_lt (by decide))
  pairCount := natAt_of_holdsAt (slotRecordBytes_holds 8 rfl) (hok.pairCount.trans_lt (by decide))
  preInitWait := natAt_of_holdsAt (slotRecordBytes_holds 9 rfl) (hok.preInitWait.trans_lt (by decide))
  postInitWait := natAt_of_holdsAt (slotRecordBytes_holds 10 rfl) (hok.postInitWait.trans_lt (by decide))
  retries := natAt_of_holdsAt (slotRecordBytes_holds 11 rfl) (hok.retries.trans_lt (by decide))
  underPattern := natAt_of_holdsAt (slotRecordBytes_holds 12 rfl) (hfits.underPattern.trans_lt (by decide))
  overPattern := natAt_of_holdsAt (slotRecordBytes_holds 13 rfl) (hfits.overPattern.trans_lt (by decide))
  area := natAt_of_holdsAt (slotRecordBytes_holds 14 rfl) ((exists_eq_areaCode_iff.1 ⟨_, rfl⟩).trans_lt (by decide))
  debounce := natAt_of_holdsAt (slotRecordBytes_holds 15 rfl) (hok.debounceHigh.trans_lt (by decide))
  action := natAt_of_holdsAt (slotRecordBytes_holds 16 rfl) ((exists_eq_slotActionCode_iff.1 ⟨_, rfl⟩).trans_lt (by decide))
  vote := natAt_of_holdsAt (slotRecordBytes_holds 17 rfl) ((Bool.toNat_le _).trans_lt (by decide))

/-- A valid record reads back from its bytes. -/
theorem slotRecordOf_slotRecordBytes (henabled : r.enabled = true) (hok : SlotRecordOk r) (hfits : SlotRecordFits r) :
    slotRecordOf (slotRecordBytes r) = some r :=
  (slotRecordOf_eq_some_iff (length_slotRecordBytes r).ge).2 ⟨carriesRecord_slotRecordBytes henabled hok hfits, hok⟩

end

/-- Settles O29, by the fields of the two records at their offsets, and by the records that the received bytes carry. -/
theorem recordsReadBack : Obligations.RecordsReadBack := by
  refine ⟨?readBack, ⟨fun n v h => ⟨leNat_leBytes h, length_leBytes n v⟩, fun n v _ => leInt_leSigned, ?imported,
      frameFlagsOfBits_frameFlagBits, tapEntryOf_tapByte⟩, fun p hp => ?checks,
    ⟨fun _ _ _ => rfl, fun _ _ => rfl, fun n v _ => leSigned_eq⟩, fun r => ?record, fun n e => ?entry,
    fun f => ⟨frameFlagBits_lt f, frameFlagBits_testBits f⟩, rfl, rfl, rfl, rfl⟩
  case readBack =>
    intro r henabled haddress hregister hswap hperiod hperiod' hscript hpairs hpre hpost hretries hunder hover hnarrow hthresholds
      hlow hhigh hvote
    have hok : SlotRecordOk r := ⟨haddress, fun ⟨hs, hu8⟩ => hswap hs hu8, hperiod, hpairs, hpre, hpost, hretries, hnarrow,
      hthresholds, hlow, hhigh, fun ⟨hv, hstop⟩ => hstop (hvote hv)⟩
    exact ⟨slotRecordOf_slotRecordBytes henabled hok ⟨hregister, hperiod', hscript, hunder, hover⟩, length_slotRecordBytes r⟩
  case imported =>
    intro n e hn hstart hstart' hlength hbatch hdoc hpage hlevel hstep
    dsimp only
    rw [importedEntryOf_entryBytes ⟨hn, hstart, hstart', hlength, hbatch, hdoc, hpage, hlevel, hstep⟩]
    exact ⟨rfl, (packedNumber_reads hlevel hstep).1, rfl⟩
  case checks =>
    intro type value
    rw [Option.isSome_iff_exists]
    simp only [slotRecordOf_eq_some_iff hp]
    constructor
    · rintro ⟨r, hr, hok⟩
      obtain ⟨ht, hswap, hmode, harea, haction, hvote⟩ := exists_carriesRecord_iff.1 ⟨r, hr⟩
      obtain ⟨haddress, hu8, hperiod, hpairs, hpre, hpost, hretries, hnarrow, hthresholds, hlow, hhigh, hstop⟩ :=
        (slotRecordOk_iff hr).1 hok
      exact ⟨haddress, ht, hswap, hu8, hmode, hperiod, hpairs, hpre, hpost, hretries, hnarrow, hthresholds, harea, hlow, hhigh,
        haction, hvote, hstop⟩
    · rintro ⟨haddress, ht, hswap, hu8, hmode, hperiod, hpairs, hpre, hpost, hretries, hnarrow, hthresholds, harea, hlow, hhigh,
        haction, hvote, hstop⟩
      obtain ⟨r, hr⟩ := exists_carriesRecord_iff.2 ⟨ht, hswap, hmode, harea, haction, hvote⟩
      exact ⟨r, hr, (slotRecordOk_iff hr).2
        ⟨haddress, hu8, hperiod, hpairs, hpre, hpost, hretries, hnarrow, hthresholds, hlow, hhigh, hstop⟩⟩
  case record =>
    intro holds
    rw [← yesNoByte_eq, ← yesNoByte_eq, ← yesNoByte_eq]
    exact ⟨slotRecordBytes_holds 0 rfl, slotRecordBytes_holds 1 rfl, slotRecordBytes_holds 2 rfl, slotRecordBytes_holds 3 rfl,
      slotRecordBytes_holds 4 rfl, slotRecordBytes_holds 5 rfl, slotRecordBytes_holds 6 rfl, slotRecordBytes_holds 7 rfl,
      slotRecordBytes_holds 8 rfl, slotRecordBytes_holds 9 rfl, slotRecordBytes_holds 10 rfl, slotRecordBytes_holds 11 rfl,
      slotRecordBytes_holds 12 rfl, slotRecordBytes_holds 13 rfl, slotRecordBytes_holds 14 rfl, slotRecordBytes_holds 15 rfl,
      slotRecordBytes_holds 16 rfl, slotRecordBytes_holds 17 rfl⟩
  case entry =>
    intro holds
    exact ⟨length_entryBytes n e, entryBytes_holds 0 rfl, entryBytes_holds 1 rfl, entryBytes_holds 2 rfl, entryBytes_holds 3 rfl,
      entryBytes_holds 4 rfl, entryBytes_holds 5 rfl, entryBytes_holds 6 rfl, entryBytes_holds 7 rfl, entryBytes_holds 8 rfl,
      entryBytes_holds 9 rfl, entryBytes_holds 10 rfl⟩

end Sys2Proof.Proofs

/-! Steps and the queue of waiting commands: O1 and O2. -/

namespace Sys2Proof.Proofs

open Sys2Proof Sys2Proof.Machine

/-! ### What a step does with the queue -/

/-- An empty queue idles the block (the model's choice, log entry 1). -/
theorem step_of_pending_nil {s : State} (h : s.pending = []) : step s = .next s := by
  simp [step, h]

theorem step_of_pending_cons {c : Instr} {rest : List Instr} {s : State} (h : s.pending = c :: rest) :
    step s = exec c { s with pending := rest } := by
  simp [step, h]

/-! ### What a command does with the queue -/

/-- Every command, whether or not it may write configuration, is an effect on the device alone. -/
theorem exec_exists_onDev (c : Instr) : ∃ f : Dev → Dev, ∀ s, exec c s = onDev f s := by
  cases hc : writesConfiguration c with
  | false =>
    obtain ⟨f, hf, -⟩ := exec_wellKeeps c hc
    exact ⟨f, hf⟩
  | true =>
    obtain ⟨f, hf, -⟩ := exec_wellKept c hc
    exact ⟨f, hf⟩

/-- An effect on the device completes, and leaves the queue as it is. -/
theorem onDev_completes (f : Dev → Dev) (s : State) : ∃ t, onDev f s = .next t ∧ t.pending = s.pending :=
  ⟨s.setDev (f s.dev), rfl, s.setDev_pending (f s.dev)⟩

/-- Settles O1, by the first command of the queue. -/
theorem stepRunsFrontCommand : Obligations.StepRunsFrontCommand :=
  fun _ _ _ h => step_of_pending_cons h

/-- Settles O2: the step on an empty queue, and the effect on the device alone that every command is. -/
theorem queueDiscipline : Obligations.QueueDiscipline := by
  refine ⟨fun _ h => step_of_pending_nil h, fun c s => ?completes⟩
  case completes =>
    obtain ⟨f, hf⟩ := exec_exists_onDev c
    rw [hf s]
    exact onDev_completes f s

end Sys2Proof.Proofs
